-- ==== Sys2Proof/Config.lean ====
section
/-! DEFINITION. The free values: constants with no body, for the values and orders the manual leaves open.
No proof can see what they are. -/

namespace Sys2Proof

/-- Which of several equally entitled requests or backlog items comes first (R48: "take places in either order",
R141: "may be served in either order"). The argument is the number of free choices taken before. Log 5. -/
opaque Config.choice : Nat → Nat

/-- Whether a CAPABILITY entry whose fitted byte is neither 0 nor 1 is taken as fitted (R79 gives "0 no, 1 yes"). Log 12. -/
opaque Config.fittedOther : Nat → Bool

/-- The stored threshold of a condition of kind NONE whose given threshold lies outside the part common to every
kind's range (R100 clamps it "like any other" and gives NONE no range). Log 13. -/
opaque Config.noneThreshold : Nat → Nat

end Sys2Proof
end

