-- ==== Sys2Proof/Word.lean ====
section
/-! DEFINITION. The byte of a frame: the only bit pattern the SC6 manual treats as bits (R78). -/

namespace Sys2Proof

/-- One byte of a frame (R78). -/
abbrev Byte := BitVec 8

/-- The low byte of a number. -/
def byteOf (n : Nat) : Byte := BitVec.ofNat 8 n

end Sys2Proof
end

