-- ==== Sys2Proof/Syntax.lean ====
section
/-! DEFINITION. The commands of the SC6: one constructor of `Instr` per row of spec/opcode_table.json, and the
operands they carry. A request's operands are the numbers its frame carries (R80), before any test. -/

namespace Sys2Proof

/-- The seven link ports (R61). -/
inductive Port where
  | trunk
  | stage (z : Fin 6)
  deriving DecidableEq, Repr

/-- A frame address: zone and unit, one byte each (R63, R78). -/
structure Addr where
  zone : Byte
  unit : Byte
  deriving DecidableEq, Repr

/-- What every arriving frame of a chain kind carries beside its payload: the milliseconds since the last command,
the port of arrival, the addresses and the sequence number (R78). -/
structure FrameHdr where
  dt : Nat
  port : Port
  dst : Addr
  src : Addr
  seq : Byte
  deriving DecidableEq, Repr

/-- The same for a REQUEST frame, whose destination is the device (R65, R184). -/
structure ReqHdr where
  dt : Nat
  port : Port
  src : Addr
  seq : Byte
  deriving DecidableEq, Repr

/-- One report of a TELEMETRY frame (R79). -/
structure Report where
  receiver : Nat
  tuned : Nat
  level : Nat
  pilot : Bool
  squelch : Bool
  busy : Bool
  dropouts : Nat
  deriving DecidableEq, Repr

/-- The payload of a SWEEP frame (R79); the sample count is the number of levels. -/
structure SweepData where
  start : Nat
  step : Nat
  lastPass : Bool
  survey : Bool
  levels : List Nat
  deriving DecidableEq, Repr

/-- One entry of a CAPABILITY frame, the fitted byte as carried (R79). -/
structure CapReport where
  receiver : Nat
  fitted : Nat
  low : Nat
  high : Nat
  step : Nat
  deriving DecidableEq, Repr

/-- The payload of a TUNE frame (R79). -/
structure TuneData where
  receiver : Nat
  target : Nat
  tag : Nat
  deriving DecidableEq, Repr

/-- The payload of a TUNE_REPORT frame (R79). -/
structure TuneReportData where
  receiver : Nat
  target : Nat
  result : Nat
  reason : Nat
  conflict : Nat
  deriving DecidableEq, Repr

/-- The operands of one watch condition (R98, R100). -/
structure CondOps where
  kind : Nat
  threshold : Nat
  persistence : Nat
  reach : Nat
  deriving DecidableEq, Repr

/-- The operands of WRITE_PROFILE after the profile number (R98, R100). -/
structure ProfileOps where
  level1 : CondOps
  level2 : CondOps
  combine : Nat
  window : Nat
  response : Nat
  returnOnClear : Nat
  clearDwell : Nat
  deriving DecidableEq, Repr

/-- One named setting of SET_RULES: its code, its group and its value (R80). -/
structure Setting where
  code : Nat
  group : Nat
  value : Nat
  deriving DecidableEq, Repr

/-- The operands STAGE_CHANNEL carries after the kind (R160, R161). -/
inductive StagedOps where
  | none
  | change (target fallback : Nat)
  | add (target fallback cls priority profile : Nat)
  deriving DecidableEq, Repr

/-- The requests of R80 with their operands in the order the owning rules list them. `malformed` stands for an unknown
code or a length that does not match the operands, with the code to be echoed. -/
inductive Request where
  | malformed (code : Nat)
  | readChannel (stage slot : Nat)
  | defineChannel (stage slot cls priority profile pinned : Nat)
  | removeChannel (stage slot : Nat)
  | writeChannel (stage slot cls priority profile pinned freq : Nat)
  | move (stage slot form operand roc : Nat)
  | revert (stage slot : Nat)
  | release (stage slot : Nat)
  | ackWatch (stage slot : Nat)
  | checkChannel (stage slot cand : Nat)
  | checkGroup (group cand : Nat)
  | stageChannel (stage slot kind : Nat) (ops : StagedOps)
  | commitStage (stage : Nat)
  | armStage (stage on : Nat)
  | addExclusion (first last scope : Nat)
  | removeExclusion (first last : Nat)
  | readExclusions (start : Nat)
  | addPool (group freq : Nat)
  | removePool (group freq : Nat)
  | loadPool (group count : Nat) (freqs : List Nat)
  | readPool (group : Nat)
  | writeProfile (number : Nat) (ops : ProfileOps)
  | readProfile (number : Nat)
  | setGroups (groups relations : List Nat)
  | setRules (settings : List Setting)
  | setGate (stage mode : Nat)
  | setLock (value : Nat)
  | setConfirm (value : Nat)
  | setSpan (stage start step size : Nat)
  | setNotices (values : List Nat)
  | go (stage slot : Nat)
  | drop (stage slot : Nat)
  | goAll
  | survey (stage start step count passes timeout : Nat)
  | readEvents (clear : Nat)
  | readCounters (clear start : Nat)
  | identify
  | restart
  deriving DecidableEq, Repr

/-- The candidate operands of CHECK: the channel form and the group form (R58). -/
inductive CheckOps where
  | channel (stage slot cand : Nat)
  | group (group cand : Nat)
  deriving DecidableEq, Repr

/-- The commands, one per row of spec/opcode_table.json. -/
inductive Instr where
  -- pins
  | powerOn
  | lineSignalLoss (dt : Nat) (port : Port)
  | silenceTimerExpiry (port : Port)
  -- frames
  | receiveFrame (dt : Nat) (port : Port) (bytes : List Byte)
  | telemetry (h : FrameHdr) (reports : List Report)
  | sweep (h : FrameHdr) (data : SweepData)
  | capability (h : FrameHdr) (entries : List CapReport)
  | tune (h : FrameHdr) (data : TuneData)
  | tuneReport (h : FrameHdr) (data : TuneReportData)
  -- requests
  | unknownRequest (h : ReqHdr) (code : Nat)
  | readChannel (h : ReqHdr) (stage slot : Nat)
  | defineChannel (h : ReqHdr) (stage slot cls priority profile pinned : Nat)
  | removeChannel (h : ReqHdr) (stage slot : Nat)
  | writeChannel (h : ReqHdr) (stage slot cls priority profile pinned freq : Nat)
  | move (h : ReqHdr) (stage slot form operand roc : Nat)
  | revert (h : ReqHdr) (stage slot : Nat)
  | release (h : ReqHdr) (stage slot : Nat)
  | ackWatch (h : ReqHdr) (stage slot : Nat)
  | check (h : ReqHdr) (ops : CheckOps)
  | stageChannel (h : ReqHdr) (stage slot kind : Nat) (ops : StagedOps)
  | commitStage (h : ReqHdr) (stage : Nat)
  | armStage (h : ReqHdr) (stage on : Nat)
  | addExclusion (h : ReqHdr) (first last scope : Nat)
  | removeExclusion (h : ReqHdr) (first last : Nat)
  | readExclusions (h : ReqHdr) (start : Nat)
  | addPool (h : ReqHdr) (group freq : Nat)
  | removePool (h : ReqHdr) (group freq : Nat)
  | loadPool (h : ReqHdr) (group count : Nat) (freqs : List Nat)
  | readPool (h : ReqHdr) (group : Nat)
  | writeProfile (h : ReqHdr) (number : Nat) (ops : ProfileOps)
  | readProfile (h : ReqHdr) (number : Nat)
  | setGroups (h : ReqHdr) (groups relations : List Nat)
  | setRules (h : ReqHdr) (settings : List Setting)
  | setGate (h : ReqHdr) (stage mode : Nat)
  | setLock (h : ReqHdr) (value : Nat)
  | setConfirm (h : ReqHdr) (value : Nat)
  | setSpan (h : ReqHdr) (stage start step size : Nat)
  | setNotices (h : ReqHdr) (values : List Nat)
  | go (h : ReqHdr) (stage slot : Nat)
  | drop (h : ReqHdr) (stage slot : Nat)
  | goAll (h : ReqHdr)
  | survey (h : ReqHdr) (stage start step count passes timeout : Nat)
  | readEvents (h : ReqHdr) (clear : Nat)
  | readCounters (h : ReqHdr) (clear start : Nat)
  | identify (h : ReqHdr)
  | restart (h : ReqHdr)
  -- expiries
  | windowDeadlineExpiry (stage : Fin 6) (slot : Fin 32)
  | settleDeadlineExpiry (stage : Fin 6) (slot : Fin 32)
  | proposalDeadlineExpiry (stage : Fin 6) (slot : Fin 32)
  | replyDeadlineExpiry (stage : Fin 6) (slot : Fin 32)
  | lockDeadlineExpiry (stage : Fin 6) (slot : Fin 32)
  | waitDeadlineExpiry (stage : Fin 6)
  | surveyDeadlineExpiry (stage : Fin 6)
  -- completions of the Compatibility Engine's service
  | guardCheckCompletion (dt : Nat)
  | postCheckCompletion (dt : Nat)
  | checkCompletion (dt : Nat)
  | operatorCheckCompletion (dt : Nat)
  | candidateCheckCompletion (dt : Nat)
  | openSearchCompletion (dt : Nat)
  | returnCheckCompletion (dt : Nat)
  | commitStepCompletion (dt : Nat)
  | poolCheckCompletion (dt : Nat)
  -- pins
  | lineSignalReturn (dt : Nat) (port : Port)
  deriving DecidableEq, Repr

end Sys2Proof
end

