-- ==== Sys2Proof/WellFormed.lean ====
section
/-! DEFINITION. Which commands can arrive: every operand fits the field that carries it (R79, R80), and every list has
a length its frame can carry. -/

namespace Sys2Proof

/-- One byte. -/
abbrev u8 (n : Nat) : Bool := decide (n < 256)
/-- Two bytes. -/
abbrev u16 (n : Nat) : Bool := decide (n < 65536)
/-- Four bytes. -/
abbrev u32 (n : Nat) : Bool := decide (n < 4294967296)

def Report.wf (r : Report) : Bool := u8 r.receiver && u16 r.tuned && u8 r.level && u8 r.dropouts
def CapReport.wf (e : CapReport) : Bool := u8 e.receiver && u8 e.fitted && u16 e.low && u16 e.high && u8 e.step
def SweepData.wf (d : SweepData) : Bool :=
  u16 d.start && decide (1 ≤ d.step ∧ d.step ≤ 8) && decide (1 ≤ d.levels.length ∧ d.levels.length ≤ 96) && d.levels.all u8
/-- A receiver above 7 makes a TUNE addressed to a rack malformed (R66). -/
def TuneData.wf (d : TuneData) : Bool := decide (d.receiver ≤ 7) && u16 d.target && u8 d.tag
def TuneReportData.wf (d : TuneReportData) : Bool :=
  u8 d.receiver && u16 d.target && u8 d.result && u8 d.reason && u8 d.conflict

/-- A TELEMETRY payload carries 1 to 8 reports (R67, R79). -/
def telemetryWf (rs : List Report) : Bool := decide (1 ≤ rs.length ∧ rs.length ≤ 8) && rs.all Report.wf
/-- A CAPABILITY payload carries 1 to 8 entries (R70, R79). -/
def capabilityWf (es : List CapReport) : Bool := decide (1 ≤ es.length ∧ es.length ≤ 8) && es.all CapReport.wf

def CondOps.wf (c : CondOps) : Bool := u8 c.kind && u8 c.threshold && u8 c.persistence && u8 c.reach
def ProfileOps.wf (p : ProfileOps) : Bool :=
  p.level1.wf && p.level2.wf && u8 p.combine && u32 p.window && u8 p.response && u8 p.returnOnClear && u8 p.clearDwell
/-- A site timer (codes 7 and 8) is carried in four bytes, every other setting in one (R80). -/
def Setting.wf (x : Setting) : Bool :=
  u8 x.code && u8 x.group && (if x.code = 7 ∨ x.code = 8 then u32 x.value else u8 x.value)
/-- The payload bytes of one setting of SET_RULES (R80). -/
def Setting.size (x : Setting) : Nat := if x.code = 7 ∨ x.code = 8 then 6 else 3

/-- The operands carried with a staged kind: none for KEEP and DROP, two for CHANGE, five for ADD (R160, R161). -/
def StagedOps.wf (kind : Nat) : StagedOps → Bool
  | .none => decide (kind ≠ 2 ∧ kind ≠ 3)
  | .change t f => decide (kind = 2) && u16 t && u8 f
  | .add t f c p q => decide (kind = 3) && u16 t && u8 f && u8 c && u8 p && u8 q

/-- The request codes of R80. -/
def requestCodes : List Nat :=
  [0x01, 0x02, 0x03, 0x04, 0x08, 0x09, 0x0A, 0x0B, 0x0C, 0x10, 0x11, 0x12,
   0x18, 0x19, 0x1A, 0x1B, 0x1C, 0x1D, 0x1E, 0x1F, 0x20, 0x21,
   0x28, 0x29, 0x2A, 0x2B, 0x2C, 0x2D, 0x30, 0x31, 0x32, 0x33, 0x38, 0x39, 0x3A, 0x3F]

/-- The operands of a request fit their fields, and its payload fits a frame (R78, R80). -/
def Request.wf : Request → Bool
  | .malformed code => u8 code && !requestCodes.contains code
  | .readChannel st sl => u8 st && u8 sl
  | .defineChannel st sl c p q n => u8 st && u8 sl && u8 c && u8 p && u8 q && u8 n
  | .removeChannel st sl => u8 st && u8 sl
  | .writeChannel st sl c p q n f => u8 st && u8 sl && u8 c && u8 p && u8 q && u8 n && u16 f
  | .move st sl f o r => u8 st && u8 sl && u8 f && u16 o && u8 r
  | .revert st sl => u8 st && u8 sl
  | .release st sl => u8 st && u8 sl
  | .ackWatch st sl => u8 st && u8 sl
  | .checkChannel st sl c => u8 st && u8 sl && u16 c
  | .checkGroup g c => u8 g && u16 c
  | .stageChannel st sl k ops => u8 st && u8 sl && u8 k && ops.wf k
  | .commitStage st => u8 st
  | .armStage st v => u8 st && u8 v
  | .addExclusion a b sc => u16 a && u16 b && u8 sc
  | .removeExclusion a b => u16 a && u16 b
  | .readExclusions p => u8 p
  | .addPool g f => u8 g && u16 f
  | .removePool g f => u8 g && u16 f
  | .loadPool g n fs => u8 g && u8 n && decide (fs.length = n ∧ n ≤ 58) && fs.all u16
  | .readPool g => u8 g
  | .writeProfile n ops => u8 n && ops.wf
  | .readProfile n => u8 n
  | .setGroups gs rs => decide (gs.length = 6 ∧ rs.length = 6) && gs.all u8 && rs.all u8
  | .setRules xs => xs.all Setting.wf && decide ((xs.map Setting.size).sum ≤ 118)
  | .setGate st m => u8 st && u8 m
  | .setLock v => u8 v
  | .setConfirm v => u8 v
  | .setSpan st a b c => u8 st && u16 a && u8 b && u8 c
  | .setNotices vs => decide (vs.length = 15) && vs.all u8
  | .go st sl => u8 st && u8 sl
  | .drop st sl => u8 st && u8 sl
  | .goAll => true
  | .survey st a b c d t => u8 st && u16 a && u8 b && u8 c && u8 d && u32 t
  | .readEvents c => u8 c
  | .readCounters c p => u8 c && u8 p
  | .identify => true
  | .restart => true

/-- The request a CHECK command carries (R58). -/
def CheckOps.request : CheckOps → Request
  | .channel st sl c => .checkChannel st sl c
  | .group g c => .checkGroup g c

/-- A command that can arrive. -/
def Instr.wf : Instr → Bool
  | .telemetry _ rs => telemetryWf rs
  | .sweep _ d => d.wf
  | .capability _ es => capabilityWf es
  | .tune _ d => d.wf
  | .tuneReport _ d => d.wf
  | .unknownRequest _ code => (Request.malformed code).wf
  | .readChannel _ st sl => (Request.readChannel st sl).wf
  | .defineChannel _ st sl c p q n => (Request.defineChannel st sl c p q n).wf
  | .removeChannel _ st sl => (Request.removeChannel st sl).wf
  | .writeChannel _ st sl c p q n f => (Request.writeChannel st sl c p q n f).wf
  | .move _ st sl f o r => (Request.move st sl f o r).wf
  | .revert _ st sl => (Request.revert st sl).wf
  | .release _ st sl => (Request.release st sl).wf
  | .ackWatch _ st sl => (Request.ackWatch st sl).wf
  | .check _ ops => ops.request.wf
  | .stageChannel _ st sl k ops => (Request.stageChannel st sl k ops).wf
  | .commitStage _ st => (Request.commitStage st).wf
  | .armStage _ st v => (Request.armStage st v).wf
  | .addExclusion _ a b sc => (Request.addExclusion a b sc).wf
  | .removeExclusion _ a b => (Request.removeExclusion a b).wf
  | .readExclusions _ p => (Request.readExclusions p).wf
  | .addPool _ g f => (Request.addPool g f).wf
  | .removePool _ g f => (Request.removePool g f).wf
  | .loadPool _ g n fs => (Request.loadPool g n fs).wf
  | .readPool _ g => (Request.readPool g).wf
  | .writeProfile _ n ops => (Request.writeProfile n ops).wf
  | .readProfile _ n => (Request.readProfile n).wf
  | .setGroups _ gs rs => (Request.setGroups gs rs).wf
  | .setRules _ xs => (Request.setRules xs).wf
  | .setGate _ st m => (Request.setGate st m).wf
  | .setLock _ v => (Request.setLock v).wf
  | .setConfirm _ v => (Request.setConfirm v).wf
  | .setSpan _ st a b c => (Request.setSpan st a b c).wf
  | .setNotices _ vs => (Request.setNotices vs).wf
  | .go _ st sl => (Request.go st sl).wf
  | .drop _ st sl => (Request.drop st sl).wf
  | .survey _ st a b c d t => (Request.survey st a b c d t).wf
  | .readEvents _ c => (Request.readEvents c).wf
  | .readCounters _ c p => (Request.readCounters c p).wf
  | .powerOn | .lineSignalLoss _ _ | .silenceTimerExpiry _ | .receiveFrame _ _ _ | .goAll _ | .identify _ | .restart _
  | .windowDeadlineExpiry _ _ | .settleDeadlineExpiry _ _ | .proposalDeadlineExpiry _ _ | .replyDeadlineExpiry _ _
  | .lockDeadlineExpiry _ _ | .waitDeadlineExpiry _ | .surveyDeadlineExpiry _ | .guardCheckCompletion _
  | .postCheckCompletion _ | .checkCompletion _ | .operatorCheckCompletion _ | .candidateCheckCompletion _
  | .openSearchCompletion _ | .returnCheckCompletion _ | .commitStepCompletion _ | .poolCheckCompletion _
  | .lineSignalReturn _ _ => true

end Sys2Proof
end

