-- ==== Sys2Proof/Decode.lean ====
section
/-! DEFINITION. The frame layouts of section 4.9: the check bytes, the frame, the payloads of the chain kinds and the
REQUEST payload, each read and written; and the host's `decodeTableWord`. -/

namespace Sys2Proof

/-! ## Multi-byte fields, high byte first -/

def be16 (n : Nat) : List Byte := [byteOf (n / 256), byteOf n]
def be32 (n : Nat) : List Byte := [byteOf (n / 16777216), byteOf (n / 65536), byteOf (n / 256), byteOf n]
/-- The number two bytes spell. -/
def of16 (a b : Nat) : Nat := a * 256 + b
/-- The number four bytes spell. -/
def of32 (a b c d : Nat) : Nat := ((a * 256 + b) * 256 + c) * 256 + d
/-- A flag byte's bit, bit 0 least significant (R79). -/
def flagBit (n i : Nat) : Bool := decide (n / 2 ^ i % 2 = 1)
/-- Two's complement of a two-byte field (R80, relative offset). -/
def signed16 (n : Nat) : Int := if n < 32768 then (n : Int) else (n : Int) - 65536

/-! ## The check bytes (R78) -/

/-- One bit of the CRC with polynomial x^16 + x^12 + x^5 + 1. -/
def crcBit (crc : BitVec 16) (bit : Bool) : BitVec 16 :=
  if crc.msb ^^ bit then (crc <<< 1) ^^^ 0x1021#16 else crc <<< 1

/-- One byte of the CRC, most significant bit first. -/
def crcByte (crc : BitVec 16) (b : Byte) : BitVec 16 :=
  [7, 6, 5, 4, 3, 2, 1, 0].foldl (fun c i => crcBit c (b.getLsbD i)) crc

/-- The CRC of R78: every initial bit set, no final inversion. -/
def crc16 (bs : List Byte) : BitVec 16 := bs.foldl crcByte 0xFFFF#16

/-- The two check bytes, high byte first. -/
def checkBytes (bs : List Byte) : List Byte := be16 (crc16 bs).toNat

/-! ## The frame (R78) -/

/-- A valid frame: its addresses, its kind code, its sequence number and its payload. The length field and the check
bytes are functions of these. -/
structure Frame where
  dst : Addr
  src : Addr
  kind : Byte
  seq : Byte
  payload : List Byte
  deriving DecidableEq, Repr

/-- Header and payload, the bytes the check is computed over. -/
def Frame.body (f : Frame) : List Byte :=
  f.dst.zone :: f.dst.unit :: f.src.zone :: f.src.unit :: f.kind :: f.seq :: byteOf f.payload.length :: f.payload

/-- The bytes of a frame on the line. -/
def Frame.wire (f : Frame) : List Byte := f.body ++ checkBytes f.body

/-- The integrity tests of R62: at least 9 bytes, a length field of at most 120, a size of 9 plus the length, and check
bytes equal to the CRC. `none` is a bad frame. -/
def parseFrame : List Byte → Option Frame
  | dz :: du :: sz :: su :: k :: sq :: len :: rest =>
    let f : Frame := ⟨⟨dz, du⟩, ⟨sz, su⟩, k, sq, rest.take len.toNat⟩
    if 120 < len.toNat then none
    else if rest.length ≠ len.toNat + 2 then none
    else if rest.drop len.toNat = checkBytes (dz :: du :: sz :: su :: k :: sq :: len :: f.payload) then some f
    else none
  | _ => none

/-! ## Kind codes (R78) -/

def kTelemetry : Byte := 0x10#8
def kSweep : Byte := 0x11#8
def kCapability : Byte := 0x12#8
def kTune : Byte := 0x20#8
def kTuneReport : Byte := 0x21#8
def kSweepSet : Byte := 0x22#8
def kQuery : Byte := 0x23#8
def kRequest : Byte := 0x30#8
def kReply : Byte := 0x31#8
def kNotice : Byte := 0x32#8

/-! ## Payloads of the chain kinds (R79) -/

/-- A payload as the device reads it; `other` is a payload it does not read. -/
inductive Payload where
  | telemetry (reports : List Report)
  | sweep (data : SweepData)
  | capability (entries : List CapReport)
  | tune (data : TuneData)
  | tuneReport (data : TuneReportData)
  | other
  deriving DecidableEq, Repr

/-- Reports of 6 bytes each, to the end of the payload. -/
def parseReports : List Nat → Option (List Report)
  | [] => some []
  | r :: t1 :: t0 :: l :: f :: d :: rest =>
    (parseReports rest).map (⟨r, of16 t1 t0, l, flagBit f 0, flagBit f 1, flagBit f 2, d⟩ :: ·)
  | _ => none

/-- Entries of 7 bytes each, to the end of the payload. -/
def parseCaps : List Nat → Option (List CapReport)
  | [] => some []
  | r :: f :: a1 :: a0 :: b1 :: b0 :: k :: rest =>
    (parseCaps rest).map (⟨r, f, of16 a1 a0, of16 b1 b0, k⟩ :: ·)
  | _ => none

def parseTelemetry : List Nat → Payload
  | n :: rest =>
    match parseReports rest with
    | some rs => if rs.length = n ∧ 1 ≤ n ∧ n ≤ 8 then .telemetry rs else .other
    | none => .other
  | [] => .other

/-- R68: a step outside 1 to 8, or a count outside 1 to 96 or unlike the payload's length, is not read. -/
def parseSweep : List Nat → Payload
  | s1 :: s0 :: k :: n :: f :: levels =>
    if 1 ≤ k ∧ k ≤ 8 ∧ 1 ≤ n ∧ n ≤ 96 ∧ levels.length = n then
      .sweep ⟨of16 s1 s0, k, flagBit f 0, flagBit f 1, levels⟩
    else .other
  | _ => .other

def parseCapability : List Nat → Payload
  | n :: rest =>
    match parseCaps rest with
    | some es => if es.length = n ∧ 1 ≤ n ∧ n ≤ 8 then .capability es else .other
    | none => .other
  | [] => .other

/-- R66: a TUNE whose payload is not 4 bytes or whose receiver exceeds 7 is malformed. -/
def parseTune : List Nat → Payload
  | [r, t1, t0, g] => if r ≤ 7 then .tune ⟨r, of16 t1 t0, g⟩ else .other
  | _ => .other

def parseTuneReport : List Nat → Payload
  | [r, t1, t0, res, why, c] => .tuneReport ⟨r, of16 t1 t0, res, why, c⟩
  | _ => .other

/-- The payload of a frame, by its kind. -/
def parsePayload (kind : Byte) (p : List Byte) : Payload :=
  let n := p.map BitVec.toNat
  if kind = kTelemetry then parseTelemetry n
  else if kind = kSweep then parseSweep n
  else if kind = kCapability then parseCapability n
  else if kind = kTune then parseTune n
  else if kind = kTuneReport then parseTuneReport n
  else .other

/-- A flag byte from its bits. -/
def flagByte (b0 b1 b2 : Bool) : Byte := byteOf (b0.toNat + 2 * b1.toNat + 4 * b2.toNat)

def encodeReport (r : Report) : List Byte :=
  [byteOf r.receiver] ++ be16 r.tuned ++ [byteOf r.level, flagByte r.pilot r.squelch r.busy, byteOf r.dropouts]
def encodeCap (e : CapReport) : List Byte :=
  [byteOf e.receiver, byteOf e.fitted] ++ be16 e.low ++ be16 e.high ++ [byteOf e.step]

/-- The kind code and the payload bytes of a chain payload (R79). -/
def encodePayload : Payload → Byte × List Byte
  | .telemetry rs => (kTelemetry, byteOf rs.length :: rs.flatMap encodeReport)
  | .sweep d => (kSweep, be16 d.start ++ [byteOf d.step, byteOf d.levels.length, flagByte d.lastPass d.survey false]
      ++ d.levels.map byteOf)
  | .capability es => (kCapability, byteOf es.length :: es.flatMap encodeCap)
  | .tune d => (kTune, [byteOf d.receiver] ++ be16 d.target ++ [byteOf d.tag])
  | .tuneReport d => (kTuneReport, [byteOf d.receiver] ++ be16 d.target
      ++ [byteOf d.result, byteOf d.reason, byteOf d.conflict])
  | .other => (0#8, [])

/-- The frame that carries a chain payload from and to the addresses of its header. -/
def chainFrame (h : FrameHdr) (p : Payload) : Frame :=
  ⟨h.dst, h.src, (encodePayload p).1, h.seq, (encodePayload p).2⟩

/-! ## REQUEST payloads (R80) -/

/-- Frequencies of two bytes each. -/
def parseFreqs : List Nat → Option (List Nat)
  | [] => some []
  | a :: b :: rest => (parseFreqs rest).map (of16 a b :: ·)
  | _ => none

/-- Settings of SET_RULES: code, group and value, the value four bytes for the codes 7 and 8 and one for the others. -/
def parseSettings : List Nat → Option (List Setting)
  | [] => some []
  | [_] => none
  | [_, _] => none
  | c :: g :: v :: rest =>
    if c = 7 ∨ c = 8 then
      match rest with
      | v2 :: v1 :: v0 :: rest' => (parseSettings rest').map (⟨c, g, of32 v v2 v1 v0⟩ :: ·)
      | _ => none
    else (parseSettings rest).map (⟨c, g, v⟩ :: ·)

/-- Operands of exactly one byte each. -/
def ops1 (c : Nat) (o : List Nat) (k : Nat → Request) : Request :=
  match o with
  | [a] => k a
  | _ => .malformed c
def ops2 (c : Nat) (o : List Nat) (k : Nat → Nat → Request) : Request :=
  match o with
  | [a, b] => k a b
  | _ => .malformed c
def ops3 (c : Nat) (o : List Nat) (k : Nat → Nat → Nat → Request) : Request :=
  match o with
  | [a, b, d] => k a b d
  | _ => .malformed c

def parseCondOps (a b c d : Nat) : CondOps := ⟨a, b, c, d⟩

/-- STAGE_CHANNEL: the operands must match the kind (R160, R161). A kind outside the four passes with no further operand, to
be refused for its value. Log 48. -/
def parseStage (c : Nat) : List Nat → Request
  | [st, sl, k] => if k = 2 ∨ k = 3 then .malformed c else .stageChannel st sl k .none
  | [st, sl, k, t1, t0, f] => if k = 2 then .stageChannel st sl k (.change (of16 t1 t0) f) else .malformed c
  | [st, sl, k, t1, t0, f, cl, p, q] =>
    if k = 3 then .stageChannel st sl k (.add (of16 t1 t0) f cl p q) else .malformed c
  | _ => .malformed c

/-- The request of code `c` with operand bytes `o`; anything that matches no row of R80 is malformed. -/
def parseOps (c : Nat) (o : List Nat) : Request :=
  match c with
  | 0x01 => ops2 c o .readChannel
  | 0x02 => match o with | [a, b, d, e, f, g] => .defineChannel a b d e f g | _ => .malformed c
  | 0x03 => ops2 c o .removeChannel
  | 0x04 => match o with | [a, b, d, e, f, g, h, i] => .writeChannel a b d e f g (of16 h i) | _ => .malformed c
  | 0x08 => match o with | [a, b, d, e, f, g] => .move a b d (of16 e f) g | _ => .malformed c
  | 0x09 => ops2 c o .revert
  | 0x0A => ops2 c o .release
  | 0x0B => ops2 c o .ackWatch
  | 0x0C => match o with
      | [a, b, d, e] => .checkChannel a b (of16 d e)
      | [a, b, d] => .checkGroup a (of16 b d)
      | _ => .malformed c
  | 0x10 => parseStage c o
  | 0x11 => ops1 c o .commitStage
  | 0x12 => ops2 c o .armStage
  | 0x18 => match o with | [a, b, d, e, f] => .addExclusion (of16 a b) (of16 d e) f | _ => .malformed c
  | 0x19 => match o with | [a, b, d, e] => .removeExclusion (of16 a b) (of16 d e) | _ => .malformed c
  | 0x1A => ops1 c o .readExclusions
  | 0x1B => ops3 c o (fun g a b => .addPool g (of16 a b))
  | 0x1C => ops3 c o (fun g a b => .removePool g (of16 a b))
  | 0x1D => match o with
      | g :: n :: rest => match parseFreqs rest with
          | some fs => if fs.length = n then .loadPool g n fs else .malformed c
          | none => .malformed c
      | _ => .malformed c
  | 0x1E => ops1 c o .readPool
  | 0x1F => match o with
      | [n, a1, a2, a3, a4, b1, b2, b3, b4, cb, w3, w2, w1, w0, r, y, d] =>
        .writeProfile n ⟨parseCondOps a1 a2 a3 a4, parseCondOps b1 b2 b3 b4, cb, of32 w3 w2 w1 w0, r, y, d⟩
      | _ => .malformed c
  | 0x20 => ops1 c o .readProfile
  | 0x21 => if o.length = 12 then .setGroups (o.take 6) (o.drop 6) else .malformed c
  | 0x28 => match o with
      | n :: rest => match parseSettings rest with
          | some xs => if xs.length = n then .setRules xs else .malformed c
          | none => .malformed c
      | _ => .malformed c
  | 0x29 => ops2 c o .setGate
  | 0x2A => ops1 c o .setLock
  | 0x2B => ops1 c o .setConfirm
  | 0x2C => match o with | [a, b, d, e, f] => .setSpan a (of16 b d) e f | _ => .malformed c
  | 0x2D => if o.length = 15 then .setNotices o else .malformed c
  | 0x30 => ops2 c o .go
  | 0x31 => ops2 c o .drop
  | 0x32 => match o with | [] => .goAll | _ => .malformed c
  | 0x33 => match o with
      | [a, b, d, e, f, g, t3, t2, t1, t0] => .survey a (of16 b d) e f g (of32 t3 t2 t1 t0)
      | _ => .malformed c
  | 0x38 => ops1 c o .readEvents
  | 0x39 => ops2 c o .readCounters
  | 0x3A => match o with | [] => .identify | _ => .malformed c
  | 0x3F => match o with | [] => .restart | _ => .malformed c
  | _ => .malformed c

/-- The request a REQUEST frame's payload carries (R80). A payload with no code byte is malformed, and the code echoed
is 255, the absent value. Log 18. -/
def parseRequest (p : List Byte) : Request :=
  match p.map BitVec.toNat with
  | [] => .malformed 255
  | c :: o => parseOps c o

def encodeCond (c : CondOps) : List Byte :=
  [byteOf c.kind, byteOf c.threshold, byteOf c.persistence, byteOf c.reach]
def encodeSetting (x : Setting) : List Byte :=
  [byteOf x.code, byteOf x.group] ++ (if x.code = 7 ∨ x.code = 8 then be32 x.value else [byteOf x.value])
def encodeStaged : StagedOps → List Byte
  | .none => []
  | .change t f => be16 t ++ [byteOf f]
  | .add t f c p q => be16 t ++ [byteOf f, byteOf c, byteOf p, byteOf q]

/-- The request code (R80). -/
def Request.code : Request → Nat
  | .malformed c => c
  | .readChannel .. => 0x01
  | .defineChannel .. => 0x02
  | .removeChannel .. => 0x03
  | .writeChannel .. => 0x04
  | .move .. => 0x08
  | .revert .. => 0x09
  | .release .. => 0x0A
  | .ackWatch .. => 0x0B
  | .checkChannel .. => 0x0C
  | .checkGroup .. => 0x0C
  | .stageChannel .. => 0x10
  | .commitStage .. => 0x11
  | .armStage .. => 0x12
  | .addExclusion .. => 0x18
  | .removeExclusion .. => 0x19
  | .readExclusions .. => 0x1A
  | .addPool .. => 0x1B
  | .removePool .. => 0x1C
  | .loadPool .. => 0x1D
  | .readPool .. => 0x1E
  | .writeProfile .. => 0x1F
  | .readProfile .. => 0x20
  | .setGroups .. => 0x21
  | .setRules .. => 0x28
  | .setGate .. => 0x29
  | .setLock .. => 0x2A
  | .setConfirm .. => 0x2B
  | .setSpan .. => 0x2C
  | .setNotices .. => 0x2D
  | .go .. => 0x30
  | .drop .. => 0x31
  | .goAll => 0x32
  | .survey .. => 0x33
  | .readEvents .. => 0x38
  | .readCounters .. => 0x39
  | .identify => 0x3A
  | .restart => 0x3F

/-- The operand bytes of a request, in the order the owning rules list them (R80). -/
def encodeOps : Request → List Byte
  | .malformed _ => []
  | .readChannel st sl => [byteOf st, byteOf sl]
  | .defineChannel st sl c p q n => [byteOf st, byteOf sl, byteOf c, byteOf p, byteOf q, byteOf n]
  | .removeChannel st sl => [byteOf st, byteOf sl]
  | .writeChannel st sl c p q n f => [byteOf st, byteOf sl, byteOf c, byteOf p, byteOf q, byteOf n] ++ be16 f
  | .move st sl f o r => [byteOf st, byteOf sl, byteOf f] ++ be16 o ++ [byteOf r]
  | .revert st sl => [byteOf st, byteOf sl]
  | .release st sl => [byteOf st, byteOf sl]
  | .ackWatch st sl => [byteOf st, byteOf sl]
  | .checkChannel st sl c => [byteOf st, byteOf sl] ++ be16 c
  | .checkGroup g c => [byteOf g] ++ be16 c
  | .stageChannel st sl k ops => [byteOf st, byteOf sl, byteOf k] ++ encodeStaged ops
  | .commitStage st => [byteOf st]
  | .armStage st v => [byteOf st, byteOf v]
  | .addExclusion a b sc => be16 a ++ be16 b ++ [byteOf sc]
  | .removeExclusion a b => be16 a ++ be16 b
  | .readExclusions p => [byteOf p]
  | .addPool g f => [byteOf g] ++ be16 f
  | .removePool g f => [byteOf g] ++ be16 f
  | .loadPool g n fs => [byteOf g, byteOf n] ++ fs.flatMap be16
  | .readPool g => [byteOf g]
  | .writeProfile n p => [byteOf n] ++ encodeCond p.level1 ++ encodeCond p.level2 ++ [byteOf p.combine] ++ be32 p.window
      ++ [byteOf p.response, byteOf p.returnOnClear, byteOf p.clearDwell]
  | .readProfile n => [byteOf n]
  | .setGroups gs rs => gs.map byteOf ++ rs.map byteOf
  | .setRules xs => byteOf xs.length :: xs.flatMap encodeSetting
  | .setGate st m => [byteOf st, byteOf m]
  | .setLock v => [byteOf v]
  | .setConfirm v => [byteOf v]
  | .setSpan st a b c => [byteOf st] ++ be16 a ++ [byteOf b, byteOf c]
  | .setNotices vs => vs.map byteOf
  | .go st sl => [byteOf st, byteOf sl]
  | .drop st sl => [byteOf st, byteOf sl]
  | .goAll => []
  | .survey st a b c d t => [byteOf st] ++ be16 a ++ [byteOf b, byteOf c, byteOf d] ++ be32 t
  | .readEvents c => [byteOf c]
  | .readCounters c p => [byteOf c, byteOf p]
  | .identify => []
  | .restart => []

/-- A REQUEST payload: the code and the operands (R80). -/
def encodeRequest (r : Request) : List Byte := byteOf r.code :: encodeOps r

/-- The address of the SC6 itself: zone 6, unit 1 (section 4.3). -/
def deviceAddr : Addr := ⟨6#8, 1#8⟩
/-- The address of the coordination station: zone 6, unit 0 (section 4.3). -/
def stationAddr : Addr := ⟨6#8, 0#8⟩

/-- The frame that carries a request to the device (R65, R80). -/
def requestFrame (h : ReqHdr) (r : Request) : Frame :=
  ⟨deviceAddr, h.src, kRequest, h.seq, encodeRequest r⟩

/-- The payload of the frame whose arrival a command is; none for a command that is not the arrival of a frame of one
kind (R79, R80). -/
def payloadOf : Instr → Option (List Byte)
  | .telemetry _ rs => some (encodePayload (.telemetry rs)).2
  | .sweep _ d => some (encodePayload (.sweep d)).2
  | .capability _ es => some (encodePayload (.capability es)).2
  | .tune _ d => some (encodePayload (.tune d)).2
  | .tuneReport _ d => some (encodePayload (.tuneReport d)).2
  | .unknownRequest _ code => some (encodeRequest (.malformed code))
  | .readChannel _ st sl => some (encodeRequest (.readChannel st sl))
  | .defineChannel _ st sl c p q n => some (encodeRequest (.defineChannel st sl c p q n))
  | .removeChannel _ st sl => some (encodeRequest (.removeChannel st sl))
  | .writeChannel _ st sl c p q n f => some (encodeRequest (.writeChannel st sl c p q n f))
  | .move _ st sl f o r => some (encodeRequest (.move st sl f o r))
  | .revert _ st sl => some (encodeRequest (.revert st sl))
  | .release _ st sl => some (encodeRequest (.release st sl))
  | .ackWatch _ st sl => some (encodeRequest (.ackWatch st sl))
  | .check _ ops => some (encodeRequest ops.request)
  | .stageChannel _ st sl k ops => some (encodeRequest (.stageChannel st sl k ops))
  | .commitStage _ st => some (encodeRequest (.commitStage st))
  | .armStage _ st v => some (encodeRequest (.armStage st v))
  | .addExclusion _ a b sc => some (encodeRequest (.addExclusion a b sc))
  | .removeExclusion _ a b => some (encodeRequest (.removeExclusion a b))
  | .readExclusions _ p => some (encodeRequest (.readExclusions p))
  | .addPool _ g f => some (encodeRequest (.addPool g f))
  | .removePool _ g f => some (encodeRequest (.removePool g f))
  | .loadPool _ g n fs => some (encodeRequest (.loadPool g n fs))
  | .readPool _ g => some (encodeRequest (.readPool g))
  | .writeProfile _ n ops => some (encodeRequest (.writeProfile n ops))
  | .readProfile _ n => some (encodeRequest (.readProfile n))
  | .setGroups _ gs rs => some (encodeRequest (.setGroups gs rs))
  | .setRules _ xs => some (encodeRequest (.setRules xs))
  | .setGate _ st m => some (encodeRequest (.setGate st m))
  | .setLock _ v => some (encodeRequest (.setLock v))
  | .setConfirm _ v => some (encodeRequest (.setConfirm v))
  | .setSpan _ st a b c => some (encodeRequest (.setSpan st a b c))
  | .setNotices _ vs => some (encodeRequest (.setNotices vs))
  | .go _ st sl => some (encodeRequest (.go st sl))
  | .drop _ st sl => some (encodeRequest (.drop st sl))
  | .goAll _ => some (encodeRequest .goAll)
  | .survey _ st a b c d t => some (encodeRequest (.survey st a b c d t))
  | .readEvents _ c => some (encodeRequest (.readEvents c))
  | .readCounters _ c p => some (encodeRequest (.readCounters c p))
  | .identify _ => some (encodeRequest .identify)
  | .restart _ => some (encodeRequest .restart)
  | .powerOn | .lineSignalLoss _ _ | .silenceTimerExpiry _ | .receiveFrame _ _ _
  | .windowDeadlineExpiry _ _ | .settleDeadlineExpiry _ _ | .proposalDeadlineExpiry _ _ | .replyDeadlineExpiry _ _
  | .lockDeadlineExpiry _ _ | .waitDeadlineExpiry _ | .surveyDeadlineExpiry _ | .guardCheckCompletion _
  | .postCheckCompletion _ | .checkCompletion _ | .operatorCheckCompletion _ | .candidateCheckCompletion _
  | .openSearchCompletion _ | .returnCheckCompletion _ | .commitStepCompletion _ | .poolCheckCompletion _
  | .lineSignalReturn _ _ => none

/-! ## The host's interface -/

/-- The command a word spells by the bits of spec/opcode_table.json. No row of the table gives bits, so no word spells
a command. Log 30. -/
def decodeTableWord (_nbits _w : Nat) : Option Instr := none

end Sys2Proof
end

