-- ==== Sys2Proof/Machine/State.lean ====
section
/-! DEFINITION. The state of the SC6: every table, record, register, timer, counter and queue the manual gives it, as
plain data, and its value at power-on (R195). -/

namespace Sys2Proof.Machine

/-! ## Names and places -/

abbrev Stage := Fin 6
abbrev Slot := Fin 32
abbrev Group := Fin 4

/-- A channel: a stage and a slot (R2). -/
structure Chan where
  stage : Stage
  slot : Slot
  deriving DecidableEq, Repr

/-- The position of a channel among the 192, in plan order (R25). -/
def Chan.idx (c : Chan) : Fin 192 := ⟨32 * c.stage.val + c.slot.val, by omega⟩

/-- A set of coupling groups, bit g for group g (R80). -/
abbrev GroupSet := BitVec 4

/-! ## Channel records (R3) -/

inductive ChState where
  | unused | parked | active | moving | held | dark
  deriving DecidableEq, Repr
/-- The states a channel can return to (R3). -/
inductive Resting where
  | active | held | parked
  deriving DecidableEq, Repr
inductive DarkFrom where
  | active | held | moving
  deriving DecidableEq, Repr
inductive HeldCause where
  | freeze | doubleFault | noCandidate
  deriving DecidableEq, Repr
inductive TxClass where
  | low | high
  deriving DecidableEq, Repr
inductive Priority where
  | normal | lead
  deriving DecidableEq, Repr
inductive WatchState where
  | off | armed | suspect | fired
  deriving DecidableEq, Repr

/-- The watch of a channel (R102). -/
structure Watch where
  st : WatchState
  run1 : Nat
  run2 : Nat
  window : Option Nat
  deriving DecidableEq, Repr

/-- The return watch of a channel (R115). -/
structure ReturnWatch where
  freq : Nat
  run : Nat
  dwell : Nat
  deriving DecidableEq, Repr

/-- The last report of a receiver (R3, R67). -/
structure LastReport where
  tuned : Nat
  level : Nat
  pilot : Bool
  squelch : Bool
  busy : Bool
  time : Nat
  deriving DecidableEq, Repr

/-- A channel record (R3). -/
structure ChanRec where
  state : ChState
  assigned : Option Nat
  pending : Option Nat
  ret : Option Resting
  darkFrom : Option DarkFrom
  heldCause : Option HeldCause
  prior : Option Nat
  history : List Nat
  cls : TxClass
  priority : Priority
  profile : Option (Fin 8)
  pinned : Bool
  offPlan : Bool
  exclConflict : Bool
  returnWatch : Option ReturnWatch
  lastReport : Option LastReport
  watch : Watch
  settle : Option Nat
  moveCount : Nat
  deriving DecidableEq, Repr

/-- A watch that is OFF, with runs 0 and no window deadline (R102). -/
def Watch.off : Watch := ⟨.off, 0, 0, none⟩
/-- A watch that has just been armed. -/
def Watch.armed : Watch := ⟨.armed, 0, 0, none⟩

/-- A record at its power-on values (R4). -/
def ChanRec.reset : ChanRec where
  state := .unused
  assigned := none
  pending := none
  ret := none
  darkFrom := none
  heldCause := none
  prior := none
  history := []
  cls := .low
  priority := .normal
  profile := none
  pinned := false
  offPlan := false
  exclConflict := false
  returnWatch := none
  lastReport := none
  watch := Watch.off
  settle := none
  moveCount := 0

/-! ## The rest of the Frequency Plan -/

/-- A capability entry (R20). -/
structure Cap where
  fitted : Bool
  low : Nat
  high : Nat
  step : Nat
  deriving DecidableEq, Repr

/-- The relation of an off-diagonal pair of groups (R15). -/
inductive Rel where
  | near | far
  deriving DecidableEq, Repr

/-- An exclusion entry (R16). -/
structure Excl where
  first : Nat
  last : Nat
  scope : GroupSet
  deriving DecidableEq, Repr

/-- The spacing rules (R41). -/
structure Spacing where
  scc : Nat
  snear : Nat
  s3 : Nat
  s5 : Nat
  s3t : Nat
  xhi : Nat
  guard : Nat
  deriving DecidableEq, Repr

/-- The options of a coupling group (R42). -/
structure GroupOpts where
  fifth : Bool
  three : Bool
  openSearch : Bool
  downshift : Nat
  recycle : Bool
  floor : Nat
  dwell : Nat
  deriving DecidableEq, Repr

/-! ## Watch profiles (R98) -/

inductive CondKind where
  | foreign | dropout | sweepHit | none
  deriving DecidableEq, Repr
inductive Combine where
  | sequence | either
  deriving DecidableEq, Repr
inductive Response where
  | report | move | freeze
  deriving DecidableEq, Repr
structure Cond where
  kind : CondKind
  threshold : Nat
  persistence : Nat
  reach : Nat
  deriving DecidableEq, Repr
structure Profile where
  level1 : Cond
  level2 : Cond
  combine : Combine
  window : Nat
  response : Response
  returnOnClear : Bool
  clearDwell : Nat
  deriving DecidableEq, Repr

/-- Profile 0 at power-on (R98). -/
def Profile.zero : Profile where
  level1 := ⟨.foreign, 30, 2, 0⟩
  level2 := ⟨.dropout, 3, 1, 0⟩
  combine := .sequence
  window := 3000
  response := .move
  returnOnClear := true
  clearDwell := 10
/-- Profiles 1 to 7 at power-on (R98). -/
def Profile.inertReset : Profile := { Profile.zero with level1 := ⟨.none, 30, 2, 0⟩ }

/-! ## Backup pools (R120) -/

inductive PoolState where
  | unchecked | ready | dirty | blocked
  deriving DecidableEq, Repr
structure PoolEntry where
  freq : Nat
  state : PoolState
  run : Nat
  level : Option Nat
  inSearch : Bool
  deriving DecidableEq, Repr

/-! ## The Compatibility Engine -/

/-- A member of the set C or N of a check: an occupied frequency with its channel and class (R25). -/
structure Member where
  chan : Chan
  freq : Nat
  high : Bool
  deriving DecidableEq, Repr

/-- The inputs a service reads when it begins (R24 to R27). `range` is absent for a receiver that is not fitted. -/
structure Inputs where
  group : Group
  high : Bool
  range : Option (Nat × Nat × Nat)
  own : List Nat
  members : List Member
  near : List Member
  spacing : Spacing
  fifth : Bool
  three : Bool
  excl : List Excl
  deriving DecidableEq, Repr

/-- What a request asks of the Engine next: a check at a given candidate, a check of a pool entry (with the pool it was
taken from), an open search, or a check at the subject's prior frequency, read when the service begins (R131, R155). -/
inductive Work where
  | given (freq : Nat)
  | pool (group : Group) (freq : Nat)
  | openSearch
  | prior
  deriving DecidableEq, Repr

/-- The state a search keeps (R131). -/
structure Search where
  tried : List Nat
  attempts : Nat
  spoiled : List Nat
  deriving DecidableEq, Repr

inductive AdoptKind where
  | track | offPlan | dark
  deriving DecidableEq, Repr

/-- An operator MOVE, REVERT or WRITE_CHANNEL whose check or search is queued (R155, R187 to R189). -/
structure Oper where
  hdr : ReqHdr
  code : Nat
  chan : Chan
  revert : Bool
  roc : Bool
  work : Work
  search : Search
  deriving DecidableEq, Repr

/-- The subject of a CHECK (R58). -/
inductive Subject where
  | chan (c : Chan)
  | group (g : Group)
  deriving DecidableEq, Repr

/-- A MOVE-class request: one per searching retune entry (R47). -/
structure MoveReq where
  chan : Chan
  work : Work
  deriving DecidableEq, Repr

/-- An ADMISSION-class request (R47). -/
inductive AdmReq where
  | guard (chan : Chan) (target : Nat)
  | oper (o : Oper)
  | whatIf (hdr : ReqHdr) (subject : Subject) (cand : Nat)
  | post (chan : Chan) (freq : Nat) (kind : AdoptKind)
  deriving DecidableEq, Repr

/-- A COMMIT-class request: the current step of a stage's commit (R168). -/
structure ComReq where
  stage : Stage
  slot : Slot
  fallback : Bool
  work : Work
  search : Search
  deriving DecidableEq, Repr

inductive ReqClass where
  | move | admission | commit | pool
  deriving DecidableEq, Repr

/-- The service in progress (R46, R52 to R54). Its request is the one at the head of the queue of its class. `cand` is
absent for an open search. -/
structure Service where
  cls : ReqClass
  inputs : Inputs
  cand : Option Nat
  watched : List (Group × Nat)
  restarts : Nat
  hold : GroupSet
  deriving DecidableEq, Repr

/-- A management request that waits under a group hold (R56). -/
structure Deferred where
  hdr : ReqHdr
  req : Request
  deriving DecidableEq, Repr

structure Engine where
  moveQ : List MoveReq
  admQ : List AdmReq
  comQ : List ComReq
  poolQ : List Group
  service : Option Service
  deferred : List Deferred
  deriving DecidableEq, Repr

/-! ## The Admission Gate -/

inductive GateMode where
  | guard | track | block
  deriving DecidableEq, Repr
/-- A held frame (R84). Its originator and its sequence number are those of the frame; its ADMISSION request is the
`AdmReq.guard` of the same channel. -/
structure HeldFrame where
  frame : Frame
  chan : Chan
  target : Nat
  deriving DecidableEq, Repr
/-- A track note (R88). -/
structure TrackNote where
  chan : Chan
  target : Nat
  orig : Addr
  seq : Byte
  deriving DecidableEq, Repr

/-! ## The Retune Sequencer -/

inductive Origin where
  | auto | ret | operator | passed | commit
  deriving DecidableEq, Repr
inductive EntryState where
  | searching | proposed | sent | locking
  deriving DecidableEq, Repr
inductive Want where
  | search | ret | push
  deriving DecidableEq, Repr

/-- A retune table entry (R137). `src` is the manual's from and `target` its to. `fromPool` says that the target was taken from a pool
(R135). -/
structure Entry where
  chan : Chan
  origin : Origin
  revert : Bool
  state : EntryState
  src : Option Nat
  target : Option Nat
  attempts : Nat
  search : Search
  fromPool : Bool
  spoil : Bool
  want : Option (Want × Nat)
  roc : Bool
  orig : Option Addr
  replyDl : Option Nat
  lockDl : Option Nat
  propDl : Option Nat
  deriving DecidableEq, Repr

/-- A move backlog item (R139). `spoil` is the mark of R151 on a PUSH item. -/
structure Item where
  chan : Chan
  want : Want
  join : Nat
  spoil : Bool
  deriving DecidableEq, Repr

/-! ## The Set Change Unit -/

/-- The target of a staged entry: ANY, or a given index with its fallback (R160). -/
inductive Target where
  | any
  | given (freq : Nat) (fallback : Bool)
  deriving DecidableEq, Repr
inductive Staged where
  | keep
  | drop
  | change (t : Target)
  | add (t : Target) (cls : TxClass) (priority : Priority) (profile : Option (Fin 8))
  deriving DecidableEq, Repr
inductive Trigger where
  | request | linkUp
  deriving DecidableEq, Repr
/-- The phase of a commit; STEPPING carries the slot of the current step (R162). -/
inductive Phase where
  | stepping (slot : Slot)
  | draining
  deriving DecidableEq, Repr
/-- The commit record (R162). The outstanding count is the size of the outstanding set. -/
structure CommitRec where
  trigger : Trigger
  phase : Phase
  deferred : List Slot
  outstanding : List Slot
  applied : Nat
  failed : Nat
  skipped : Nat
  dropped : Nat
  failedList : List (Slot × Nat)
  deriving DecidableEq, Repr
inductive CommitState where
  | idle
  | waiting (deadline : Nat)
  | committing (rec : CommitRec)
  deriving DecidableEq, Repr

/-! ## Coordinator controls, ports and counters -/

/-- A standing span (R179). -/
structure Span where
  start : Nat
  step : Nat
  size : Nat
  deriving DecidableEq, Repr
/-- A survey record (R180). -/
structure Survey where
  start : Nat
  step : Nat
  count : Nat
  passes : Nat
  deadline : Nat
  frames : Nat
  deriving DecidableEq, Repr

/-- A port: its link state, its silence timer (a deadline while it runs), its SIGDET level and the frames handed to it
that have not left (R61, R69, R72). -/
structure PortState where
  up : Bool
  silence : Option Nat
  sigdet : Bool
  tx : List Frame
  deriving DecidableEq, Repr

/-- The seven counters of a stage (R193). -/
structure StageCounters where
  bad : Nat
  misaddressed : Nat
  refusals : Nat
  fires : Nat
  expiries : Nat
  failures : Nat
  skips : Nat
  deriving DecidableEq, Repr

def StageCounters.zero : StageCounters := ⟨0, 0, 0, 0, 0, 0, 0⟩

/-! ## The state -/

structure State where
  /-- the commands that wait, first in first out (the model's own) -/
  pending : List Instr
  /-- milliseconds since power-on -/
  now : Nat
  /-- how many free choices have been taken (the model's own) -/
  freeCount : Nat
  trunk : PortState
  stagePorts : Vector PortState 6
  originSeq : Nat
  chans : Vector ChanRec 192
  caps : Vector (Option Cap) 192
  couple : Vector Group 6
  rels : Vector Rel 6
  excl : List Excl
  gens : Vector Nat 4
  spacing : Spacing
  opts : Vector GroupOpts 4
  settlePeriod : Nat
  proposalTimeout : Nat
  profiles : Vector Profile 8
  pools : Vector (List PoolEntry) 4
  engine : Engine
  gate : Vector GateMode 6
  heldFrames : List HeldFrame
  notes : List TrackNote
  table : List Entry
  backlog : List Item
  staging : Vector Staged 192
  arm : Vector Bool 6
  commits : Vector CommitState 6
  confirm : Bool
  lock : Bool
  spans : Vector Span 6
  surveys : Vector (Option Survey) 6
  enables : Vector Bool 15
  latches : Vector Bool 16
  counters : Vector StageCounters 6
  trunkDiscards : Nat
  heldDiscards : Nat
  deriving DecidableEq, Repr

/-- A port at power-on: DOWN with its silence timer stopped (R61). Its SIGDET input shows signal present. Log 4. -/
def PortState.reset : PortState := ⟨false, none, true, []⟩

/-- Power-on (R195): every piece of state at the value its own rule gives. -/
def State.reset : State where
  pending := []
  now := 0
  freeCount := 0
  trunk := PortState.reset
  stagePorts := Vector.replicate 6 PortState.reset
  originSeq := 0
  chans := Vector.replicate 192 ChanRec.reset
  caps := Vector.replicate 192 none
  couple := Vector.replicate 6 0
  rels := Vector.replicate 6 .near
  excl := []
  gens := Vector.replicate 4 0
  spacing := ⟨12, 2, 4, 2, 2, 2, 1⟩
  opts := Vector.replicate 4 ⟨false, false, true, 3, true, 20, 3⟩
  settlePeriod := 10000
  proposalTimeout := 20000
  profiles := (Vector.replicate 8 Profile.inertReset).set 0 Profile.zero
  pools := Vector.replicate 4 []
  engine := ⟨[], [], [], [], none, []⟩
  gate := Vector.replicate 6 .guard
  heldFrames := []
  notes := []
  table := []
  backlog := []
  staging := Vector.replicate 192 .keep
  arm := Vector.replicate 6 false
  commits := Vector.replicate 6 .idle
  confirm := false
  lock := false
  spans := Vector.replicate 6 ⟨0, 4, 96⟩
  surveys := Vector.replicate 6 none
  enables := Vector.replicate 15 true
  latches := Vector.replicate 16 false
  counters := Vector.replicate 6 StageCounters.zero
  trunkDiscards := 0
  heldDiscards := 0

/-- Why a command would stop the block: nothing does. Every frame, event and request of the SC6 has an effect (a bad
frame is counted, a refused request is answered), so no meaning raises a fault. Safe. -/
inductive Fault where
  deriving DecidableEq, Repr

/-- Why a command would have no meaning. -/
inductive Refusal where
  /-- Raised by `exec` alone, for a command with no meaning yet; no arm of `exec` raises it. Safe. -/
  | notModelled (mnemonic : String)
  deriving DecidableEq, Repr

end Sys2Proof.Machine
end

