-- ==== Sys2Proof/Machine/Ops.lean ====
section
/-! DEFINITION. The named operations every block uses: reading and writing the parts of State, counters, handing frames
to ports, originating frames and notices, replies, the passing of time, and free choices. -/

namespace Sys2Proof.Machine

/-! ## Reading and writing the parts of State -/

/-- Channels in plan order: stage A to F, then slot 0 to 31 (R17, R25). -/
def stageChans (z : Stage) : List Chan := (List.finRange 32).map (Chan.mk z)
def allChans : List Chan := (List.finRange 6).flatMap stageChans

def State.chan (s : State) (c : Chan) : ChanRec := s.chans[c.idx]
def State.setChan (s : State) (c : Chan) (r : ChanRec) : State := { s with chans := s.chans.set c.idx r }
def State.modChan (s : State) (c : Chan) (f : ChanRec → ChanRec) : State := s.setChan c (f (s.chan c))
/-- Every channel with its record, in plan order. -/
def State.recs (s : State) : List (Chan × ChanRec) := allChans.zip s.chans.toList
def State.cap (s : State) (c : Chan) : Option Cap := s.caps[c.idx]
def State.setCap (s : State) (c : Chan) (e : Option Cap) : State := { s with caps := s.caps.set c.idx e }
def State.staged (s : State) (c : Chan) : Staged := s.staging[c.idx]
def State.setStaged (s : State) (c : Chan) (e : Staged) : State := { s with staging := s.staging.set c.idx e }

/-- The coupling group of a channel's stage (R14). -/
def State.groupOf (s : State) (c : Chan) : Group := s.couple[c.stage]
def State.opt (s : State) (g : Group) : GroupOpts := s.opts[g]
def State.pool (s : State) (g : Group) : List PoolEntry := s.pools[g]
def State.setPool (s : State) (g : Group) (p : List PoolEntry) : State := { s with pools := s.pools.set g p }
def State.setCommit (s : State) (z : Stage) (c : CommitState) : State := { s with commits := s.commits.set z c }
/-- The commit record of a stage, while it is COMMITTING (R162). -/
def State.commitRec (s : State) (z : Stage) : Option CommitRec :=
  match s.commits[z] with
  | .committing r => some r
  | _ => none
def State.setEngine (s : State) (e : Engine) : State := { s with engine := e }

/-- The position of the pair {g, h} among the six off-diagonal pairs (0,1), (0,2), (0,3), (1,2), (1,3), (2,3) (R80). -/
def pairIdx (g h : Group) : Fin 6 :=
  match min g.val h.val, max g.val h.val with
  | 0, 1 => 0
  | 0, 2 => 1
  | 0, 3 => 2
  | 1, 2 => 3
  | 1, 3 => 4
  | _, _ => 5
/-- Whether the relation matrix makes `h` NEAR to `g`; a group is SAME to itself, not NEAR (R15). -/
def State.near (s : State) (g h : Group) : Bool := g ≠ h && s.rels[pairIdx g h] = .near
/-- The groups a check of group `g` watches: `g` and every group NEAR to it (R52). -/
def State.watchedOf (s : State) (g : Group) : List Group := (List.finRange 4).filter fun h => h = g || s.near g h
/-- Groups as a set. -/
def groupSet (gs : List Group) : GroupSet := gs.foldl (fun b g => b ||| (1#4 <<< g.val)) 0#4
def GroupSet.has (b : GroupSet) (g : Group) : Bool := b.getLsbD g.val

/-- The retune entry that holds a channel (R137). -/
def State.entryOf (s : State) (c : Chan) : Option Entry := s.table.find? fun e => e.chan = c
def State.putEntry (s : State) (e : Entry) : State :=
  { s with table := s.table.map fun x => if x.chan = e.chan then e else x }
def State.dropEntry (s : State) (c : Chan) : State := { s with table := s.table.filter fun e => e.chan ≠ c }
/-- The backlog item of a channel (R139). -/
def State.itemOf (s : State) (c : Chan) : Option Item := s.backlog.find? fun i => i.chan = c
def State.dropItem (s : State) (c : Chan) : State := { s with backlog := s.backlog.filter fun i => i.chan ≠ c }
def State.noteOf (s : State) (c : Chan) : Option TrackNote := s.notes.find? fun n => n.chan = c
def State.dropNote (s : State) (c : Chan) : State := { s with notes := s.notes.filter fun n => n.chan ≠ c }
def State.heldOf (s : State) (c : Chan) : Option HeldFrame := s.heldFrames.find? fun f => f.chan = c

/-- The frequencies a channel occupies: assigned before pending (R7, R25). -/
def ChanRec.occupied (r : ChanRec) : List Nat := r.assigned.toList ++ r.pending.toList
/-- The capability entry of a position is present and fitted (R20). -/
def State.fitted (s : State) (c : Chan) : Bool :=
  match s.cap c with
  | some e => e.fitted
  | none => false

/-! ## Counters (R193) -/

/-- An increment that leaves 255 at 255 (R193). -/
def satInc (n : Nat) : Nat := min (n + 1) 255

/-- The seven counters kept per stage. -/
inductive Ctr where
  | bad | misaddressed | refusals | fires | expiries | failures | skips
  deriving DecidableEq, Repr

def StageCounters.bump (c : StageCounters) : Ctr → StageCounters
  | .bad => { c with bad := satInc c.bad }
  | .misaddressed => { c with misaddressed := satInc c.misaddressed }
  | .refusals => { c with refusals := satInc c.refusals }
  | .fires => { c with fires := satInc c.fires }
  | .expiries => { c with expiries := satInc c.expiries }
  | .failures => { c with failures := satInc c.failures }
  | .skips => { c with skips := satInc c.skips }

def bumpStage (z : Stage) (k : Ctr) (s : State) : State :=
  { s with counters := s.counters.set z (s.counters[z].bump k) }
def bumpTrunk (s : State) : State := { s with trunkDiscards := satInc s.trunkDiscards }
/-- A discard on a port: the stage's own counter, or the trunk-discard counter (R62, R63, R77). -/
def countDiscard (p : Port) (k : Ctr) (s : State) : State :=
  match p with
  | .trunk => bumpTrunk s
  | .stage z => bumpStage z k s

/-! ## Ports and frames (R65, R69, R76) -/

def State.port (s : State) : Port → PortState
  | .trunk => s.trunk
  | .stage z => s.stagePorts[z]
def State.setPort (s : State) (p : Port) (x : PortState) : State :=
  match p with
  | .trunk => { s with trunk := x }
  | .stage z => { s with stagePorts := s.stagePorts.set z x }

/-- The port that serves a zone: a stage port for 0 to 5, the trunk for 6 (R65). -/
def portOfZone (z : Byte) : Option Port :=
  if h : z.toNat < 6 then some (.stage ⟨z.toNat, h⟩)
  else if z.toNat = 6 then some .trunk
  else none

/-- A frame handed to a port waits to leave it; handed to a DOWN port it is discarded, and counted at the trunk
(R69, R76). -/
def handTo (p : Port) (f : Frame) (s : State) : State :=
  if (s.port p).up then s.setPort p { s.port p with tx := (s.port p).tx ++ [f] }
  else
    match p with
    | .trunk => bumpTrunk s
    | .stage _ => s

/-- A frame handed to the port its destination selects (R65, R69). -/
def route (f : Frame) (s : State) : State :=
  match portOfZone f.dst.zone with
  | some p => handTo p f s
  | none => s

/-- A frame the device originates, with the next value of the origin sequence counter (R69): the first after power-on
carries 0. Log 44. -/
def originate (dst : Addr) (kind : Byte) (payload : List Byte) (s : State) : State :=
  route ⟨dst, deviceAddr, kind, byteOf s.originSeq, payload⟩ { s with originSeq := (s.originSeq + 1) % 256 }

/-- The address of a unit of a stage. -/
def unitAddr (z : Stage) (unit : Nat) : Addr := ⟨byteOf z.val, byteOf unit⟩

/-! ## Field encodings (R80) -/

def e8 (n : Nat) : List Byte := [byteOf n]
def o8 (n : Option Nat) : List Byte := e8 (n.getD 255)
def o16 (n : Option Nat) : List Byte := be16 (n.getD 65535)
def o32 (n : Option Nat) : List Byte := be32 (n.getD 4294967295)
def eFlag (b : Bool) : List Byte := e8 b.toNat
/-- A channel as stage and slot, absent as 255 and 255. -/
def eChan (c : Option Chan) : List Byte := o8 (c.map fun x => x.stage.val) ++ o8 (c.map fun x => x.slot.val)
/-- An address as zone and unit, absent as 255 and 255. -/
def eAddr : Option Addr → List Byte
  | some a => [a.zone, a.unit]
  | none => [255#8, 255#8]
/-- A count that its one-byte field cannot exceed. -/
def eCount (n : Nat) : List Byte := e8 (min n 255)

/-! ## Notices and latches (R191, R192) -/

/-- The fifteen notice kinds in kind-code order (R80). -/
inductive NoticeKind where
  | interference | moved | moveFailed | held | proposal | proposalExpired | offPlan | conflictAdopted
  | exclusionConflict | admissionRefused | poolLow | stageDown | stageUp | commitDone | surveyDone
  deriving DecidableEq, Repr

def NoticeKind.idx : NoticeKind → Fin 15
  | .interference => 0
  | .moved => 1
  | .moveFailed => 2
  | .held => 3
  | .proposal => 4
  | .proposalExpired => 5
  | .offPlan => 6
  | .conflictAdopted => 7
  | .exclusionConflict => 8
  | .admissionRefused => 9
  | .poolLow => 10
  | .stageDown => 11
  | .stageUp => 12
  | .commitDone => 13
  | .surveyDone => 14

/-- The kind code, 1 to 15 (R80). -/
def NoticeKind.code (k : NoticeKind) : Nat := k.idx.val + 1

def setLatch (i : Fin 16) (s : State) : State := { s with latches := s.latches.set i true }
/-- The double-fault latch, the sixteenth flag (R192). -/
def setDoubleFault (s : State) : State := setLatch 15 s

/-- A notice: its latch is set; when its kind is enabled it is sent to the coordination station (R191, R192). -/
def notify (k : NoticeKind) (stage slot : Nat) (detail : List Byte) (s : State) : State :=
  let s1 := setLatch k.idx.castSucc s
  if s.enables[k.idx] then originate stationAddr kNotice (e8 k.code ++ e8 stage ++ e8 slot ++ detail) s1 else s1

/-- A notice about a channel. -/
def notifyChan (k : NoticeKind) (c : Chan) (detail : List Byte) (s : State) : State :=
  notify k c.stage.val c.slot.val detail s

/-! ## Replies (R80, R184) -/

inductive Status where
  | ok | refused | busy | locked | notPermitted | notFound | full | duplicate | occupied | outOfGrid | badRequest
  deriving DecidableEq, Repr

def Status.code : Status → Nat
  | .ok => 0
  | .refused => 1
  | .busy => 2
  | .locked => 3
  | .notPermitted => 4
  | .notFound => 5
  | .full => 6
  | .duplicate => 7
  | .occupied => 8
  | .outOfGrid => 9
  | .badRequest => 10

/-- The REPLY frame to a request: its sequence number, the echoed code, the status, the refusal kind, the results. -/
def replyFrame (h : ReqHdr) (code : Nat) (st : Status) (kind : Nat) (results : List Byte) : Frame :=
  ⟨h.src, deviceAddr, kReply, h.seq, e8 code ++ e8 st.code ++ e8 kind ++ results⟩
def reply (h : ReqHdr) (code : Nat) (st : Status) (kind : Nat) (results : List Byte) (s : State) : State :=
  route (replyFrame h code st kind results) s
def replyOk (h : ReqHdr) (code : Nat) (results : List Byte) (s : State) : State := reply h code .ok 0 results s
/-- A reply that refuses the request and changes nothing. -/
def refuse (h : ReqHdr) (code : Nat) (st : Status) (s : State) : State := reply h code st 0 [] s

/-! ## Time -/

def PortState.drain (p : PortState) : PortState := { p with tx := [] }

/-- Time passes. The frames that wait at a port leave it before any later millisecond. Log 1, log 3. -/
def passTime (dt : Nat) (s : State) : State :=
  if dt = 0 then s
  else { s with now := s.now + dt, trunk := s.trunk.drain, stagePorts := s.stagePorts.map PortState.drain }
/-- Time passes up to a deadline, if it has not been reached. -/
def passTo (t : Nat) (s : State) : State := passTime (t - s.now) s

/-- The milliseconds remaining to a deadline; a running deadline is never reported as 0 remaining (R190). -/
def timeLeft (s : State) (d : Option Nat) : Option Nat := d.map fun t => max 1 (t - s.now)

/-! ## Free choices (R48, R141) -/

/-- One of `n` equally entitled candidates: the only one, or a free choice among several. Log 5. -/
def freePick (s : State) (n : Nat) : Nat := if n ≤ 1 then 0 else Config.choice s.freeCount % n
/-- The choice is used up, so that the next one is free again. -/
def usePick (n : Nat) (s : State) : State := if n ≤ 1 then s else { s with freeCount := s.freeCount + 1 }

/-- The elements of a list in a freely chosen order, with the state after the choices. `fuel` is its length. -/
def freeOrder {α : Type} : Nat → List α → State → List α × State
  | 0, xs, s => (xs, s)
  | fuel + 1, xs, s =>
    match xs[freePick s xs.length]? with
    | some x =>
      let (ys, s') := freeOrder fuel (xs.eraseIdx (freePick s xs.length)) (usePick xs.length s)
      (x :: ys, s')
    | none => (xs, s)

end Sys2Proof.Machine
end

