-- ==== Sys2Proof/Machine/Operands.lean ====
section
/-! DEFINITION. The operands of requests: the values a one-byte code stands for, the ranges of the tests, the clamps,
and the encodings of stored values in replies (R80). -/

namespace Sys2Proof.Machine

/-- The largest grid index (R1). -/
def gridMax : Nat := 8191
/-- An operand that names a frequency beyond the grid (R1). -/
def offGrid (f : Nat) : Bool := decide (gridMax < f)

/-- The nearer end of a range for a value outside it (R44, R100). -/
def clamp (lo hi n : Nat) : Nat := max lo (min hi n)

def stageOf (n : Nat) : Option Stage := if h : n < 6 then some ⟨n, h⟩ else none
def slotOf (n : Nat) : Option Slot := if h : n < 32 then some ⟨n, h⟩ else none
def groupOfNat (n : Nat) : Option Group := if h : n < 4 then some ⟨n, h⟩ else none
/-- A stage operand above 5 or a slot operand above 31 names no channel. -/
def chanOf (st sl : Nat) : Option Chan :=
  match stageOf st, slotOf sl with
  | some z, some n => some ⟨z, n⟩
  | _, _ => none

/-- A flag, on/off, yes/no or set/clear operand: 0 or 1 (R80). -/
def flagOf (n : Nat) : Option Bool := if n = 0 then some false else if n = 1 then some true else none
def classOf (n : Nat) : Option TxClass := if n = 0 then some .low else if n = 1 then some .high else none
def priorityOf (n : Nat) : Option Priority := if n = 0 then some .normal else if n = 1 then some .lead else none
/-- A profile operand: 0 to 7, or 255 for none (R80). -/
def profileOf (n : Nat) : Option (Option (Fin 8)) :=
  if h : n < 8 then some (some ⟨n, h⟩) else if n = 255 then some none else none
def gateModeOf (n : Nat) : Option GateMode :=
  if n = 0 then some .guard else if n = 1 then some .track else if n = 2 then some .block else none
/-- A relation operand: NEAR or FAR; SAME (code 0) and any other value are refused (R15). -/
def relOf (n : Nat) : Option Rel := if n = 1 then some .near else if n = 2 then some .far else none
def condKindOf (n : Nat) : Option CondKind :=
  if n = 0 then some .foreign else if n = 1 then some .dropout else if n = 2 then some .sweepHit
  else if n = 3 then some .none else none
def combineOf (n : Nat) : Option Combine := if n = 0 then some .sequence else if n = 1 then some .either else none
def responseOf (n : Nat) : Option Response :=
  if n = 0 then some .report else if n = 1 then some .move else if n = 2 then some .freeze else none

/-- The four attributes of a channel as a request carries them (R186, R187). -/
structure Attrs where
  cls : TxClass
  priority : Priority
  profile : Option (Fin 8)
  pinned : Bool
  deriving DecidableEq, Repr
def attrsOf (c p q n : Nat) : Option Attrs := do
  let cls ← classOf c
  let prio ← priorityOf p
  let prof ← profileOf q
  let pin ← flagOf n
  some ⟨cls, prio, prof, pin⟩

/-- The threshold is clamped to the range of its condition's kind (R98, R100); for NONE log 13. -/
def clampThreshold (k : CondKind) (t : Nat) : Nat :=
  match k with
  | .foreign | .sweepHit => clamp 0 100 t
  | .dropout => clamp 1 255 t
  | .none => if 1 ≤ t ∧ t ≤ 100 then t else Config.noneThreshold t
def condOf (o : CondOps) : Option Cond :=
  (condKindOf o.kind).map fun k => ⟨k, clampThreshold k o.threshold, clamp 1 8 o.persistence, clamp 0 3 o.reach⟩
/-- A profile from the operands of WRITE_PROFILE, clamped; none where R100 answers BAD_REQUEST. -/
def profileFrom (o : ProfileOps) : Option Profile := do
  let l1 ← condOf o.level1
  let l2 ← condOf o.level2
  let cb ← combineOf o.combine
  let rs ← responseOf o.response
  let rc ← flagOf o.returnOnClear
  some ⟨l1, l2, cb, clamp 100 10000 o.window, rs, rc, clamp 1 63 o.clearDwell⟩

/-- The code for ANY in a staged target (R80). -/
def anyCode : Nat := 65534
/-- A staged target with its fallback. With ANY the fallback is absent, and a flag given with it is not stored; log 17. -/
def targetOf (t f : Nat) : Option Target :=
  if t = anyCode then (if f = 255 ∨ f = 0 ∨ f = 1 then some .any else none)
  else (flagOf f).map fun b => .given t b
/-- A given target beyond the grid (R161). -/
def targetOffGrid (t : Nat) : Bool := t ≠ anyCode && offGrid t
/-- A staged entry from the operands of STAGE_CHANNEL; none where step 1 of R161 answers BAD_REQUEST. -/
def stagedOf (kind : Nat) (ops : StagedOps) : Option Staged :=
  match kind, ops with
  | 0, .none => some .keep
  | 1, .none => some .drop
  | 2, .change t f => (targetOf t f).map .change
  | 3, .add t f c p q => do
    let tg ← targetOf t f
    let cls ← classOf c
    let prio ← priorityOf p
    let prof ← profileOf q
    some (.add tg cls prio prof)
  | _, _ => none
/-- The frequency STAGE_CHANNEL's operands carry, if any. -/
def StagedOps.freq : StagedOps → Option Nat
  | .none => none
  | .change t _ => some t
  | .add t _ _ _ _ => some t

/-! ## Codes of stored values (R80) -/

def ChState.code : ChState → Nat
  | .unused => 0
  | .parked => 1
  | .active => 2
  | .moving => 3
  | .held => 4
  | .dark => 5
def Resting.code : Resting → Nat
  | .active => 0
  | .held => 1
  | .parked => 2
def DarkFrom.code : DarkFrom → Nat
  | .active => 0
  | .held => 1
  | .moving => 2
def HeldCause.code : HeldCause → Nat
  | .freeze => 0
  | .doubleFault => 1
  | .noCandidate => 2
def TxClass.code : TxClass → Nat
  | .low => 0
  | .high => 1
def Priority.code : Priority → Nat
  | .normal => 0
  | .lead => 1
def WatchState.code : WatchState → Nat
  | .off => 0
  | .armed => 1
  | .suspect => 2
  | .fired => 3
def CondKind.code : CondKind → Nat
  | .foreign => 0
  | .dropout => 1
  | .sweepHit => 2
  | .none => 3
def Combine.code : Combine → Nat
  | .sequence => 0
  | .either => 1
def Response.code : Response → Nat
  | .report => 0
  | .move => 1
  | .freeze => 2
def PoolState.code : PoolState → Nat
  | .unchecked => 0
  | .ready => 1
  | .dirty => 2
  | .blocked => 3
def GateMode.code : GateMode → Nat
  | .guard => 0
  | .track => 1
  | .block => 2
def AdoptKind.code : AdoptKind → Nat
  | .track => 0
  | .offPlan => 1
  | .dark => 2
def Origin.code : Origin → Nat
  | .auto => 0
  | .ret => 1
  | .operator => 2
  | .passed => 3
  | .commit => 4
def EntryState.code : EntryState → Nat
  | .searching => 0
  | .proposed => 1
  | .sent => 2
  | .locking => 3
def Want.code : Want → Nat
  | .search => 0
  | .ret => 1
  | .push => 2
def Trigger.code : Trigger → Nat
  | .request => 0
  | .linkUp => 1
def ReqClass.code : ReqClass → Nat
  | .move => 0
  | .admission => 1
  | .commit => 2
  | .pool => 3
def profileCode (p : Option (Fin 8)) : Nat :=
  match p with
  | some n => n.val
  | none => 255

/-! ## Encodings of stored values -/

/-- The attributes of a record, in the order of R186. -/
def encAttrs (r : ChanRec) : List Byte :=
  e8 r.cls.code ++ e8 r.priority.code ++ e8 (profileCode r.profile) ++ eFlag r.pinned

def encReturnWatch : Option ReturnWatch → List Byte
  | some w => be16 w.freq ++ e8 w.run ++ e8 w.dwell
  | none => o16 none ++ o8 none ++ o8 none
def encLastReport : Option LastReport → List Byte
  | some l => be16 l.tuned ++ e8 l.level ++ eFlag l.pilot ++ eFlag l.squelch ++ eFlag l.busy ++ be32 l.time
  | none => o16 none ++ o8 none ++ o8 none ++ o8 none ++ o8 none ++ o32 none

/-- The record of a channel, in the order of R190. Log 15. -/
def encRecord (s : State) (r : ChanRec) : List Byte :=
  e8 r.state.code ++ o16 r.assigned ++ o16 r.pending ++ o8 (r.ret.map Resting.code) ++ o8 (r.darkFrom.map DarkFrom.code)
  ++ o8 (r.heldCause.map HeldCause.code) ++ o16 r.prior
  ++ o16 r.history[0]? ++ o16 r.history[1]? ++ o16 r.history[2]?
  ++ encAttrs r ++ eFlag r.offPlan ++ eFlag r.exclConflict
  ++ e8 r.watch.st.code ++ e8 r.watch.run1 ++ e8 r.watch.run2 ++ o32 (timeLeft s r.watch.window)
  ++ encReturnWatch r.returnWatch ++ encLastReport r.lastReport ++ o32 (timeLeft s r.settle) ++ e8 r.moveCount

def encCap : Option Cap → List Byte
  | some e => eFlag e.fitted ++ be16 e.low ++ be16 e.high ++ e8 e.step
  | none => o8 none ++ o16 none ++ o16 none ++ o8 none

/-- The deadline of an entry that is running (R137). -/
def Entry.deadline (e : Entry) : Option Nat :=
  match e.state with
  | .searching => none
  | .proposed => e.propDl
  | .sent => e.replyDl
  | .locking => e.lockDl

/-- A retune entry as R137 says READ_CHANNEL reports it. -/
def encEntry (s : State) : Option Entry → List Byte
  | some e => e8 e.origin.code ++ e8 e.state.code ++ o16 e.src ++ o16 e.target ++ e8 e.attempts ++ eFlag e.spoil
      ++ o32 (timeLeft s e.deadline)
  | none => o8 none ++ o8 none ++ o16 none ++ o16 none ++ o8 none ++ o8 none ++ o32 none
def encItem : Option Item → List Byte
  | some i => e8 i.want.code ++ be32 i.join
  | none => o8 none ++ o32 none
def encNote : Option TrackNote → List Byte
  | some n => be16 n.target ++ eAddr (some n.orig) ++ [n.seq]
  | none => o16 none ++ eAddr none ++ o8 none

def encTarget : Target → List Byte
  | .any => be16 anyCode ++ o8 none
  | .given f fb => be16 f ++ eFlag fb
/-- A staged entry: kind, target, fallback, class, priority, profile, absent where the kind has none (R160). -/
def encStaged : Staged → List Byte
  | .keep => e8 0 ++ o16 none ++ o8 none ++ o8 none ++ o8 none ++ o8 none
  | .drop => e8 1 ++ o16 none ++ o8 none ++ o8 none ++ o8 none ++ o8 none
  | .change t => e8 2 ++ encTarget t ++ o8 none ++ o8 none ++ o8 none
  | .add t c p q => e8 3 ++ encTarget t ++ e8 c.code ++ e8 p.code ++ e8 (profileCode q)

def encCond (c : Cond) : List Byte := e8 c.kind.code ++ e8 c.threshold ++ e8 c.persistence ++ e8 c.reach
/-- A profile as stored, in the order of R98. -/
def encProfile (p : Profile) : List Byte :=
  encCond p.level1 ++ encCond p.level2 ++ e8 p.combine.code ++ be32 p.window ++ e8 p.response.code
  ++ eFlag p.returnOnClear ++ e8 p.clearDwell
def encPoolEntry (e : PoolEntry) : List Byte :=
  be16 e.freq ++ e8 e.state.code ++ e8 e.run ++ o8 e.level ++ eFlag e.inSearch
def encExcl (x : Excl) : List Byte := be16 x.first ++ be16 x.last ++ e8 x.scope.toNat
def encSpacing (r : Spacing) : List Byte :=
  e8 r.scc ++ e8 r.snear ++ e8 r.s3 ++ e8 r.s5 ++ e8 r.s3t ++ e8 r.xhi ++ e8 r.guard
/-- The seven options of a group in code order (R80). -/
def encOpts (o : GroupOpts) : List Byte :=
  eFlag o.fifth ++ eFlag o.three ++ eFlag o.openSearch ++ e8 o.downshift ++ eFlag o.recycle ++ e8 o.floor ++ e8 o.dwell
def encSpan (p : Span) : List Byte := be16 p.start ++ e8 p.step ++ e8 p.size

/-- A set of slots, bit n for slot n, in four bytes. Log 15. -/
def encSlots (ns : List Slot) : List Byte := be32 (((List.finRange 32).filter fun n => ns.contains n).foldl (fun b n => b + 2 ^ n.val) 0)
def encFailed (l : List (Slot × Nat)) : List Byte := l.flatMap fun x => e8 x.1.val ++ e8 x.2
/-- The five counts of a commit record (R162). -/
def encCounts (c : CommitRec) : List Byte :=
  e8 c.applied ++ e8 c.failed ++ e8 c.skipped ++ e8 c.dropped ++ e8 c.outstanding.length
def Phase.code : Phase → Nat
  | .stepping _ => 0
  | .draining => 1
def Phase.slot : Phase → Option Nat
  | .stepping n => some n.val
  | .draining => none
/-- A commit record as a record of READ_COUNTERS (R162, R193). Log 15. -/
def encCommit (z : Stage) (c : CommitRec) : List Byte :=
  e8 z.val ++ e8 c.trigger.code ++ e8 c.phase.code ++ o8 c.phase.slot ++ encSlots c.deferred ++ encSlots c.outstanding
  ++ encCounts c ++ encFailed c.failedList

end Sys2Proof.Machine
end

