-- ==== Sys2Proof/Machine/Flags.lean ====
section
/-! DEFINITION. The EXCLUSION_CONFLICT flag of a channel (R19) and the guarded range of an exclusion entry (R17, R30). -/

namespace Sys2Proof.Machine

/-- A frequency lies in the guarded range of an entry, start − G to end + G, the bounds taken as computed (R17, R19). -/
def Excl.covers (guard : Nat) (x : Excl) (f : Nat) : Bool := decide (x.first ≤ f + guard) && decide (f ≤ x.last + guard)

/-- The first entry in table order whose scope contains the group and whose guarded range holds the frequency (R30). -/
def firstConflict (excl : List Excl) (guard : Nat) (g : Group) (f : Nat) : Option Excl :=
  excl.find? fun x => x.scope.has g && x.covers guard f

/-- A conflict of a channel: the first occupied frequency in a guarded range, with the first entry in table order that
covers it (R19). Which of several a notice names is the model's choice. Log 41. -/
def State.conflictOf (s : State) (c : Chan) : Option (Nat × Excl) :=
  (s.chan c).occupied.findSome? fun f => (firstConflict s.excl s.spacing.guard (s.groupOf c) f).map fun x => (f, x)

/-- EXCLUSION_CONFLICT recomputed for one channel (R19). -/
def reflag (c : Chan) (s : State) : State :=
  s.modChan c fun r => { r with exclConflict := (s.conflictOf c).isSome }

/-- EXCLUSION_CONFLICT recomputed for several channels. -/
def reflagAll (cs : List Chan) (s : State) : State := cs.foldl (fun s c => reflag c s) s

/-- The channels of every stage whose group satisfies `p`, in plan order. -/
def State.chansOfGroups (s : State) (p : Group → Bool) : List Chan := allChans.filter fun c => p (s.groupOf c)

end Sys2Proof.Machine
end

