-- ==== Sys2Proof/Machine/Check.lean ====
section
/-! DEFINITION. Compatibility arithmetic (R23 to R40): what one check and one open search compute from the inputs they
read. -/

namespace Sys2Proof.Machine

/-- The verdict of a check, with the two refusal kinds that are not verdicts (R28, R58, R90). -/
inductive Verdict where
  | clear | outOfGrid | outOfRange | misaligned | excluded | carrier | imd3 | imd5 | imd3t | notInPlan | unchecked
  deriving DecidableEq, Repr
def Verdict.code : Verdict → Nat
  | .clear => 0
  | .outOfGrid => 1
  | .outOfRange => 2
  | .misaligned => 3
  | .excluded => 4
  | .carrier => 5
  | .imd3 => 6
  | .imd5 => 7
  | .imd3t => 8
  | .notInPlan => 9
  | .unchecked => 10

/-- The result record of a check (R23). -/
structure Result where
  verdict : Verdict
  margin : Option Nat
  inv1 : Option Chan
  inv2 : Option Chan
  terms : Nat
  deriving DecidableEq, Repr

/-! ## Inputs (R24 to R27) -/

/-- The members of the plan of the groups in `p`, in plan order, without those of the channel `skip` (R7, R25). -/
def State.members (s : State) (p : Group → Bool) (skip : Option Chan) : List Member :=
  s.recs.flatMap fun cr =>
    if p (s.groupOf cr.1) && skip ≠ some cr.1 then cr.2.occupied.map fun f => ⟨cr.1, f, cr.2.cls = .high⟩ else []

/-- The range and step a capability entry gives; absent for a receiver that is not fitted (R20, R24). -/
def capRange : Option Cap → Option (Nat × Nat × Nat)
  | none => some (0, gridMax, 1)
  | some e => if e.fitted then some (e.low, e.high, e.step) else none

/-- The inputs of a check of channel `c` (R24, R25). -/
def chanInputs (s : State) (c : Chan) : Inputs where
  group := s.groupOf c
  high := (s.chan c).cls = .high
  range := capRange (s.cap c)
  own := (s.chan c).occupied
  members := s.members (fun h => h = s.groupOf c) (some c)
  near := s.members (fun h => s.near (s.groupOf c) h) none
  spacing := s.spacing
  fifth := (s.opt (s.groupOf c)).fifth
  three := (s.opt (s.groupOf c)).three
  excl := s.excl

/-- The inputs of a pool check of group `g` (R27). -/
def groupInputs (s : State) (g : Group) : Inputs where
  group := g
  high := false
  range := some (0, gridMax, 1)
  own := []
  members := s.members (fun h => h = g) none
  near := s.members (fun h => s.near g h) none
  spacing := s.spacing
  fifth := (s.opt g).fifth
  three := (s.opt g).three
  excl := s.excl

/-! ## Terms (R31 to R35) -/

/-- One comparison: its distance, its required spacing, and the channels it names if it conflicts (R37). -/
structure Term where
  dist : Nat
  need : Nat
  inv1 : Chan
  inv2 : Option Chan
  deriving DecidableEq, Repr

/-- The required spacing: the base, raised by X_hi when a transmitter taking part is HIGH (R32). -/
def Inputs.need (i : Inputs) (base : Nat) (parts : List Member) : Nat :=
  if i.high || parts.any (·.high) then base + i.spacing.xhi else base

/-- The second involved channel; absent when it would repeat the first (R37). -/
def second (a b : Member) : Option Chan := if a.chan = b.chan then none else some b.chan

/-- A product term: its value against another value (R33). -/
def Inputs.term (i : Inputs) (base : Nat) (p x : Int) (a b : Member) (parts : List Member) : Term :=
  ⟨(p - x).natAbs, i.need base parts, a.chan, second a b⟩

/-- The carrier stage (R31). The raise of X_hi stands with S_near at 0 too, as in R32's table. Log 49. -/
def carrierTerms (i : Inputs) (c : Nat) : List Term :=
  i.members.map (fun f => i.term i.spacing.scc c f.freq f f [f])
  ++ i.near.map (fun f => i.term i.spacing.snear c f.freq f f [f])

/-- The products of order 2k − 1: the existing pairs `k a − (k−1) b` against the candidate, then for each member the
products `k c − (k−1) f` and `k f − (k−1) c` against every member (R33 for k = 2, R34 for k = 3). -/
def pairTerms (i : Inputs) (base : Nat) (k : Int) (c : Nat) : List Term :=
  i.members.flatMap (fun a => (i.members.filter fun b => b.chan ≠ a.chan).map fun b =>
    i.term base (k * a.freq - (k - 1) * b.freq) c a b [a, b])
  ++ i.members.flatMap (fun f =>
    i.members.map (fun g => i.term base (k * c - (k - 1) * f.freq) g.freq f g [f, g])
    ++ i.members.map (fun g => i.term base (k * f.freq - (k - 1) * c) g.freq f g [f, g]))

/-- The unordered pairs of a list, the first before the second. -/
def pairsOf {α : Type} : List α → List (α × α)
  | [] => []
  | a :: rest => rest.map (fun b => (a, b)) ++ pairsOf rest

/-- The three-transmitter stage (R35). -/
def tripleTerms (i : Inputs) (base : Nat) (c : Nat) : List Term :=
  ((pairsOf i.members).filter fun ab => ab.1.chan ≠ ab.2.chan).flatMap (fun ab =>
    (i.members.filter fun d => d.chan ≠ ab.1.chan && d.chan ≠ ab.2.chan).map fun d =>
      i.term base (ab.1.freq + ab.2.freq - d.freq) c ab.1 ab.2 [ab.1, ab.2, d])
  ++ i.members.flatMap (fun f => (i.members.filter fun h => h.chan ≠ f.chan).flatMap fun h =>
    i.members.map fun g => i.term base (c + f.freq - h.freq) g.freq f h [f, h, g])

/-! ## Stages (R28 to R30, R36 to R38) -/

/-- What the term stages have done so far: the terms compared and the least slack, limited to 15. -/
structure Progress where
  terms : Nat
  least : Nat
  deriving DecidableEq, Repr

/-- A failure before any term (R29, R30). -/
def Result.early (v : Verdict) : Result := ⟨v, none, none, none, 0⟩

/-- The terms of one stage in order, up to the first that conflicts (R28, R36 to R38). -/
def scanTerms (v : Verdict) : List Term → Progress → Except Result Progress
  | [], p => .ok p
  | t :: ts, p =>
    if t.dist < t.need then .error ⟨v, none, some t.inv1, t.inv2, p.terms + 1⟩
    else scanTerms v ts ⟨p.terms + 1, min p.least (t.dist - t.need)⟩

/-- The stages that form terms, in order (R28). -/
def termStages (i : Inputs) (c : Nat) : List (Verdict × List Term) :=
  [(.carrier, carrierTerms i c), (.imd3, pairTerms i i.spacing.s3 2 c)]
  ++ (if i.fifth then [(.imd5, pairTerms i i.spacing.s5 3 c)] else [])
  ++ (if i.three then [(.imd3t, tripleTerms i i.spacing.s3t c)] else [])

def scanStages : List (Verdict × List Term) → Progress → Result
  | [], p => ⟨.clear, some p.least, none, none, p.terms⟩
  | (v, ts) :: rest, p =>
    match scanTerms v ts p with
    | .ok p' => scanStages rest p'
    | .error r => r

/-- The tuning-range stage (R29). -/
def inRange (range : Option (Nat × Nat × Nat)) (c : Nat) : Bool :=
  match range with
  | some (lo, hi, _) => decide (lo ≤ c) && decide (c ≤ hi)
  | none => false
/-- The alignment stage (R29). -/
def aligned (range : Option (Nat × Nat × Nat)) (c : Nat) : Bool :=
  match range with
  | some (_, _, k) => decide (c % k = 0)
  | none => false

/-- One check of candidate `c` (R28). -/
def check (i : Inputs) (c : Nat) : Result :=
  if offGrid c then .early .outOfGrid
  else if !inRange i.range c then .early .outOfRange
  else if !aligned i.range c then .early .misaligned
  else if (firstConflict i.excl i.spacing.guard i.group c).isSome then .early .excluded
  else scanStages (termStages i c) ⟨0, 15⟩

/-! ## Open search (R39, R40) -/

/-- A CLEAR candidate with its result. -/
structure Found where
  freq : Nat
  result : Result
  deriving DecidableEq, Repr

/-- The better of the best so far and a new candidate; the lower index stands on equal margins (R40). -/
def betterOf (best : Option Found) (c : Nat) (r : Result) : Option Found :=
  match r.margin with
  | none => best
  | some m =>
    match best with
    | none => some ⟨c, r⟩
    | some b => if b.result.margin.getD 0 < m then some ⟨c, r⟩ else best

/-- The candidates from `c` up, `n` of them at most, until one has margin 15 (R39, R40). -/
def openFrom (i : Inputs) (hi k : Nat) : Nat → Nat → Option Found → Option Found
  | 0, _, best => best
  | n + 1, c, best =>
    if hi < c then best
    else if i.own.contains c then openFrom i hi k n (c + k) best
    else
      let r := check i c
      if r.margin = some 15 then some ⟨c, r⟩ else openFrom i hi k n (c + k) (betterOf best c r)

/-- The smallest multiple of `k` not less than `lo`. -/
def firstMultiple (lo k : Nat) : Nat := (lo + k - 1) / k * k

/-- An open search: the candidate it returns with its check result, or none for NO_CANDIDATE (R40). -/
def openSearch (i : Inputs) : Option Found :=
  match i.range with
  | some (lo, hi, k) => openFrom i hi k (gridMax + 1) (firstMultiple lo k) none
  | none => none

end Sys2Proof.Machine
end

