-- ==== Sys2Proof/Machine/Plan.lean ====
section
/-! DEFINITION. The operations of the Frequency Plan: plan generations and their effect on the pools, reservation,
completion, release and adoption (R8 to R13, R21, R22), the watch of a record at each of them (R102, R107), and the
standing of backlog items (R140). -/

namespace Sys2Proof.Machine

/-! ## The watch of a record -/

/-- The profile is neither none nor inert (R98, R102). -/
def State.liveProfile (s : State) (p : Option (Fin 8)) : Bool :=
  match p with
  | some n => s.profiles[n].level1.kind ≠ .none
  | none => false
/-- The watch an event of R102 starts: ARMED for a live profile, otherwise OFF. -/
def State.freshWatch (s : State) (p : Option (Fin 8)) : Watch := if s.liveProfile p then Watch.armed else Watch.off
/-- A watch that its channel's move freezes: SUSPECT returns to ARMED (R107). -/
def Watch.freeze (w : Watch) : Watch := if w.st = .suspect then Watch.armed else w

/-! ## Pools and generations -/

def PoolEntry.demote (e : PoolEntry) : PoolEntry :=
  if e.state = .ready ∨ e.state = .blocked then { e with state := .unchecked } else e
/-- The READY and BLOCKED entries of the pools of `g` and of the groups NEAR to it become UNCHECKED (R126). -/
def demotePools (g : Group) (s : State) : State :=
  (s.watchedOf g).foldl (fun s h => s.setPool h ((s.pool h).map PoolEntry.demote)) s
/-- One increment of the plan generation of a group, with its demotion (R21, R22). -/
def bumpGen (g : Group) (s : State) : State :=
  demotePools g { s with gens := s.gens.set g ((s.gens[g] + 1) % 65536) }
/-- A pool loses the entry with a frequency, if it holds one (R124). -/
def unpool (g : Group) (f : Nat) (s : State) : State := s.setPool g ((s.pool g).filter fun e => e.freq ≠ f)
/-- A frequency is occupied by a channel of a group (R120). -/
def State.occupiedIn (s : State) (g : Group) (f : Nat) : Bool :=
  s.recs.any fun cr => s.groupOf cr.1 = g && cr.2.occupied.contains f
/-- A frequency is appended to the tail of a pool, when the pool has room, does not hold it, and no channel of the group
occupies it (R129, R135). -/
def appendPool (g : Group) (f : Nat) (st : PoolState) (level : Option Nat) (s : State) : State :=
  if (s.pool g).length < 16 && !(s.pool g).any (fun e => e.freq = f) && !s.occupiedIn g f then
    s.setPool g (s.pool g ++ [⟨f, st, 0, level, false⟩])
  else s

/-! ## Reservation, completion and release -/

/-- The state a channel can return to (R3). -/
def ChState.resting : ChState → Option Resting
  | .active => some .active
  | .held => some .held
  | .parked => some .parked
  | _ => none
def Resting.state : Resting → ChState
  | .active => .active
  | .held => .held
  | .parked => .parked

/-- The record's part of a reservation (R8), with its watch frozen (R107). -/
def ChanRec.reserve (t : Nat) (r : ChanRec) : ChanRec :=
  { r with pending := some t, ret := r.state.resting, state := .moving, watch := r.watch.freeze }
/-- A reservation of `t` for channel `c` (R8). The channel's waiting SEARCH or RETURN item (R140) and its track note
(R88) go in the same change. -/
def reserve (c : Chan) (t : Nat) (s : State) : State :=
  reflag c <| unpool (s.groupOf c) t <| bumpGen (s.groupOf c) <| ((s.modChan c (ChanRec.reserve t)).dropItem c).dropNote c

/-- Prior frequency and history at a forward move that vacates `v` (R12). -/
def ChanRec.forward (v : Option Nat) (r : ChanRec) : ChanRec :=
  match v with
  | none => r
  | some f =>
    { r with
      prior := some f
      history := match r.prior with
        | some p => (p :: r.history).take 3
        | none => r.history }
/-- Prior frequency and history at a revert (R13). -/
def ChanRec.back (r : ChanRec) : ChanRec := { r with prior := r.history.head?, history := r.history.tail }

/-- The record's part of a DONE completion (R9, R12, R13). -/
def ChanRec.complete (t : Nat) (revert : Bool) (r : ChanRec) : ChanRec :=
  let r1 := if revert then r.back else r.forward r.assigned
  { r1 with
    assigned := some t
    pending := none
    ret := none
    darkFrom := none
    state := .active
    heldCause := none
    offPlan := false
    moveCount := satInc r1.moveCount }
/-- A DONE completion of the move of `c` to `t` (R9). -/
def complete (c : Chan) (t : Nat) (revert : Bool) (s : State) : State :=
  reflag c <| s.modChan c (ChanRec.complete t revert)

/-- The record's part of a release (R10): a MOVING channel returns to its return state, with its watch as frozen, or OFF
in PARKED (R102). -/
def ChanRec.release (r : ChanRec) : ChanRec :=
  if r.state = .moving then
    match r.ret with
    | some x =>
      { r with
        pending := none, ret := none, state := x.state
        watch := if x = .parked then Watch.off else r.watch }
    | none => { r with pending := none }
  else { r with pending := none }
/-- A release of the pending target of `c` without completion (R10). -/
def release (c : Chan) (s : State) : State := reflag c <| s.modChan c ChanRec.release

/-! ## Adoption (R11) -/

/-- The record's part of an adoption of `f`, by its kind; a DARK channel returns to its dark-from state, with MOVING
returning as ACTIVE. `w` is the fresh watch of R102. -/
def ChanRec.adopt (f : Nat) (w : Watch) (kind : AdoptKind) (r : ChanRec) : ChanRec :=
  match kind with
  | .track =>
    { r.forward r.assigned with
      assigned := some f, pending := none, ret := none, state := .active, heldCause := none
      watch := w, returnWatch := none, settle := none }
  | .offPlan => { r with assigned := some f, pending := none, offPlan := true, watch := w }
  | .dark =>
    { r with
      assigned := some f, pending := none, darkFrom := none, offPlan := true, watch := w
      state := if r.darkFrom = some .held then .held else .active }
/-- An adoption of `f` for `c` (R11). The channel's SEARCH or RETURN item goes with it (R140). -/
def adopt (c : Chan) (f : Nat) (kind : AdoptKind) (s : State) : State :=
  reflag c <| unpool (s.groupOf c) f <| bumpGen (s.groupOf c) <|
    (s.modChan c fun r => r.adopt f (s.freshWatch r.profile) kind).dropItem c

/-! ## Backlog items (R140) -/

/-- The channel may be moved automatically: ACTIVE, not pinned, its capability entry present and fitted. -/
def State.movable (s : State) (c : Chan) : Bool :=
  decide ((s.chan c).state = .active) && !(s.chan c).pinned && s.fitted c
/-- The return watch is present with its clean run at its dwell. -/
def ChanRec.dwellReached (r : ChanRec) : Bool :=
  match r.returnWatch with
  | some w => decide (w.run = w.dwell)
  | none => false
/-- The item's channel stands where its want requires (R140). -/
def State.itemStands (s : State) (i : Item) : Bool :=
  match i.want with
  | .search => s.movable i.chan
  | .ret => s.movable i.chan && (s.chan i.chan).dwellReached
  | .push => decide ((s.chan i.chan).state = .moving) && (s.chan i.chan).pending.isSome && (s.entryOf i.chan).isNone
/-- The items whose channels no longer stand where their wants require are removed (R140). -/
def pruneBacklog (s : State) : State := { s with backlog := s.backlog.filter s.itemStands }

end Sys2Proof.Machine
end

