-- ==== Sys2Proof/Machine/Engine.lean ====
section
/-! DEFINITION. The Compatibility Engine (R46 to R60): its queues, the service in progress, restarts, group holds and
the withdrawal of requests. Arbitration stands in Finish.lean, with the endings a request can meet when it is chosen. -/

namespace Sys2Proof.Machine

/-! ## Joining the queues (R47, R49, R51) -/

def State.admFull (s : State) : Bool := decide (8 ≤ s.engine.admQ.length)
def joinMove (m : MoveReq) (s : State) : State := { s with engine := { s.engine with moveQ := s.engine.moveQ ++ [m] } }
def joinAdm (a : AdmReq) (s : State) : State := { s with engine := { s.engine with admQ := s.engine.admQ ++ [a] } }
def joinCom (r : ComReq) (s : State) : State := { s with engine := { s.engine with comQ := s.engine.comQ ++ [r] } }
def joinPool (g : Group) (s : State) : State := { s with engine := { s.engine with poolQ := s.engine.poolQ ++ [g] } }

/-- A pool holds an UNCHECKED entry. -/
def State.needsRecheck (s : State) (g : Group) : Bool := (s.pool g).any fun e => e.state = .unchecked
/-- At the close of a change, every pool that holds an UNCHECKED entry has its POOL request (R121, R126, R129, R130);
requests that join together take places in a free order (R48). -/
def queueRechecks (s : State) : State :=
  let gs := (List.finRange 4).filter fun g => s.needsRecheck g && !s.engine.poolQ.contains g
  let (order, s') := freeOrder gs.length gs s
  order.foldl (fun s g => joinPool g s) s'

/-! ## The request in service -/

/-- A request of any class. -/
inductive Served where
  | move (m : MoveReq)
  | adm (a : AdmReq)
  | com (r : ComReq)
  | pool (g : Group)
  deriving DecidableEq, Repr

/-- The oldest request of a class (R48). -/
def State.head (s : State) : ReqClass → Option Served
  | .move => s.engine.moveQ.head?.map .move
  | .admission => s.engine.admQ.head?.map .adm
  | .commit => s.engine.comQ.head?.map .com
  | .pool => s.engine.poolQ.head?.map .pool

def ComReq.chan (r : ComReq) : Chan := ⟨r.stage, r.slot⟩

/-- The subject of a request (R24, R27). -/
def Served.subject : Served → Subject
  | .move m => .chan m.chan
  | .adm (.guard c _) => .chan c
  | .adm (.oper o) => .chan o.chan
  | .adm (.whatIf _ x _) => x
  | .adm (.post c _ _) => .chan c
  | .com r => .chan r.chan
  | .pool g => .group g

def State.inputs (s : State) : Subject → Inputs
  | .chan c => chanInputs s c
  | .group g => groupInputs s g

/-- The candidate a piece of work begins with: none inside for an open search; none when the prior frequency it needs is
absent (R134, R155). -/
def State.workCand (s : State) (c : Chan) : Work → Option (Option Nat)
  | .given f => some (some f)
  | .pool _ f => some (some f)
  | .openSearch => some none
  | .prior => (s.chan c).prior.map some
/-- The candidate a service of a request begins with (R49, R131, R155). -/
def State.candOf (s : State) : Served → Option (Option Nat)
  | .move m => s.workCand m.chan m.work
  | .adm (.guard _ t) => some (some t)
  | .adm (.oper o) => s.workCand o.chan o.work
  | .adm (.whatIf _ _ f) => some (some f)
  | .adm (.post _ f _) => some (some f)
  | .com r => s.workCand r.chan r.work
  | .pool g => ((s.pool g).find? fun e => e.state = .unchecked).map fun e => some e.freq
/-- The request checks the prior frequency, which each restart reads again (R134, R155). -/
def Served.readsPrior : Served → Bool
  | .move m => m.work = .prior
  | .adm (.oper o) => o.work = .prior
  | _ => false

/-- The generations of groups as they stand (R52). -/
def State.record (s : State) (gs : List Group) : List (Group × Nat) := gs.map fun g => (g, s.gens[g])
def State.setService (s : State) (v : Option Service) : State := { s with engine := { s.engine with service := v } }

/-- A service begins (R26, R52). -/
def beginService (cls : ReqClass) (r : Served) (cand : Option Nat) (s : State) : State :=
  let i := s.inputs r.subject
  s.setService (some ⟨cls, i, cand, s.record (s.watchedOf i.group), 0, 0#4⟩)

/-- The result a service reaches (R57). -/
inductive Outcome where
  | check (freq : Nat) (r : Result)
  | search (f : Option Found)
  deriving DecidableEq, Repr
def Service.outcome (v : Service) : Outcome :=
  match v.cand with
  | some f => .check f (check v.inputs f)
  | none => .search (openSearch v.inputs)

/-- The request in service with its service. -/
def State.serving (s : State) : Option (Served × Service) :=
  match s.engine.service with
  | some v => (s.head v.cls).map fun r => (r, v)
  | none => none

/-- A service ends: the hold lifts and the Engine is free (R46, R54). -/
def endService (s : State) : State := s.setService none
/-- The oldest request of a class leaves its queue. -/
def leaveHead (cls : ReqClass) (s : State) : State :=
  let e := s.engine
  match cls with
  | .move => { s with engine := { e with moveQ := e.moveQ.tail } }
  | .admission => { s with engine := { e with admQ := e.admQ.tail } }
  | .commit => { s with engine := { e with comQ := e.comQ.tail } }
  | .pool => { s with engine := { e with poolQ := e.poolQ.tail } }
/-- The oldest request of a class is given further work and keeps its place (R46). -/
def replaceHead (r : Served) (s : State) : State :=
  let e := s.engine
  match r with
  | .move m => { s with engine := { e with moveQ := m :: e.moveQ.tail } }
  | .adm a => { s with engine := { e with admQ := a :: e.admQ.tail } }
  | .com c => { s with engine := { e with comQ := c :: e.comQ.tail } }
  | .pool g => { s with engine := { e with poolQ := g :: e.poolQ.tail } }

/-! ## Restart and hold (R53, R54) -/

/-- The transmitter class of a subject, HIGH or not; a notional pool subject is LOW (R27). -/
def State.subjectHigh (s : State) : Subject → Bool
  | .chan c => (s.chan c).cls = .high
  | .group _ => false
/-- The service has been overtaken: a generation it recorded has changed, or its subject's class has (R53). -/
def State.stale (s : State) (r : Served) (v : Service) : Bool :=
  v.watched.any (fun gn => s.gens[gn.1] ≠ gn.2) || s.subjectHigh r.subject ≠ v.inputs.high
/-- A restart: the count rises, the groups, generations and inputs are read again, and from the third restart the watched
groups come under hold (R53, R54). -/
def Service.restart (v : Service) (s : State) (r : Served) (cand : Option Nat) : Service :=
  let i := s.inputs r.subject
  let gs := s.watchedOf i.group
  { v with
    inputs := i
    cand := cand
    watched := s.record gs
    restarts := v.restarts + 1
    hold := if 3 ≤ v.restarts + 1 then v.hold ||| groupSet gs else v.hold }
/-- The answer to a REVERT that finds no prior frequency as its check begins or restarts: BUSY where its channel has been
removed (R186), otherwise NOT_FOUND (R155). Log 47. -/
def endRevert (o : Oper) (s : State) : State :=
  refuse o.hdr o.code (if (s.chan o.chan).state = .unused then .busy else .notFound) s
/-- At the close of a change, an overtaken service restarts once. A REVERT whose prior frequency has gone completes with
no result and is answered (R155). Log 10. -/
def restartService (s : State) : State :=
  match s.serving with
  | none => s
  | some (r, v) =>
    if !s.stale r v then s
    else if r.readsPrior then
      match s.candOf r with
      | some c => s.setService (some (v.restart s r c))
      | none =>
        match r with
        | .adm (.oper o) => endRevert o (leaveHead .admission (endService s))
        | _ => s.setService (some (v.restart s r v.cand))
    else s.setService (some (v.restart s r v.cand))

/-- A management write that would increment a group of this list waits (R55). -/
def State.held (s : State) (gs : List Group) : Bool :=
  match s.engine.service with
  | some v => gs.any fun g => v.hold.has g
  | none => false

/-! ## Withdrawal (R50, R136) -/

/-- The in-search mark of a pool entry (R131, R132). Log 24. -/
def markEntry (g : Group) (f : Nat) (on : Bool) (s : State) : State :=
  s.setPool g ((s.pool g).map fun e => if e.freq = f then { e with inSearch := on } else e)
/-- The mark a piece of outstanding work holds is cleared (R136). -/
def Work.unmark : Work → State → State
  | .pool g f, s => markEntry g f false s
  | _, s => s

/-- The request in service satisfies `p`, so that its withdrawal discards the service. -/
def State.inService (s : State) (p : Served → Bool) : Bool :=
  match s.serving with
  | some (r, _) => p r
  | none => false
def discardIf (b : Bool) (s : State) : State := if b then endService s else s

def withdrawMove (c : Chan) (s : State) : State :=
  let hit := s.inService fun r => match r with | .move m => m.chan = c | _ => false
  let s1 := (s.engine.moveQ.filter fun m => m.chan = c).foldl (fun s m => m.work.unmark s) (discardIf hit s)
  { s1 with engine := { s1.engine with moveQ := s1.engine.moveQ.filter fun m => m.chan ≠ c } }
def AdmReq.isGuardOf (c : Chan) : AdmReq → Bool
  | .guard d _ => d = c
  | _ => false
def withdrawGuard (c : Chan) (s : State) : State :=
  let hit := s.inService fun r => match r with | .adm a => a.isGuardOf c | _ => false
  let s1 := discardIf hit s
  { s1 with engine := { s1.engine with admQ := s1.engine.admQ.filter fun a => !a.isGuardOf c } }
def withdrawCommit (z : Stage) (s : State) : State :=
  let hit := s.inService fun r => match r with | .com q => q.stage = z | _ => false
  let s1 := (s.engine.comQ.filter fun q => q.stage = z).foldl (fun s q => q.work.unmark s) (discardIf hit s)
  { s1 with engine := { s1.engine with comQ := s1.engine.comQ.filter fun q => q.stage ≠ z } }

/-! ## Post-checks (R51) -/

/-- The post-check of an adoption joins the ADMISSION queue; with the queue full it is not made, and a CONFLICT_ADOPTED
notice with kind UNCHECKED is sent (R51). -/
def conflictAdopted (c : Chan) (f : Nat) (kind : AdoptKind) (v : Verdict) (i1 i2 : Option Chan) (s : State) : State :=
  notifyChan .conflictAdopted c (be16 f ++ e8 kind.code ++ e8 v.code ++ eChan i1 ++ eChan i2) s
def queuePost (c : Chan) (f : Nat) (kind : AdoptKind) (s : State) : State :=
  if s.admFull then conflictAdopted c f kind .unchecked none none s else joinAdm (.post c f kind) s

end Sys2Proof.Machine
end

