-- ==== Sys2Proof/Machine/Search.lean ====
section
/-! DEFINITION. The replacement search (R131 to R133), shared by AUTO entries, the PICK form of MOVE and the steps of a
commit; and what the Pools do at a pool check and at a standing sweep (R125, R127). -/

namespace Sys2Proof.Machine

/-- A search that begins (R131). -/
def Search.start : Search := ⟨[], 0, []⟩

/-- An entry the search may take now (R131). -/
def State.eligible (s : State) (c : Chan) (q : Search) (e : PoolEntry) : Bool :=
  decide (e.state = .ready) && !e.inSearch && inRange (capRange (s.cap c)) e.freq && aligned (capRange (s.cap c)) e.freq
  && !q.tried.contains e.freq && !q.spoiled.contains e.freq
/-- The next pool candidate: the first eligible entry in list order; a tried list of 16 finds the pool exhausted (R131). -/
def State.nextCandidate (s : State) (c : Chan) (q : Search) : Option PoolEntry :=
  if 16 ≤ q.tried.length then none else (s.pool (s.groupOf c)).find? fun e => s.eligible c q e

/-- What a search does next. -/
inductive SearchStep where
  | more (w : Work) (q : Search)
  | found (f : Nat) (margin : Nat) (fromPool : Bool) (q : Search)
  | empty (q : Search)
  deriving DecidableEq, Repr

/-- The search turns to the open search, or ends with no result where the group's option is off (R133). -/
def State.turnOpen (s : State) (c : Chan) (q : Search) : SearchStep :=
  if (s.opt (s.groupOf c)).openSearch then .more .openSearch q else .empty q

/-- The search chooses again: an in-search entry, or the open search when the attempts have reached the downshift count or
the pool is exhausted (R131, R133). Every choice makes these tests, that after an unused CLEAR too. Log 46. -/
def searchNext (c : Chan) (q : Search) (s : State) : SearchStep × State :=
  let g := s.groupOf c
  if (s.opt g).downshift ≤ q.attempts then (s.turnOpen c q, s)
  else
    match s.nextCandidate c q with
    | some e => (.more (.pool g e.freq) { q with tried := q.tried ++ [e.freq] }, markEntry g e.freq true s)
    | none => (s.turnOpen c q, s)

/-- The verdict kinds that block a pool entry (R132). -/
def Verdict.blocks : Verdict → Bool
  | .carrier | .imd3 | .imd5 | .imd3t => true
  | _ => false
/-- An entry becomes BLOCKED, with clean run 0 (R120, R132). -/
def blockEntry (g : Group) (f : Nat) (s : State) : State :=
  s.setPool g ((s.pool g).map fun e => if e.freq = f then { e with state := .blocked, run := 0 } else e)
/-- The pool still offers the frequency: it holds it, and not as DIRTY (R132). -/
def State.stillOffered (s : State) (g : Group) (f : Nat) : Bool :=
  (s.pool g).any fun e => e.freq = f && e.state ≠ .dirty

/-- The completion of a candidate check of `f`, taken from the pool of `g` (R132). -/
def candidateDone (c : Chan) (q : Search) (g : Group) (f : Nat) (r : Result) (s : State) : SearchStep × State :=
  let s1 := markEntry g f false s
  let x := s1.groupOf c
  if r.verdict = .clear then
    if s1.stillOffered x f then (.found f (r.margin.getD 0) true q, s1) else searchNext c q s1
  else
    let s2 := if r.verdict.blocks then blockEntry x f s1 else s1
    searchNext c { q with attempts := min (q.attempts + 1) 8 } s2

/-- The completion of an open search; a spoiled candidate is treated as NO_CANDIDATE (R133). -/
def openDone (q : Search) : Option Found → SearchStep
  | some x => if q.spoiled.contains x.freq then .empty q else .found x.freq (x.result.margin.getD 0) false q
  | none => .empty q

/-- What a search does with the outcome of its service. -/
def searchDone (c : Chan) (w : Work) (q : Search) (o : Outcome) (s : State) : SearchStep × State :=
  match w, o with
  | .pool g f, .check _ r => candidateDone c q g f r s
  | _, .check f r => if r.verdict = .clear then (.found f (r.margin.getD 0) false q, s) else (.empty q, s)
  | _, .search x => (openDone q x, s)

/-! ## Pool checks (R127) -/

def poolCheckDone (g : Group) (f : Nat) (r : Result) (s : State) : State :=
  s.setPool g ((s.pool g).map fun e =>
    if e.freq = f ∧ e.state = .unchecked then { e with state := if r.verdict = .clear then .ready else .blocked } else e)

/-! ## Standing sweeps (R125) -/

/-- The levels of the samples at the indices from `a − w` to `a + w` (R99, R114, R116, R125). -/
def covered (samples : List (Nat × Nat)) (a w : Nat) : List Nat :=
  (samples.filter fun x => x.1 ≤ a + w && a ≤ x.1 + w).map (·.2)
/-- The highest of some levels. -/
def highest (ls : List Nat) : Nat := ls.foldl max 0

def PoolEntry.sweep (floor dwell : Nat) (samples : List (Nat × Nat)) (e : PoolEntry) : PoolEntry :=
  let ls := covered samples e.freq 1
  if ls = [] then e
  else
    let e1 := { e with level := some (highest ls) }
    if ls.any (fun l => floor ≤ l) then { e1 with state := .dirty, run := 0 }
    else if e.state = .dirty then
      if dwell ≤ e.run + 1 then { e1 with state := .unchecked, run := 0 } else { e1 with run := e.run + 1 }
    else e1
/-- A standing sweep frame reaches the pool of a group (R125). -/
def sweepPool (g : Group) (samples : List (Nat × Nat)) (s : State) : State :=
  s.setPool g ((s.pool g).map (PoolEntry.sweep (s.opt g).floor (s.opt g).dwell samples))

/-! ## Recycling (R129) -/

/-- The vacated frequency of a move of origin `o` is recycled (R129). -/
def recycle (c : Chan) (v : Option Nat) (o : Origin) (s : State) : State :=
  match v with
  | some f =>
    if (s.opt (s.groupOf c)).recycle then
      appendPool (s.groupOf c) f (if o = .auto then .dirty else .unchecked) none s
    else s
  | none => s

/-- The READY count of a pool (R128). -/
def State.readyCount (s : State) (g : Group) : Nat := ((s.pool g).filter fun e => e.state = .ready).length

end Sys2Proof.Machine
end

