-- ==== Sys2Proof/Machine/Sequencer.lean ====
section
/-! DEFINITION. The Retune Sequencer (R137 to R154, R173 to R178): retune entries from their making to their end, the
move backlog and its arbiter, proposals, and the reports and deadlines that decide a move. -/

namespace Sys2Proof.Machine

/-! ## Names -/

/-- Confirm mode is in force: on, and not suspended by a trunk that is DOWN (R173). -/
def State.inForce (s : State) : Bool := s.confirm && s.trunk.up
def State.proposedCount (s : State) : Nat := (s.table.filter fun e => e.state = .proposed).length
/-- Searching pauses (R178). -/
def State.paused (s : State) : Bool := s.inForce && decide (8 ≤ s.proposedCount)
def State.tableFull (s : State) : Bool := decide (12 ≤ s.table.length)

/-- The reasons an entry or a search can end with (R80, R154). -/
inductive EndReason where
  | rackRejected | noReply | lockTimeout | wrongFrequency | spoiled | noCandidate | dropped | expired | stageDown | restart
  deriving DecidableEq, Repr
def EndReason.code : EndReason → Nat
  | .rackRejected => 0
  | .noReply => 1
  | .lockTimeout => 2
  | .wrongFrequency => 3
  | .spoiled => 4
  | .noCandidate => 5
  | .dropped => 6
  | .expired => 7
  | .stageDown => 8
  | .restart => 9

/-- The causes of a PROPOSAL_EXPIRED notice (R80). -/
inductive ExpiredCause where
  | timeout | dropped | spoiled | stageDown
  deriving DecidableEq, Repr
def ExpiredCause.code : ExpiredCause → Nat
  | .timeout => 0
  | .dropped => 1
  | .spoiled => 2
  | .stageDown => 3

/-! ## Notices of moves -/

/-- MOVED (R153). -/
def notifyMoved (c : Chan) (o : Option Origin) (src target attempts : Option Nat) (revert spoil : Bool) (orig : Option Addr)
    (s : State) : State :=
  notifyChan .moved c (o8 (o.map Origin.code) ++ o16 src ++ o16 target ++ o8 attempts ++ eFlag revert ++ eFlag spoil
    ++ eAddr orig) s
/-- MOVE_FAILED of a move (R154, R158). -/
def notifyFailed (e : Entry) (why : EndReason) (rack : Option Nat) (s : State) : State :=
  notifyChan .moveFailed e.chan (e8 why.code ++ e8 e.origin.code ++ o16 e.src ++ o16 e.target ++ e8 e.attempts ++ o8 rack
    ++ eAddr e.orig) s
/-- PROPOSAL_EXPIRED (R145, R174). -/
def notifyExpired (e : Entry) (why : ExpiredCause) (s : State) : State :=
  notifyChan .proposalExpired e.chan (e8 why.code ++ e8 e.origin.code ++ o16 e.src ++ o16 e.target) s

/-- A channel becomes HELD (R111, R133). -/
def setHeld (c : Chan) (cause : HeldCause) (s : State) : State :=
  s.modChan c fun r => { r with state := .held, heldCause := some cause }
/-- The HELD notice: cause and assigned frequency. -/
def notifyHeld (c : Chan) (cause : HeldCause) (s : State) : State :=
  notifyChan .held c (e8 cause.code ++ o16 (s.chan c).assigned) s
/-- A hold with cause DOUBLE_FAULT, with its latch and notice (R110, R151, R154, R192). -/
def doubleFault (c : Chan) (s : State) : State :=
  notifyHeld c .doubleFault (setDoubleFault (setHeld c .doubleFault s))

/-! ## What a commit is told (R170) -/

/-- A pushed move of the stage's commit ended; a failed one joins the end of the failed list. Log 50. -/
def pushEnded (c : Chan) (done : Bool) (s : State) : State :=
  match s.commitRec c.stage with
  | some r =>
    if r.outstanding.contains c.slot then
      let r1 := { r with outstanding := r.outstanding.filter fun n => n ≠ c.slot }
      s.setCommit c.stage (.committing (if done then { r1 with applied := r1.applied + 1 }
        else { r1 with failed := r1.failed + 1, failedList := r1.failedList ++ [(c.slot, 13)] }))
    else s
  | none => s

/-! ## Sending (R146) -/

/-- The TUNE the device sends for an entry. -/
def sendTune (c : Chan) (t : Nat) (s : State) : State :=
  originate (unitAddr c.stage (c.slot.val / 8)) kTune (e8 (c.slot.val % 8) ++ be16 t ++ e8 1) s
/-- An entry enters SENT: its attempts rise by 1 and its reply deadline is set. -/
def Entry.sent (now : Nat) (e : Entry) : Entry :=
  { e with state := .sent, attempts := e.attempts + 1, replyDl := some (now + 300), lockDl := none, propDl := none }
/-- The entry of a channel enters SENT (R146). A PASSED entry's TUNE is its originator's. -/
def sendEntry (c : Chan) (s : State) : State :=
  match s.entryOf c with
  | some e =>
    let s1 := s.putEntry (e.sent s.now)
    match e.target with
    | some t => if e.origin = .passed then s1 else sendTune c t s1
    | none => s1
  | none => s

/-- A new entry; the channel's track note goes (R89, R138). -/
def addEntry (e : Entry) (s : State) : State := { s.dropNote e.chan with table := (s.dropNote e.chan).table ++ [e] }
/-- An entry of a channel as it is made: nothing sent, no deadline, no mark. -/
def freshEntry (s : State) (c : Chan) (o : Origin) : Entry where
  chan := c
  origin := o
  revert := decide (o = .ret)
  state := .searching
  src := (s.chan c).assigned
  target := none
  attempts := 0
  search := Search.start
  fromPool := false
  spoil := false
  want := none
  roc := false
  orig := none
  replyDl := none
  lockDl := none
  propDl := none

/-! ## Endings of a search without a move (R133, R134) -/

/-- An AUTO search ends with no result (R133). Log 25. -/
def noCandidate (c : Chan) (q : Search) (s : State) : State :=
  let s1 := bumpStage c.stage .failures ((setHeld c .noCandidate s).dropEntry c)
  notifyChan .moveFailed c (e8 EndReason.noCandidate.code ++ o16 (s1.chan c).assigned ++ e8 q.attempts
    ++ eCount q.tried.length) s1
/-- The clean run of a return watch becomes 0. -/
def ChanRec.zeroReturn (r : ChanRec) : ChanRec :=
  { r with returnWatch := r.returnWatch.map fun w => { w with run := 0 } }
/-- A return skip (R134); after a spoil the return watch is kept with clean run 0 (R135). -/
def returnSkip (c : Chan) (spoiled : Bool) (s : State) : State :=
  bumpStage c.stage .skips <| (s.dropEntry c).modChan c fun r =>
    if spoiled then r.zeroReturn else { r with returnWatch := none }

/-! ## The backlog and its arbiter (R139, R141, R142) -/

def joinBacklog (i : Item) (s : State) : State := { s with backlog := s.backlog ++ [i] }
/-- The order in which items are served: LEAD, NORMAL, PUSH (R141). -/
def State.rank (s : State) (i : Item) : Nat :=
  if i.want = .push then 2 else if (s.chan i.chan).priority = .lead then 0 else 1
/-- Items of want SEARCH and RETURN are not servable while searching pauses (R141). -/
def State.servable (s : State) (i : Item) : Bool := i.want = .push || !s.paused
/-- Rank first, then join time. -/
def State.before (s : State) (i j : Item) : Bool := s.rank i < s.rank j || (s.rank i = s.rank j && i.join < j.join)
/-- The servable items that no other servable item comes before (R141). -/
def State.foremost (s : State) : List Item :=
  let xs := s.backlog.filter s.servable
  xs.filter fun i => !xs.any fun j => s.before j i

/-- The search of an entry goes on with what `st` says, on a request that joins the MOVE queue (R142, R145). -/
def askSearch (c : Chan) (st : SearchStep) (s : State) : State :=
  match s.entryOf c, st with
  | some e, .more w q => joinMove ⟨c, w⟩ (s.putEntry { e with search := q })
  | some _, .empty q => noCandidate c q s
  | _, _ => s

/-- An item is served: it leaves the backlog and an entry is made for its channel (R138, R142). -/
def serveItem (i : Item) (s : State) : State :=
  let c := i.chan
  let s1 := s.dropItem c
  match i.want with
  | .search =>
    let s2 := addEntry { freshEntry s1 c .auto with want := some (i.want, i.join) } s1
    let (st, s3) := searchNext c Search.start s2
    askSearch c st s3
  | .ret =>
    let s2 := addEntry { freshEntry s1 c .ret with want := some (i.want, i.join) } s1
    if (s2.chan c).prior.isNone then returnSkip c false s2 else joinMove ⟨c, .prior⟩ s2
  | .push =>
    sendEntry c (addEntry { freshEntry s1 c .commit with target := (s1.chan c).pending, spoil := i.spoil } s1)

/-- The backlog arbiter: while an entry is free and an item is servable, the foremost is served (R141). `fuel` is the
number of items. -/
def arbiter : Nat → State → State
  | 0, s => s
  | fuel + 1, s =>
    if s.tableFull then s
    else
      let xs := s.foremost
      match xs[freePick s xs.length]? with
      | some i => arbiter fuel (serveItem i (usePick xs.length s))
      | none => s

/-! ## Reservation (R143, R144) -/

/-- An entry becomes PROPOSED (R144). -/
def propose (c : Chan) (margin : Nat) (s : State) : State :=
  match s.entryOf c with
  | some e =>
    let s1 := s.putEntry { e with state := .proposed, propDl := some (s.now + s.proposalTimeout) }
    notifyChan .proposal c (e8 e.origin.code ++ o16 e.src ++ o16 e.target ++ e8 margin) s1
  | none => s

/-- A search or return check of the entry of `c` ended with frequency `t` (R143). -/
def searchFound (c : Chan) (t margin : Nat) (fromPool : Bool) (q : Search) (s : State) : State :=
  match s.entryOf c with
  | some e =>
    if !(s.movable c && (s.port (.stage c.stage)).up) then s.dropEntry c
    else if s.paused then
      match e.want with
      | some (w, j) => joinBacklog ⟨c, w, j, false⟩ (s.dropEntry c)
      | none => s.dropEntry c
    else
      let s1 := (reserve c t s).putEntry { e with target := some t, search := q, fromPool := fromPool }
      if s1.inForce then propose c margin s1 else sendEntry c s1
  | none => s

/-! ## Completion and failure (R152, R154) -/

/-- The return watch a DONE completion sets up (R115). -/
def newReturnWatch (s : State) (e : Entry) (r : ChanRec) : Option ReturnWatch :=
  match e.src, r.prior with
  | some _, some b =>
    match e.origin with
    | .auto =>
      match r.profile with
      | some n => if s.profiles[n].returnOnClear then some ⟨b, 0, s.profiles[n].clearDwell⟩ else none
      | none => none
    | .operator => if e.roc then some ⟨b, 0, 10⟩ else none
    | _ => none
  | _, _ => none
/-- The settle deadline a DONE completion sets; a settle period of 0 gives one that has already ended (R43, R112).
Log 26. -/
def newSettle (s : State) (o : Origin) : Option Nat :=
  if o = .auto ∧ s.settlePeriod ≠ 0 then some (s.now + s.settlePeriod) else none

/-- A DONE completion of an entry's move (R152). -/
def moveDone (e : Entry) (s : State) : State :=
  let c := e.chan
  let t := e.target.getD 0
  let s1 := recycle c e.src e.origin (complete c t e.revert s)
  let s2 := s1.modChan c fun r =>
    { r with returnWatch := newReturnWatch s1 e r, settle := newSettle s1 e.origin, watch := s1.freshWatch r.profile }
  let s3 := (notifyMoved c (some e.origin) e.src e.target (some e.attempts) e.revert e.spoil e.orig s2).dropEntry c
  let s4 := if e.origin = .commit then pushEnded c true s3 else s3
  if e.spoil then doubleFault c s4 else s4

/-- A failure of an entry's move (R154). -/
def moveFail (e : Entry) (why : EndReason) (rack : Option Nat) (s : State) : State :=
  let c := e.chan
  let s1 := release c s
  let s2 := if e.origin = .auto ∧ why = .rackRejected then doubleFault c s1 else s1
  let s3 := if e.origin = .ret then s2.modChan c ChanRec.zeroReturn else s2
  let s4 := (notifyFailed e why rack (bumpStage c.stage .failures s3)).dropEntry c
  if e.origin = .commit then pushEnded c false s4 else s4

/-! ## The rack's report and the lock wait (R147 to R150) -/

/-- A send ends by a rejection, with the rack's reason, or by the expiry of its reply deadline (R148). -/
def sendEnded (e : Entry) (rack : Option Nat) (s : State) : State :=
  let why := if rack.isSome then .rackRejected else EndReason.noReply
  if e.origin = .passed ∨ 3 ≤ e.attempts then moveFail e why rack s
  else if e.spoil then moveFail e .spoiled none s
  else sendEntry e.chan s

/-- A TUNE_REPORT that names the channel and a target (R147). -/
def entryReport (c : Chan) (target result reason : Nat) (s : State) : State :=
  match s.entryOf c with
  | some e =>
    if e.state = .sent ∧ e.target = some target then
      if result = 0 then s.putEntry { e with state := .locking, replyDl := none, lockDl := some (s.now + 2000) }
      else sendEnded e (some reason) s
    else s
  | none => s

/-- A first clear report in LOCKING (R149, R150). -/
def lockReport (e : Entry) (tuned : Nat) (s : State) : State :=
  if e.target = some tuned then moveDone e s
  else if e.origin = .passed ∨ 3 ≤ e.attempts then moveFail e .wrongFrequency none s
  else if e.spoil then moveFail e .spoiled none s
  else sendEntry e.chan s

/-! ## Proposals (R144, R145, R174) -/

/-- A proposal ends with its target released and its entry removed (R144). -/
def endProposal (e : Entry) (why : ExpiredCause) (s : State) : State :=
  notifyExpired e why ((release e.chan s).dropEntry e.chan)

/-- A spoil of the target `t` of a PROPOSED entry (R135, R145). Log 6, log 23. -/
def spoilProposed (e : Entry) (t level : Nat) (s : State) : State :=
  let c := e.chan
  let s1 := notifyExpired e .spoiled (release c s)
  match e.origin with
  | .auto =>
    let s2 := s1.putEntry { e with state := .searching, target := none, propDl := none, fromPool := false }
    let s3 := if e.fromPool then appendPool (s2.groupOf c) t .dirty (some level) s2 else s2
    if 16 ≤ e.search.spoiled.length then noCandidate c e.search s3
    else
      let (st, s4) := searchNext c { e.search with spoiled := e.search.spoiled ++ [t] } s3
      askSearch c st s4
  | _ => returnSkip c true s1

/-- A spoil of the pending target of a MOVING channel (R145, R151). -/
def spoil (c : Chan) (t level : Nat) (s : State) : State :=
  match s.entryOf c with
  | some e =>
    match e.state with
    | .proposed => spoilProposed e t level s
    | .sent | .locking => s.putEntry { e with spoil := true }
    | .searching => s
  | none => { s with backlog := s.backlog.map fun i => if i.chan = c ∧ i.want = .push then { i with spoil := true } else i }

end Sys2Proof.Machine
end

