-- ==== Sys2Proof/Machine/SetChange.lean ====
section
/-! DEFINITION. The Set Change Unit (R160 to R172): a commit from its start through its drops and steps to its end or
abort, and the link-up wait. -/

namespace Sys2Proof.Machine

/-- The commit record of a committing stage is changed. -/
def modCommit (z : Stage) (f : CommitRec → CommitRec) (s : State) : State :=
  match s.commitRec z with
  | some r => s.setCommit z (.committing (f r))
  | none => s
def CommitRec.skip (r : CommitRec) : CommitRec := { r with skipped := r.skipped + 1 }
def CommitRec.drop (r : CommitRec) : CommitRec := { r with dropped := r.dropped + 1 }
/-- A failed step with its cause, at the end of the failed list (R167, R169). Log 50. -/
def CommitRec.fail (n : Slot) (cause : Nat) (r : CommitRec) : CommitRec :=
  { r with failed := r.failed + 1, failedList := r.failedList ++ [(n, cause)] }
def CommitRec.start (t : Trigger) : CommitRec := ⟨t, .draining, [], [], 0, 0, 0, 0, []⟩

/-! ## Drops (R165, R166) -/

/-- A channel is parked by a commit DROP (R165). -/
def ChanRec.park (r : ChanRec) : ChanRec :=
  { r with
    state := .parked, assigned := none, pending := none, ret := none, heldCause := none
    watch := Watch.off, returnWatch := none, settle := none }
def parkChannel (c : Chan) (s : State) : State := reflag c ((s.modChan c ChanRec.park).dropItem c)

/-- A DROP meets its channel as it stands (R165). -/
def dropSlot (z : Stage) (n : Slot) (s : State) : State :=
  let c : Chan := ⟨z, n⟩
  let put := modCommit z fun r => { r with deferred := r.deferred ++ [n] }
  match (s.chan c).state with
  | .active | .held =>
    if (s.entryOf c).isSome then put s else modCommit z CommitRec.drop (parkChannel c s)
  | .parked => modCommit z CommitRec.drop s
  | .moving => put s
  | .dark | .unused => modCommit z CommitRec.skip s
def dropAll (z : Stage) (s : State) : State :=
  ((List.finRange 32).filter fun n => s.staged ⟨z, n⟩ = .drop).foldl (fun s n => dropSlot z n s) s

/-- A deferred DROP whose channel holds no entry any more is applied (R166). -/
def settleDrop (z : Stage) (n : Slot) (s : State) : State :=
  if (s.entryOf ⟨z, n⟩).isSome || (s.chan ⟨z, n⟩).state = .moving then s
  else dropSlot z n (modCommit z (fun r => { r with deferred := r.deferred.filter fun m => m ≠ n }) s)
def settleDrops (s : State) : State :=
  (List.finRange 6).foldl (fun s z =>
    match s.commitRec z with
    | some r => r.deferred.foldl (fun s n => settleDrop z n s) s
    | none => s) s

/-! ## Steps (R167 to R169) -/

/-- An ADD defines its channel, every other field at its power-on value, or stores its attributes in a PARKED one (R167). -/
def defineStaged (c : Chan) (cls : TxClass) (p : Priority) (q : Option (Fin 8)) (s : State) : State :=
  s.modChan c fun r =>
    if r.state = .unused then
      { ChanRec.reset with state := .parked, cls := cls, priority := p, profile := q }
    else { r with cls := cls, priority := p, profile := q }

/-- The step's request is queued, or the step ends at once when its search ends at once (R168). The flag says that the
commit waits for the request. -/
def askStep (z : Stage) (n : Slot) (t : Target) (s : State) : Bool × State :=
  match t with
  | .given f fb => (true, joinCom ⟨z, n, fb, .given f, Search.start⟩ s)
  | .any =>
    match searchNext ⟨z, n⟩ Search.start s with
    | (.more w q, s1) => (true, joinCom ⟨z, n, false, w, q⟩ s1)
    | (_, s1) => (false, modCommit z (CommitRec.fail n 12) s1)

/-- One CHANGE or ADD entry is reached (R167). -/
def stepOne (z : Stage) (n : Slot) (s : State) : Bool × State :=
  let c : Chan := ⟨z, n⟩
  let s0 := modCommit z (fun r => { r with phase := .stepping n }) s
  let r := s0.chan c
  if r.state = .dark ∨ r.state = .moving ∨ r.state = .held ∨ (s0.entryOf c).isSome then
    (false, modCommit z CommitRec.skip s0)
  else
    match s0.staged c with
    | .add t cls p q =>
      if r.state = .active then (false, modCommit z (CommitRec.fail n 11) s0)
      else askStep z n t (defineStaged c cls p q s0)
    | .change t =>
      if r.state = .unused then (false, modCommit z (CommitRec.fail n 9) s0)
      else
        match t with
        | .given f _ =>
          if r.state = .active ∧ r.assigned = some f then
            (false, modCommit z (fun r => { r with applied := r.applied + 1 }) s0)
          else askStep z n t s0
        | .any => askStep z n t s0
    | _ => (false, s0)

def Staged.isStep : Staged → Bool
  | .change _ | .add .. => true
  | _ => false
/-- The commit goes through the entries of the given slots until one waits, and drains after the last (R167, R169). -/
def runSteps (z : Stage) : List Slot → State → State
  | [], s => modCommit z (fun r => { r with phase := .draining }) s
  | n :: rest, s =>
    if (s.staged ⟨z, n⟩).isStep then
      match stepOne z n s with
      | (true, s1) => s1
      | (false, s1) => runSteps z rest s1
    else runSteps z rest s

/-- A commit starts (R165). -/
def startCommit (z : Stage) (t : Trigger) (s : State) : State :=
  runSteps z (List.finRange 32) (dropAll z (s.setCommit z (.committing (CommitRec.start t))))

/-- The step at slot `n` is over; the commit moves to the next step. -/
def nextStep (z : Stage) (n : Slot) (s : State) : State := runSteps z ((List.finRange 32).filter fun m => n < m) s

/-- A step ended with a frequency (R169). -/
def stepFound (z : Stage) (n : Slot) (t : Nat) (s : State) : State :=
  let c : Chan := ⟨z, n⟩
  let st := (s.chan c).state
  if (st = .parked ∨ st = .active) ∧ (s.entryOf c).isNone ∧ (s.port (.stage z)).up then
    nextStep z n <| modCommit z (fun r => { r with outstanding := r.outstanding ++ [n] }) <|
      joinBacklog ⟨c, .push, s.now, false⟩ (reserve c t s)
  else nextStep z n (modCommit z CommitRec.skip s)

/-- What a step does with the end of a search (R168, R169). -/
def stepSearched (q : ComReq) (o : SearchStep × State) : State :=
  match o with
  | (.more w x, s) => replaceHead (.com { q with fallback := false, work := w, search := x }) s
  | (.found f _ _ _, s) => stepFound q.stage q.slot f (leaveHead .commit s)
  | (.empty _, s) => nextStep q.stage q.slot (modCommit q.stage (CommitRec.fail q.slot 12) (leaveHead .commit s))

/-- The completion of a service of a step's request (R168, R169). A step that ends without a frequency fails, though its
channel was removed (R186). Log 54. -/
def stepDone (q : ComReq) (o : Outcome) (s : State) : State :=
  match q.work, o with
  | .given _, .check f r =>
    if r.verdict = .clear then stepFound q.stage q.slot f (leaveHead .commit s)
    else if q.fallback then stepSearched q (searchNext q.chan Search.start s)
    else nextStep q.stage q.slot (modCommit q.stage (CommitRec.fail q.slot r.verdict.code) (leaveHead .commit s))
  | w, o => stepSearched q (searchDone q.chan w q.search o s)

/-! ## End and abort (R170 to R172) -/

/-- The causes of a COMMIT_DONE notice (R80). -/
inductive CommitCause where
  | complete | stageDown | restart
  deriving DecidableEq, Repr
def CommitCause.code : CommitCause → Nat
  | .complete => 0
  | .stageDown => 1
  | .restart => 2

def notifyCommit (z : Stage) (r : CommitRec) (why : CommitCause) (s : State) : State :=
  notify .commitDone z.val 255 (e8 r.trigger.code ++ e8 why.code ++ encCounts r ++ encFailed r.failedList) s
/-- The staged entries of the slots in `p` become KEEP. -/
def keepSlots (z : Stage) (p : Slot → Bool) (s : State) : State :=
  ((List.finRange 32).filter p).foldl (fun s n => s.setStaged ⟨z, n⟩ .keep) s

/-- The record is in DRAINING with nothing outstanding and nothing deferred (R170). -/
def CommitRec.ended (r : CommitRec) : Bool := r.phase = .draining && r.outstanding.isEmpty && r.deferred.isEmpty
/-- A commit that is over ends (R170). -/
def endCommit (z : Stage) (s : State) : State :=
  match s.commitRec z with
  | some r =>
    if r.ended then
      let s1 := keepSlots z (fun _ => true) s
      (notifyCommit z r .complete { s1 with arm := s1.arm.set z false }).setCommit z .idle
    else s
  | none => s
def endCommits (s : State) : State := (List.finRange 6).foldl (fun s z => endCommit z s) s

/-- The step entries the commit has not reached. -/
def State.unreached (s : State) (z : Stage) (r : CommitRec) : List Slot :=
  match r.phase with
  | .stepping n => (List.finRange 32).filter fun m => n < m && (s.staged ⟨z, m⟩).isStep
  | .draining => []
/-- The record of a commit that aborts: the current step, the deferred drops and the steps not reached count skipped
(R171). -/
def State.abortedRec (s : State) (z : Stage) (r : CommitRec) : CommitRec :=
  let now := match r.phase with | .stepping _ => 1 | .draining => 0
  { r with skipped := r.skipped + now + r.deferred.length + (s.unreached z r).length }
/-- A running commit aborts; its record as it stands is given for the notice (R171). -/
def abortCommit (z : Stage) (s : State) : Option CommitRec × State :=
  match s.commitRec z with
  | some r =>
    let left := s.unreached z r
    let s1 := withdrawCommit z s
    (some (s.abortedRec z r),
      (keepSlots z (fun n => !left.contains n && !r.deferred.contains n) s1).setCommit z .idle)
  | none => (none, s)

/-! ## The link-up wait (R164) -/

def State.darkCount (s : State) (z : Stage) : Nat := ((stageChans z).filter fun c => (s.chan c).state = .dark).length
/-- The commit of a waiting stage starts when none of its channels is DARK. -/
def tryStart (z : Stage) (s : State) : State :=
  match s.commits[z] with
  | .waiting _ => if s.darkCount z = 0 then startCommit z .linkUp s else s
  | _ => s
/-- An armed stage that becomes UP begins its wait. -/
def beginWait (z : Stage) (s : State) : State :=
  if s.arm[z] then tryStart z (s.setCommit z (.waiting (s.now + 2000))) else s
/-- A wait is cancelled (R162 to R164). -/
def cancelWait (z : Stage) (s : State) : State :=
  match s.commits[z] with
  | .waiting _ => s.setCommit z .idle
  | _ => s

end Sys2Proof.Machine
end

