-- ==== Sys2Proof/Machine/Watch.lean ====
section
/-! DEFINITION. The Spectrum Watch (R98 to R119): evaluation of reports and standing sweeps, the fire and its response,
the return watch, and what a profile write and a survey do to the watches. -/

namespace Sys2Proof.Machine

/-! ## Evaluations (R99) -/

/-- What a piece of evidence says to a condition: nothing, or whether it qualifies, with its value. -/
abbrev Evidence := Cond → Option (Bool × Nat)

/-- A TELEMETRY report with tuning clear, its level as taken after clamping (R99). -/
def reportEvidence (level dropouts : Nat) (pilot : Bool) : Evidence := fun k =>
  match k.kind with
  | .foreign => some (decide (k.threshold ≤ level) && !pilot, level)
  | .dropout => some (decide (k.threshold ≤ dropouts), dropouts)
  | .sweepHit | .none => none
/-- A standing sweep frame against assigned frequency `a` (R99). -/
def sweepEvidence (samples : List (Nat × Nat)) (a : Nat) (last : Option LastReport) : Evidence := fun k =>
  match k.kind with
  | .sweepHit =>
    match covered samples a k.reach with
    | [] => none
    | l :: ls => some ((l :: ls).any (fun x => k.threshold ≤ x) && last.any (fun r => !r.pilot), highest (l :: ls))
  | _ => none

/-! ## The watch's own steps (R103, R104, R106) -/

/-- The levels whose persistence completed, and the value that completed the last of them (R108). -/
structure Fire where
  level1 : Bool
  level2 : Bool
  value : Nat
  deriving DecidableEq, Repr

/-- A counted level takes an evaluation: its new run, and the value if the run reaches the persistence (R103). -/
def countLevel (k : Cond) (ev : Evidence) (run : Nat) : Nat × Option Nat :=
  match ev k with
  | some (true, v) => (run + 1, if k.persistence ≤ run + 1 then some v else none)
  | some (false, _) => (0, none)
  | none => (run, none)

/-- SUSPECT takes an evaluation of level 2 (R104). -/
def suspectStep (p : Profile) (ev : Evidence) (w : Watch) : Watch × Option Fire :=
  match countLevel p.level2 ev w.run2 with
  | (_, some v) => (w, some ⟨true, true, v⟩)
  | (r, none) => ({ w with run2 := r }, none)

/-- ARMED takes an evaluation, by the profile's combine setting (R103, R104, R106). Under EITHER, one that completes both
levels fires with level 2's value. Log 45. -/
def armedStep (now : Nat) (p : Profile) (ev : Evidence) (w : Watch) : Watch × Option Fire :=
  let (r1, d1) := countLevel p.level1 ev w.run1
  if p.level2.kind = .none then
    match d1 with
    | some v => (w, some ⟨true, false, v⟩)
    | none => ({ w with run1 := r1 }, none)
  else
    match p.combine with
    | .sequence =>
      match d1 with
      | some _ => suspectStep p ev ⟨.suspect, r1, 0, some (now + p.window)⟩
      | none => ({ w with run1 := r1 }, none)
    | .either =>
      let (r2, d2) := countLevel p.level2 ev w.run2
      match d1, d2 with
      | none, none => ({ w with run1 := r1, run2 := r2 }, none)
      | some v, none => (w, some ⟨true, false, v⟩)
      | none, some v => (w, some ⟨false, true, v⟩)
      | some _, some v => (w, some ⟨true, true, v⟩)

def watchStep (now : Nat) (p : Profile) (ev : Evidence) (w : Watch) : Watch × Option Fire :=
  match w.st with
  | .armed => armedStep now p ev w
  | .suspect => suspectStep p ev w
  | .off | .fired => (w, none)

/-! ## The response (R108 to R111) -/

/-- The outcomes an INTERFERENCE notice names (R108). -/
inductive FireOutcome where
  | reported | reportedPinned | reportedNoCapability | queued | alreadyPending | noActionHeld | secondFault | frozen
  deriving DecidableEq, Repr
def FireOutcome.code : FireOutcome → Nat
  | .reported => 0
  | .reportedPinned => 1
  | .reportedNoCapability => 2
  | .queued => 3
  | .alreadyPending => 4
  | .noActionHeld => 5
  | .secondFault => 6
  | .frozen => 7

/-- A MOVE response (R109, R110). -/
def moveResponse (c : Chan) (s : State) : FireOutcome × State :=
  let r := s.chan c
  if r.pinned then (.reportedPinned, s)
  else if !s.fitted c then (.reportedNoCapability, s)
  else if r.state = .held then (.noActionHeld, s)
  else if r.settle.isSome then (.secondFault, doubleFault c s)
  else if (s.entryOf c).isSome then (.alreadyPending, s)
  else
    match s.itemOf c with
    | some i =>
      if i.want = .ret then
        (.queued, { s with backlog := s.backlog.map fun j => if j.chan = c then { j with want := .search } else j })
      else (.alreadyPending, s)
    | none => (.queued, joinBacklog ⟨c, .search, s.now, false⟩ s)

/-- A FREEZE response (R111). -/
def freezeResponse (c : Chan) (s : State) : FireOutcome × State :=
  if (s.chan c).state = .active then (.frozen, notifyHeld c .freeze (setHeld c .freeze s)) else (.frozen, s)

def respond (c : Chan) (r : Response) (s : State) : FireOutcome × State :=
  match r with
  | .report => (.reported, s)
  | .move => moveResponse c s
  | .freeze => freezeResponse c s

/-- The kind of a level that completed, or absent. -/
def firedKind (on : Bool) (k : Cond) : List Byte := o8 (if on then some k.kind.code else none)

/-- A watch fires (R108). -/
def fire (c : Chan) (n : Fin 8) (f : Fire) (s : State) : State :=
  let p := s.profiles[n]
  let s1 := bumpStage c.stage .fires (s.modChan c fun r => { r with watch := ⟨.fired, 0, 0, none⟩ })
  let (o, s2) := respond c p.response s1
  notifyChan .interference c (e8 n.val ++ o16 (s.chan c).assigned ++ firedKind f.level1 p.level1
    ++ firedKind f.level2 p.level2 ++ e8 f.value ++ e8 o.code) s2

/-- A live watch in ARMED or SUSPECT takes an evaluation (R102, R103). -/
def evaluate (c : Chan) (ev : Evidence) (s : State) : State :=
  let r := s.chan c
  if (r.state = .active ∨ r.state = .held) ∧ s.liveProfile r.profile then
    match r.profile with
    | some n =>
      match watchStep s.now s.profiles[n] ev r.watch with
      | (w, none) => s.modChan c fun r => { r with watch := w }
      | (_, some f) => fire c n f s
    | none => s
  else s

/-! ## The return watch (R116, R117) -/

/-- A channel whose clean run a frame leaves at its dwell joins the backlog with want RETURN (R117). -/
def joinReturn (c : Chan) (s : State) : State :=
  if s.movable c && (s.entryOf c).isNone && (s.itemOf c).isNone then joinBacklog ⟨c, .ret, s.now, false⟩ s else s
/-- The channel's RETURN item leaves the backlog, as its clean run is 0 (R117, R140). -/
def dropReturn (c : Chan) (s : State) : State :=
  { s with backlog := s.backlog.filter fun i => !(i.chan = c && i.want = .ret) }
/-- A standing sweep frame is tested against a return watch (R116, R117). -/
def sweepReturn (c : Chan) (samples : List (Nat × Nat)) (s : State) : State :=
  match (s.chan c).returnWatch with
  | some w =>
    let ls := covered samples w.freq 1
    if ls = [] then s
    else if ls.any (fun l => (s.opt (s.groupOf c)).floor ≤ l) then dropReturn c (s.modChan c ChanRec.zeroReturn)
    else
      let n := if w.run = w.dwell then w.run else w.run + 1
      let s1 := s.modChan c fun r => { r with returnWatch := some { w with run := n } }
      if n = w.dwell then joinReturn c s1 else s1
  | none => s

/-- A standing sweep frame is tested against the pending target of a MOVING channel (R114). -/
def sweepSpoil (c : Chan) (samples : List (Nat × Nat)) (s : State) : State :=
  let r := s.chan c
  match r.state, r.pending with
  | .moving, some t =>
    let ls := covered samples t 1
    if ls.any (fun l => (s.opt (s.groupOf c)).floor ≤ l) then spoil c t (highest ls) s else s
  | _, _ => s

/-- A standing sweep frame is an evaluation of SWEEP_HIT for a channel of its stage (R99). -/
def sweepHit (c : Chan) (samples : List (Nat × Nat)) (s : State) : State :=
  match (s.chan c).assigned with
  | some a => evaluate c (sweepEvidence samples a (s.chan c).lastReport) s
  | none => s

/-- The uses of a standing sweep frame of stage `z`, in their order (R68). The MOVE requests of two PROPOSED moves that the
frame spoils join in slot order, which R48 leaves open. Log 6. -/
def standingSweep (z : Stage) (samples : List (Nat × Nat)) (s : State) : State :=
  (stageChans z).foldl (fun s c => sweepHit c samples (sweepSpoil c samples (sweepReturn c samples s)))
    (sweepPool s.couple[z] samples s)

/-! ## Events of R101, R102, R105 and R119 -/

/-- The expiry of the window deadline of a SUSPECT watch (R105). -/
def windowExpiry (c : Chan) (s : State) : State :=
  if (s.chan c).watch.st = .suspect ∧ (s.chan c).watch.window.isSome then
    bumpStage c.stage .expiries (s.modChan c fun r => { r with watch := Watch.armed })
  else s

/-- The watch of a channel whose profile is written or changed: ARMED while ACTIVE, HELD or MOVING with a live profile
(R101, R102). -/
def State.rewatch (s : State) (r : ChanRec) : Watch :=
  if r.state = .active ∨ r.state = .held ∨ r.state = .moving then s.freshWatch r.profile else Watch.off
/-- A profile write restarts every watch that uses the profile (R101). -/
def profileWritten (n : Fin 8) (s : State) : State :=
  { s with chans := s.chans.map fun r =>
      if r.profile = some n then { r with watch := s.rewatch r, returnWatch := none } else r }

/-- What a survey's acceptance does to one watch (R119). -/
def surveyWatch (p : Profile) (w : Watch) : Watch :=
  let w1 := if w.st = .suspect ∧ p.level1.kind = .sweepHit then Watch.armed else w
  if w1.st = .armed ∨ w1.st = .suspect then
    { w1 with
      run1 := if p.level1.kind = .sweepHit then 0 else w1.run1
      run2 := if p.level2.kind = .sweepHit then 0 else w1.run2 }
  else w1
def ChanRec.surveyed (s : State) (r : ChanRec) : ChanRec :=
  { r.zeroReturn with
    watch := match r.profile with
      | some n => surveyWatch s.profiles[n] r.watch
      | none => r.watch }
/-- The standing evidence of a stage is discarded at a survey's acceptance (R119). -/
def surveyBegins (z : Stage) (s : State) : State :=
  (stageChans z).foldl (fun s c => s.modChan c (ChanRec.surveyed s)) s

end Sys2Proof.Machine
end

