-- ==== Sys2Proof/Machine/Gate.lean ====
section
/-! DEFINITION. The Admission Gate (R81 to R97): the examination of a passing TUNE, the hold buffer, refusals, track notes
and their fulfilment, off-plan adoption and post-checks. -/

namespace Sys2Proof.Machine

/-- The reasons of a refusal (R79, R83). -/
inductive GateReason where
  | conflict | blocked | busy
  deriving DecidableEq, Repr
def GateReason.code : GateReason → Nat
  | .conflict => 16
  | .blocked => 17
  | .busy => 18

/-- A refusal by the Gate of TUNE frame `f` for channel `c` at `target`: the TUNE_REPORT, the counter and the notice
(R83), in this order. Log 20, log 34. -/
def refuseTune (f : Frame) (c : Chan) (target : Nat) (why : GateReason) (kind : Nat) (i1 i2 : Option Chan) (s : State) :
    State :=
  let rep : Frame := ⟨f.src, deviceAddr, kTuneReport, f.seq,
    e8 (c.slot.val % 8) ++ be16 target ++ e8 1 ++ e8 why.code ++ e8 kind⟩
  notifyChan .admissionRefused c (e8 why.code ++ e8 kind ++ be16 target ++ eAddr (some f.src) ++ eChan i1 ++ eChan i2)
    (bumpStage c.stage .refusals (route rep s))

/-- The channel is PARKED, ACTIVE or HELD. -/
def ChanRec.settled (r : ChanRec) : Bool := r.state = .parked || r.state = .active || r.state = .held

/-- A TUNE is forwarded on a TRACK stage, with a track note where R88 makes one. Log 21. -/
def trackTune (f : Frame) (c : Chan) (target : Nat) (s : State) : State :=
  let s1 := handTo (.stage c.stage) f s
  if (s1.chan c).settled && (s1.entryOf c).isNone && !offGrid target && (s1.chan c).assigned ≠ some target then
    { s1.dropNote c with notes := (s1.dropNote c).notes ++ [⟨c, target, f.src, f.seq⟩] }
  else s1

/-- Row 5 of R82. -/
def State.gateBusy (s : State) (c : Chan) : Bool :=
  (s.chan c).state = .moving || (s.chan c).state = .dark || !(s.port (.stage c.stage)).up || (s.heldOf c).isSome
  || (s.commitRec c.stage).isSome || decide (8 ≤ s.heldFrames.length) || s.admFull || s.tableFull
/-- Row 4 of R82. -/
def State.alreadyThere (s : State) (c : Chan) (target : Nat) : Bool :=
  ((s.chan c).state = .active || (s.chan c).state = .held) && (s.entryOf c).isNone && (s.heldOf c).isNone
  && (s.chan c).assigned = some target

/-- The examination of a passing TUNE (R82). -/
def examineTune (f : Frame) (c : Chan) (target : Nat) (s : State) : State :=
  if s.gate[c.stage] = .block then refuseTune f c target .blocked 0 none none s
  else if (s.chan c).state = .unused then refuseTune f c target .conflict Verdict.notInPlan.code none none s
  else if s.gate[c.stage] = .track then trackTune f c target s
  else if s.alreadyThere c target then handTo (.stage c.stage) f s
  else if s.gateBusy c then refuseTune f c target .busy 0 none none s
  else joinAdm (.guard c target) { s with heldFrames := s.heldFrames ++ [⟨f, c, target⟩] }

def dropHeld (c : Chan) (s : State) : State := { s with heldFrames := s.heldFrames.filter fun x => x.chan ≠ c }

/-- A held frame is admitted: reservation, PASSED entry, forwarding (R86). -/
def admitHeld (h : HeldFrame) (s : State) : State :=
  let c := h.chan
  let s1 := reserve c h.target s
  let s2 := addEntry { freshEntry s1 c .passed with
    state := .sent, target := some h.target, attempts := 1, orig := some h.frame.src, replyDl := some (s.now + 300) } s1
  handTo (.stage c.stage) h.frame (dropHeld c s2)

/-- The completion of a held frame's check (R86, R87). -/
def guardDone (c : Chan) (r : Result) (s : State) : State :=
  match s.heldOf c with
  | some h =>
    let s1 := dropHeld c s
    if r.verdict = .clear then
      if (s.chan c).state = .unused then refuseTune h.frame c h.target .conflict Verdict.notInPlan.code none none s1
      else if (s.chan c).settled && (s.entryOf c).isNone && (s.port (.stage c.stage)).up && !s.tableFull then admitHeld h s
      else refuseTune h.frame c h.target .busy 0 none none s1
    else refuseTune h.frame c h.target .conflict r.verdict.code r.inv1 r.inv2 s1
  | none => s

/-! ## Track notes and adoptions (R89, R90, R93) -/

/-- The track note of a channel is fulfilled (R89); the adoption is R90. -/
def fulfil (c : Chan) (target : Nat) (s : State) : State :=
  let s1 := s.dropNote c
  if (s.chan c).settled && (s.entryOf c).isNone && (s.chan c).assigned ≠ some target then
    queuePost c target .track (adopt c target .track s1)
  else s1
/-- The channel's track note names this target. -/
def State.noteIs (s : State) (c : Chan) (target : Nat) : Bool :=
  match s.noteOf c with
  | some n => n.target = target
  | none => false
/-- A TUNE_REPORT meets the channel's track note (R89). -/
def noteReport (c : Chan) (target result : Nat) (s : State) : State :=
  if s.noteIs c target then (if result = 0 then fulfil c target s else s.dropNote c) else s

/-- OFF_PLAN for an adoption: cause, adopted and former frequency (R93), with the cause DARK too (R75). Log 53. -/
def notifyOffPlan (c : Chan) (cause f : Nat) (former : Option Nat) (s : State) : State :=
  notifyChan .offPlan c (e8 cause ++ be16 f ++ o16 former) s
/-- An off-plan adoption (R93). -/
def adoptOffPlan (c : Chan) (f : Nat) (s : State) : State :=
  queuePost c f .offPlan <| notifyOffPlan c 0 f (s.chan c).assigned <| adopt c f .offPlan (s.dropNote c)
/-- The channel is off plan (R92). -/
def State.isOffPlan (s : State) (c : Chan) (f : Nat) : Bool :=
  ((s.chan c).state = .active || (s.chan c).state = .held) && (s.entryOf c).isNone && (s.chan c).assigned ≠ some f

/-- The completion of a post-check (R91). -/
def postDone (c : Chan) (f : Nat) (kind : AdoptKind) (r : Result) (s : State) : State :=
  if (s.chan c).assigned = some f ∧ r.verdict ≠ .clear then conflictAdopted c f kind r.verdict r.inv1 r.inv2 s else s

/-! ## Stage loss (R95) -/

def discardHeld (h : HeldFrame) (s : State) : State :=
  refuseTune h.frame h.chan h.target .busy 0 none none (withdrawGuard h.chan (dropHeld h.chan s))
def gateDown (z : Stage) (s : State) : State :=
  let s1 := (s.heldFrames.filter fun h => h.chan.stage = z).foldl (fun s h => discardHeld h s) s
  { s1 with notes := s1.notes.filter fun n => n.chan.stage ≠ z }

end Sys2Proof.Machine
end

