-- ==== Sys2Proof/Machine/Links.lean ====
section
/-! DEFINITION. Links (R61, R67, R70 to R76): capabilities, the resolution of DARK channels, surveys and standing spans,
and the transitions of the ports. -/

namespace Sys2Proof.Machine

/-! ## Orders to the chain (R71, R179, R180) -/

def sendQuery (z : Stage) (rack : Nat) (s : State) : State := originate (unitAddr z rack) kQuery [] s
def sendStanding (z : Stage) (s : State) : State :=
  originate (unitAddr z 4) kSweepSet (e8 0 ++ encSpan s.spans[z] ++ e8 0) s
def sendSurvey (z : Stage) (v : Survey) (s : State) : State :=
  originate (unitAddr z 4) kSweepSet (e8 1 ++ be16 v.start ++ e8 v.step ++ e8 v.count ++ e8 v.passes) s

/-! ## Surveys (R181) -/

inductive SurveyCause where
  | complete | timeout | stageDown | restart
  deriving DecidableEq, Repr
def SurveyCause.code : SurveyCause → Nat
  | .complete => 0
  | .timeout => 1
  | .stageDown => 2
  | .restart => 3

/-- SURVEY_DONE: the cause, the passes ordered and the frames received, a number above 255 held at 255 (R181). Log 43. -/
def notifySurvey (z : Stage) (v : Survey) (why : SurveyCause) (s : State) : State :=
  notify .surveyDone z.val 255 (e8 why.code ++ e8 v.passes ++ eCount v.frames) s
/-- The stage becomes STANDING. -/
def clearSurvey (z : Stage) (s : State) : State := { s with surveys := s.surveys.set z none }
/-- A survey ends with its order to the scanner (R181). -/
def endSurvey (z : Stage) (why : SurveyCause) (s : State) : State :=
  match s.surveys[z] with
  | some v => notifySurvey z v why (sendStanding z (clearSurvey z s))
  | none => s
/-- A survey ends at stage DOWN, with no order (R181). -/
def surveyDown (z : Stage) (s : State) : State :=
  match s.surveys[z] with
  | some v => notifySurvey z v .stageDown (clearSurvey z s)
  | none => s
/-- A sweep frame is offered to the survey in progress (R180, R181). -/
def surveyFrame (z : Stage) (last survey : Bool) (s : State) : State :=
  match s.surveys[z] with
  | some v =>
    let s1 := if survey then { s with surveys := s.surveys.set z (some { v with frames := v.frames + 1 }) } else s
    if last && survey then endSurvey z .complete s1 else s1
  | none => s

/-! ## Capabilities (R70) -/

/-- The fitted byte: 0 no, 1 yes; another value is left open. Log 12. -/
def fittedOf (n : Nat) : Bool := n = 1 || (decide (2 ≤ n) && Config.fittedOther n)
/-- An entry that is recorded (R70). -/
def recordable (e : CapReport) : Bool :=
  decide (e.receiver ≤ 7) && (!fittedOf e.fitted || ((e.step = 1 || e.step = 2 || e.step = 4) && !offGrid e.low && !offGrid e.high))
/-- A capability entry contains a frequency: fitted, in range, a multiple of the step (R70). -/
def Cap.contains (e : Cap) (f : Nat) : Bool :=
  e.fitted && decide (e.low ≤ f) && decide (f ≤ e.high) && decide (f % e.step = 0)
/-- The channel of a rack unit and a receiver (R2). -/
def rackChan (z : Stage) (rack : Fin 4) (r : Nat) (h : r < 8) : Chan := ⟨z, ⟨8 * rack.val + r, by omega⟩⟩

/-- A receiver that is not fitted loses its waiting SEARCH or RETURN item as its entry is stored (R140). -/
def dropUnfitted (c : Chan) (s : State) : State :=
  if s.fitted c then s else { s with backlog := s.backlog.filter fun i => !(i.chan = c && i.want ≠ .push) }
/-- One entry of a CAPABILITY frame (R70). The range and the step of an entry that is not fitted are kept as carried.
Log 51. -/
def recordCap (c : Chan) (e : CapReport) (s : State) : State :=
  let old := s.cap c
  let cap : Cap := ⟨fittedOf e.fitted, e.low, e.high, e.step⟩
  let s1 := dropUnfitted c (s.setCap c (some cap))
  match (s1.chan c).assigned with
  | some f =>
    if !cap.contains f && (match old with | some o => o.contains f | none => true) then
      notifyChan .offPlan c (e8 2 ++ be16 f ++ be16 cap.low ++ be16 cap.high) s1
    else s1
  | none => s1
def readCapability (z : Stage) (rack : Fin 4) (es : List CapReport) (s : State) : State :=
  es.foldl (fun s e =>
    if h : e.receiver < 8 then (if recordable e then recordCap (rackChan z rack e.receiver h) e s else s) else s) s

/-! ## DARK resolution (R75) -/

/-- The state a DARK channel returns to. -/
def ChanRec.undark (r : ChanRec) : ChState := if r.darkFrom = some .held then .held else .active
/-- The report shows the assigned frequency. -/
def resolveSame (c : Chan) (s : State) : State :=
  (release c s).modChan c fun r => { r with state := r.undark, darkFrom := none, watch := s.freshWatch r.profile }
/-- The report shows the pending target: the move is completed (R9, R75). Log 19. -/
def resolvePending (c : Chan) (f : Nat) (s : State) : State :=
  let v := (s.chan c).assigned
  let s1 := recycle c v .passed (complete c f false s)
  notifyMoved c none v (some f) none false false none <|
    s1.modChan c fun r => { r with settle := none, returnWatch := none, watch := s1.freshWatch r.profile }
/-- The report shows a third frequency: it is adopted (R11, R75). -/
def resolveThird (c : Chan) (f : Nat) (s : State) : State :=
  queuePost c f .dark <| notifyOffPlan c 1 f (s.chan c).assigned <| adopt c f .dark s
/-- An EXCLUSION_CONFLICT notice: the conflicting frequency and the entry (R17). Log 41. -/
def notifyConflict (c : Chan) (s : State) : State :=
  match s.conflictOf c with
  | some (f, x) => notifyChan .exclusionConflict c (be16 f ++ be16 x.first ++ be16 x.last) s
  | none => s
/-- A waiting commit may start after the adoption that took `s0` to `s` (R164). Where its drops park the channel at once,
a flag that the adoption set has its notice before them, since the close no longer finds it (R17, R19). Log 8. -/
def startAdopted (c : Chan) (s0 s : State) : State :=
  let s1 := tryStart c.stage s
  if !(s0.chan c).exclConflict && (s.chan c).exclConflict && !(s1.chan c).exclConflict then
    tryStart c.stage (notifyConflict c s)
  else s1
/-- A DARK channel is resolved by a report with tuning clear (R75); a waiting commit of its stage may start (R164). -/
def resolveDark (c : Chan) (f : Nat) (s : State) : State :=
  let r := s.chan c
  if r.assigned = some f then tryStart c.stage (resolveSame c s)
  else if r.pending = some f then tryStart c.stage (resolvePending c f s)
  else startAdopted c s (resolveThird c f s)

/-! ## One telemetry report (R67) -/

/-- A level above 100 is taken as 100 (R67, R68). -/
def clampLevel (n : Nat) : Nat := min n 100
/-- What a report with tuning clear does, after the last report is updated (R67, R75, R92, R103, R149). Log 22. -/
def clearReport (c : Chan) (x : Report) (s : State) : State :=
  let ev := reportEvidence (clampLevel x.level) x.dropouts x.pilot
  if (s.chan c).state = .dark then resolveDark c x.tuned s
  else
    match (s.entryOf c).filter fun e => e.state = .locking with
    | some e => lockReport e x.tuned s
    | none =>
      if s.noteIs c x.tuned then evaluate c ev (fulfil c x.tuned s)
      else if s.isOffPlan c x.tuned then adoptOffPlan c x.tuned s
      else evaluate c ev s
/-- A report for a channel, read by R67. -/
def channelReport (c : Chan) (x : Report) (s : State) : State :=
  let s1 := s.modChan c fun r =>
    { r with lastReport := some ⟨x.tuned, clampLevel x.level, x.pilot, x.squelch, x.busy, s.now⟩ }
  if x.busy then s1 else clearReport c x s1

/-! ## Stage UP and DOWN (R73, R74) -/

/-- A stage port becomes UP (R74). -/
def stageUp (z : Stage) (s : State) : State :=
  let s1 := sendStanding z ([0, 1, 2, 3].foldl (fun s u => sendQuery z u s) s)
  beginWait z (notify .stageUp z.val 255 (e8 (s1.darkCount z)) s1)

/-- The causes of a stage DOWN (R80). -/
inductive DownCause where
  | signalLoss | silence
  deriving DecidableEq, Repr
def DownCause.code : DownCause → Nat
  | .signalLoss => 0
  | .silence => 1

/-- An entry of a lost stage is ended (R158); the notices of proposals follow in `expireDown`. Log 8. -/
def entryDown (e : Entry) (s : State) : State :=
  match e.state with
  | .searching => (withdrawMove e.chan s).dropEntry e.chan
  | .proposed => (release e.chan s).dropEntry e.chan
  | .sent | .locking => notifyFailed e .stageDown none (s.dropEntry e.chan)
def expireDown (e : Entry) (s : State) : State := if e.state = .proposed then notifyExpired e .stageDown s else s
def entriesDown (z : Stage) (s : State) : State :=
  let es := s.table.filter fun e => e.chan.stage = z
  let s1 := es.foldl (fun s e => expireDown e s) (es.foldl (fun s e => entryDown e s) s)
  { s1 with backlog := s1.backlog.filter fun i => i.chan.stage ≠ z }

/-- The channel of a lost stage, or of a move cut short by soft restart, becomes DARK (R6, R73, R159). -/
def ChanRec.goDark (r : ChanRec) : ChanRec :=
  match r.state with
  | .active => { r with state := .dark, darkFrom := some .active, watch := Watch.off }
  | .held => { r with state := .dark, darkFrom := some .held, watch := Watch.off }
  | .moving => { r with state := .dark, darkFrom := some .moving, ret := none, heldCause := none, watch := Watch.off }
  | .unused | .parked | .dark => r
def chansDark (z : Stage) (s : State) : State :=
  (stageChans z).foldl (fun s c => (s.modChan c ChanRec.goDark).setCap c none) s

/-- The commit of a lost stage aborts, or its wait ends (R164, R171). -/
def commitDown (z : Stage) (s : State) : State :=
  match abortCommit z s with
  | (some r, s1) => notifyCommit z r .stageDown s1
  | (none, s1) => cancelWait z s1

/-- A stage port becomes DOWN (R73). The frames that wait to leave it are discarded (R69). -/
def stageDown (z : Stage) (why : DownCause) (s : State) : State :=
  let p := s.port (.stage z)
  let s1 := s.setPort (.stage z) { p with up := false, silence := none, tx := [] }
  let s2 := chansDark z (surveyDown z (commitDown z (gateDown z (entriesDown z s1))))
  notify .stageDown z.val 255 (e8 why.code ++ e8 (s2.darkCount z)) s2

/-- The trunk becomes DOWN: the frames that wait to leave it are discarded and counted (R69, R76). -/
def trunkDown (s : State) : State :=
  s.trunk.tx.foldl (fun s _ => bumpTrunk s) { s with trunk := { s.trunk with up := false, silence := none, tx := [] } }
def portDown (p : Port) (why : DownCause) (s : State) : State :=
  match p with
  | .trunk => trunkDown s
  | .stage z => stageDown z why s

/-- A valid frame restarts the silence timer of its port, and brings a DOWN port UP (R62, R72). -/
def restartSilence (p : Port) (s : State) : State :=
  s.setPort p { s.port p with up := true, silence := some (s.now + 3000) }
/-- What a port that was DOWN does when a frame has brought it UP (R74, R76). -/
def portUp (p : Port) (s : State) : State :=
  match p with
  | .trunk => s
  | .stage z => stageUp z s

end Sys2Proof.Machine
end

