-- ==== Sys2Proof/Machine/Change.lean ====
section
/-! DEFINITION. The close of a change: what the rules make follow in the same change from whatever the change did
(R17, R53, R126, R128, R140, R141, R166, R170), in one fixed order. Log 8, log 9. -/

namespace Sys2Proof.Machine

/-- The backlog after a change: deferred drops whose entries have ended, items that no longer stand, then the arbiter
(R140, R141, R166). -/
def settleBacklog (s : State) : State :=
  let s1 := pruneBacklog (settleDrops s)
  pruneBacklog (settleDrops (arbiter s1.backlog.length s1))

/-- One EXCLUSION_CONFLICT notice for each channel whose flag the change set, in plan order (R17, R19). -/
def exclusionNotices (s0 s : State) : State :=
  (allChans.filter fun c => !(s0.chan c).exclConflict && (s.chan c).exclConflict).foldl (fun s c => notifyConflict c s) s

/-- One POOL_LOW notice for each pool whose READY count the change took from 2 or more to less than 2, in group order
(R128). -/
def poolNotices (s0 s : State) : State :=
  ((List.finRange 4).filter fun g => decide (2 ≤ s0.readyCount g) && decide (s.readyCount g < 2)).foldl
    (fun s g => notify .poolLow 255 255 (e8 g.val ++ e8 (s.readyCount g) ++ e8 (s.pool g).length) s) s

/-- The close of a change that began in `s0`. -/
def closeChange (s0 s : State) : State :=
  endCommits <| poolNotices s0 <| exclusionNotices s0 <| queueRechecks <| restartService <| settleBacklog s

end Sys2Proof.Machine
end

