-- ==== Sys2Proof/Machine/Channels.lean ====
section
/-! DEFINITION. The channel requests and operator moves (R155, R156, R186 to R190), CHECK (R58) and the deferral of
management writes under a group hold (R55, R56). Each definition is what the request does once the tests of R183 have
passed; the close of the change is made by its caller. -/

namespace Sys2Proof.Machine

/-! ## Deferral (R55, R56) -/

/-- A write waits while the Engine holds a group it would increment; a full list answers BUSY. -/
def deferOr (h : ReqHdr) (req : Request) (wait : Bool) (apply : State → State) (s : State) : State :=
  if wait then
    if 4 ≤ s.engine.deferred.length then refuse h req.code .busy s
    else { s with engine := { s.engine with deferred := s.engine.deferred ++ [⟨h, req⟩] } }
  else apply s
/-- A hold stands on some group (R54). -/
def State.holding (s : State) : Bool :=
  match s.engine.service with
  | some v => v.hold ≠ 0#4
  | none => false
/-- The channel is the subject of the held service (R55). -/
def State.heldSubject (s : State) (c : Chan) : Bool :=
  match s.serving with
  | some (r, _) => s.holding && r.subject = .chan c
  | none => false

/-! ## DEFINE_CHANNEL, REMOVE_CHANNEL, READ_CHANNEL -/

/-- The record of a channel that DEFINE_CHANNEL takes out of UNUSED (R186). -/
def ChanRec.define (a : Attrs) (r : ChanRec) : ChanRec :=
  { ChanRec.reset with
    state := .parked, cls := a.cls, priority := a.priority, profile := a.profile, pinned := a.pinned
    lastReport := r.lastReport }
/-- DEFINE_CHANNEL (R186). -/
def defineChannel (h : ReqHdr) (stage slot cls priority profile pinned : Nat) (s : State) : State :=
  let code := 0x02
  match chanOf stage slot, attrsOf cls priority profile pinned with
  | some c, some a =>
    if (s.chan c).state = .unused then
      let s1 := s.modChan c (ChanRec.define a)
      replyOk h code (encRecord s1 (s1.chan c)) s1
    else refuse h code .duplicate s
  | _, _ => refuse h code .badRequest s

/-- REMOVE_CHANNEL (R186). -/
def removeChannel (h : ReqHdr) (stage slot : Nat) (s : State) : State :=
  let code := 0x03
  match chanOf stage slot with
  | some c =>
    match (s.chan c).state with
    | .unused => refuse h code .notFound s
    | .parked =>
      replyOk h code [] ((s.setChan c { ChanRec.reset with lastReport := (s.chan c).lastReport }).dropNote c)
    | _ => refuse h code .busy s
  | none => refuse h code .badRequest s

/-- READ_CHANNEL (R190). Log 15. -/
def readChannel (h : ReqHdr) (stage slot : Nat) (s : State) : State :=
  let code := 0x01
  match chanOf stage slot with
  | some c =>
    replyOk h code (encRecord s (s.chan c) ++ encCap (s.cap c) ++ encEntry s (s.entryOf c) ++ encItem (s.itemOf c)
      ++ eFlag (s.heldOf c).isSome ++ encNote (s.noteOf c) ++ encStaged (s.staged c)) s
  | none => refuse h code .badRequest s

/-! ## Operator moves (R155, R156, R188, R189) -/

/-- The channel cannot be given an operator move now (R155, step 5 of R188). -/
def State.operBusy (s : State) (c : Chan) : Bool :=
  (s.chan c).state = .dark || (s.chan c).state = .moving || (s.entryOf c).isSome || !(s.port (.stage c.stage)).up
  || s.tableFull || s.admFull
/-- The reply to an operator request; a WRITE_CHANNEL's carries the attributes as stored first (R187). -/
def operReply (o : Oper) (st : Status) (kind : Nat) (extra : List Byte) (s : State) : State :=
  reply o.hdr o.code st kind ((if o.code = 0x04 then encAttrs (s.chan o.chan) else []) ++ extra) s

/-- An operator request's check or search ended with frequency `t` (R156). -/
def operFound (o : Oper) (t : Nat) (s : State) : State :=
  let c := o.chan
  if (s.chan c).settled && (s.entryOf c).isNone && (s.port (.stage c.stage)).up && !s.tableFull then
    let s1 := reserve c t s
    let e := { freshEntry s c .operator with revert := o.revert, target := some t, roc := o.roc, orig := some o.hdr.src }
    operReply o .ok 0 (be16 t) (sendEntry c (addEntry e s1))
  else operReply o .busy 0 [] s
/-- What an operator request does with the end or the next step of its search (R156, R188). -/
def operSearched (o : Oper) (x : SearchStep × State) : State :=
  match x with
  | (.more w q, s) => replaceHead (.adm (.oper { o with work := w, search := q })) s
  | (.found f _ _ _, s) => operFound o f (leaveHead .admission s)
  | (.empty _, s) => operReply o .refused 0 [] (leaveHead .admission s)
/-- The completion of a service of an operator request (R156). A verdict that is not CLEAR is REFUSED, of a channel that was
removed too. Log 47. -/
def operDone (o : Oper) (r : Outcome) (s : State) : State :=
  match o.work, r with
  | .given _, .check f x | .prior, .check f x =>
    let s1 := leaveHead .admission s
    if x.verdict = .clear then operFound o f s1 else operReply o .refused x.verdict.code [] s1
  | w, r => operSearched o (searchDone o.chan w o.search r s)

/-- An operator request is queued (R155). -/
def queueOper (h : ReqHdr) (code : Nat) (c : Chan) (revert roc : Bool) (w : Work) (q : Search) (s : State) : State :=
  joinAdm (.oper ⟨h, code, c, revert, roc, w, q⟩) s

/-- A MOVE to a given frequency, after the tests before step 5 of R188. -/
def moveTo (h : ReqHdr) (c : Chan) (t : Nat) (roc : Bool) (s : State) : State :=
  let code := 0x08
  if s.operBusy c then refuse h code .busy s
  else if (s.chan c).assigned = some t then replyOk h code (be16 t) s
  else queueOper h code c false roc (.given t) Search.start s
/-- A PICK MOVE begins its search; one that ends at once is refused at once (R188). -/
def movePick (h : ReqHdr) (c : Chan) (roc : Bool) (s : State) : State :=
  let code := 0x08
  if s.operBusy c then refuse h code .busy s
  else
    match searchNext c Search.start s with
    | (.more w q, s1) => queueOper h code c false roc w q s1
    | (_, s1) => reply h code .refused 0 [] s1
/-- A RELATIVE MOVE (R188). -/
def moveBy (h : ReqHdr) (c : Chan) (offset : Int) (roc : Bool) (s : State) : State :=
  let code := 0x08
  if (s.chan c).state = .parked then refuse h code .badRequest s
  else
    match (s.chan c).assigned with
    | some a =>
      if (a : Int) + offset < 0 ∨ (gridMax : Int) < (a : Int) + offset then refuse h code .outOfGrid s
      else moveTo h c ((a : Int) + offset).toNat roc s
    | none => refuse h code .busy s

/-- MOVE (R188). -/
def moveChannel (h : ReqHdr) (stage slot form operand roc : Nat) (s : State) : State :=
  let code := 0x08
  match chanOf stage slot, flagOf roc with
  | some c, some flag =>
    if 2 < form ∨ (form = 1 ∧ 255 < (signed16 operand).natAbs) then refuse h code .badRequest s
    else if (s.chan c).state = .unused then refuse h code .notFound s
    else if form = 0 then (if offGrid operand then refuse h code .outOfGrid s else moveTo h c operand flag s)
    else if form = 1 then moveBy h c (signed16 operand) flag s
    else movePick h c flag s
  | _, _ => refuse h code .badRequest s

/-- REVERT (R189). -/
def revertChannel (h : ReqHdr) (stage slot : Nat) (s : State) : State :=
  let code := 0x09
  match chanOf stage slot with
  | some c =>
    if (s.chan c).state = .unused then refuse h code .notFound s
    else if s.operBusy c then refuse h code .busy s
    else if (s.chan c).prior.isNone then refuse h code .notFound s
    else queueOper h code c true false .prior Search.start s
  | none => refuse h code .badRequest s

/-! ## WRITE_CHANNEL (R187) -/

/-- The four attributes are stored, with their effects (R187). -/
def storeAttrs (c : Chan) (a : Attrs) (s : State) : State :=
  let r := s.chan c
  let r1 := { r with cls := a.cls, priority := a.priority, profile := a.profile, pinned := a.pinned }
  let r2 := if r.profile = a.profile then r1 else { r1 with watch := s.rewatch r1, returnWatch := none }
  let s1 := s.setChan c r2
  if r.cls = .low ∧ a.cls = .high ∧ r.occupied ≠ [] then bumpGen (s.groupOf c) s1 else s1
/-- The write waits: its class change would raise the generation of a held group, or change the class of the held
service's subject (R55). -/
def State.writeWaits (s : State) (c : Chan) (cls : TxClass) : Bool :=
  (decide ((s.chan c).cls = .low ∧ cls = .high ∧ (s.chan c).occupied ≠ []) && s.held [s.groupOf c])
  || (decide ((s.chan c).cls ≠ cls) && s.heldSubject c)
/-- A WRITE_CHANNEL applies (R187). -/
def applyWrite (h : ReqHdr) (c : Chan) (a : Attrs) (f : Option Nat) (s : State) : State :=
  let code := 0x04
  let s1 := storeAttrs c a s
  match f with
  | none => replyOk h code (encRecord s1 (s1.chan c)) s1
  | some t =>
    if (s1.chan c).assigned = some t then replyOk h code (encAttrs (s1.chan c) ++ be16 t) s1
    else queueOper h code c false false (.given t) Search.start s1
/-- WRITE_CHANNEL (R187); 65535 carries no new frequency. -/
def writeChannel (h : ReqHdr) (stage slot cls priority profile pinned freq : Nat) (s : State) : State :=
  let code := 0x04
  match chanOf stage slot, attrsOf cls priority profile pinned with
  | some c, some a =>
    let f := if freq = 65535 then none else some freq
    if f.any offGrid then refuse h code .outOfGrid s
    else if (s.chan c).state = .unused then refuse h code .notFound s
    else if f.isSome && s.operBusy c then refuse h code .busy s
    else deferOr h (.writeChannel stage slot cls priority profile pinned freq) (s.writeWaits c a.cls) (applyWrite h c a f) s
  | _, _ => refuse h code .badRequest s

/-! ## RELEASE and ACK_WATCH (R189, R113) -/

/-- RELEASE of a HELD or an ACTIVE channel (R189). -/
def ChanRec.restrain (s : State) (r : ChanRec) : ChanRec :=
  let r1 := { r with watch := s.freshWatch r.profile, settle := none }
  if r.state = .held then { r1 with state := .active, heldCause := none } else { r1 with returnWatch := none }
/-- RELEASE (R189). -/
def releaseChannel (h : ReqHdr) (stage slot : Nat) (s : State) : State :=
  let code := 0x0A
  match chanOf stage slot with
  | some c =>
    match (s.chan c).state with
    | .unused => refuse h code .notFound s
    | .moving | .dark => refuse h code .busy s
    | .parked => replyOk h code (e8 ChState.parked.code) s
    | .held | .active =>
      let s1 := s.modChan c (ChanRec.restrain s)
      replyOk h code (e8 (s1.chan c).state.code) s1
  | none => refuse h code .badRequest s

/-- The watch after an acknowledgement (R113). -/
def Watch.ack (w : Watch) : Watch := if w.st = .off then w else Watch.armed
/-- ACK_WATCH: every reply about a channel carries its watch state (R113). -/
def ackWatch (h : ReqHdr) (stage slot : Nat) (s : State) : State :=
  let code := 0x0B
  match chanOf stage slot with
  | some c =>
    match (s.chan c).state with
    | .unused => reply h code .notFound 0 (e8 (s.chan c).watch.st.code) s
    | .moving => reply h code .busy 0 (e8 (s.chan c).watch.st.code) s
    | _ =>
      let s1 := s.modChan c fun r => { r with watch := r.watch.ack }
      replyOk h code (e8 (s1.chan c).watch.st.code) s1
  | none => refuse h code .badRequest s

/-! ## CHECK (R58) -/

/-- The result record of a check, as a CHECK reply carries it. Log 14. -/
def encResult (r : Result) : List Byte :=
  e8 r.verdict.code ++ o8 r.margin ++ eChan r.inv1 ++ eChan r.inv2 ++ be32 r.terms
/-- The two flags of a channel subject, absent for a group (R3). Log 14. -/
def encFlags (s : State) : Subject → List Byte
  | .chan c => eFlag (s.chan c).offPlan ++ eFlag (s.chan c).exclConflict
  | .group _ => o8 none ++ o8 none
/-- The completion of a CHECK's service: its one reply, OK whatever the verdict (R58). Log 14. -/
def whatIfDone (h : ReqHdr) (x : Subject) (r : Result) (restarts : Nat) (s : State) : State :=
  replyOk h 0x0C (encResult r ++ eCount restarts ++ encFlags s x) s
/-- A CHECK joins the ADMISSION queue (R51, R58). -/
def queueCheck (h : ReqHdr) (x : Option Subject) (cand : Nat) (s : State) : State :=
  if offGrid cand then refuse h 0x0C .outOfGrid s
  else
    match x with
    | some x => if s.admFull then refuse h 0x0C .busy s else joinAdm (.whatIf h x cand) s
    | none => refuse h 0x0C .badRequest s
/-- CHECK, channel form (R58). -/
def checkChannel (h : ReqHdr) (stage slot cand : Nat) (s : State) : State :=
  queueCheck h ((chanOf stage slot).map .chan) cand s
/-- CHECK, group form (R58). -/
def checkGroup (h : ReqHdr) (group cand : Nat) (s : State) : State :=
  queueCheck h ((groupOfNat group).map .group) cand s

end Sys2Proof.Machine
end

