-- ==== Sys2Proof/Machine/Tables.lean ====
section
/-! DEFINITION. The requests of the tables: exclusions (R16 to R18), pools (R121 to R123), profiles (R100) and coupling
groups (R14, R15). -/

namespace Sys2Proof.Machine

/-- As many whole records as fit in `room` bytes (R80). -/
def fitRecords : Nat → List (List Byte) → List (List Byte)
  | _, [] => []
  | room, r :: rest => if r.length ≤ room then r :: fitRecords (room - r.length) rest else []
/-- A record count and the records from a start position that fit in `room` bytes (R80). -/
def page (room start : Nat) (records : List (List Byte)) : List Byte :=
  let rs := fitRecords room (records.drop start)
  e8 rs.length ++ rs.flatten

/-! ## Exclusions -/

/-- The place of an entry in the order by start, then by end (R16). -/
def Excl.before (x y : Excl) : Bool := x.first < y.first || (x.first = y.first && x.last < y.last)
def insertExcl (x : Excl) : List Excl → List Excl
  | [] => [x]
  | y :: rest => if x.before y then x :: y :: rest else y :: insertExcl x rest
def Excl.sameRange (first last : Nat) (x : Excl) : Bool := x.first = first && x.last = last
/-- The groups of a set, in order. -/
def GroupSet.groups (b : GroupSet) : List Group := (List.finRange 4).filter fun g => b.has g

/-- What an addition does to the groups of its effective scope (R17). -/
def tighten (first last : Nat) (eff : GroupSet) (s : State) : State :=
  let s1 := eff.groups.foldl (fun s g => bumpGen g s) s
  let x : Excl := ⟨first, last, eff⟩
  (s1.chansOfGroups eff.has).foldl (fun s c =>
    if (s.chan c).occupied.any (x.covers s.spacing.guard) then s.modChan c fun r => { r with exclConflict := true } else s) s1
/-- The table after an addition (R16). -/
def addedTable (first last : Nat) (scope : GroupSet) (xs : List Excl) : List Excl :=
  if xs.any (Excl.sameRange first last) then
    xs.map fun x => if x.sameRange first last then { x with scope := x.scope ||| scope } else x
  else insertExcl ⟨first, last, scope⟩ xs
/-- The effective scope of an addition (R17). -/
def effectiveScope (first last : Nat) (scope : GroupSet) (xs : List Excl) : GroupSet :=
  match xs.find? (Excl.sameRange first last) with
  | some x => scope &&& ~~~x.scope
  | none => scope
def applyExclusion (h : ReqHdr) (first last : Nat) (scope : GroupSet) (s : State) : State :=
  let eff := effectiveScope first last scope s.excl
  let s1 := tighten first last eff { s with excl := addedTable first last scope s.excl }
  replyOk h 0x18 (e8 (s1.excl.findIdx (Excl.sameRange first last))) s1
/-- ADD_EXCLUSION (R16, R17). -/
def addExclusion (h : ReqHdr) (first last scope : Nat) (s : State) : State :=
  let code := 0x18
  if offGrid first || offGrid last then refuse h code .outOfGrid s
  else if last < first ∨ scope = 0 ∨ 15 < scope then refuse h code .badRequest s
  else if !s.excl.any (Excl.sameRange first last) && decide (48 ≤ s.excl.length) then refuse h code .full s
  else
    let b := BitVec.ofNat 4 scope
    deferOr h (.addExclusion first last scope) (s.held (effectiveScope first last b s.excl).groups)
      (applyExclusion h first last b) s

/-- REMOVE_EXCLUSION (R18). -/
def removeExclusion (h : ReqHdr) (first last : Nat) (s : State) : State :=
  let code := 0x19
  if offGrid first || offGrid last then refuse h code .outOfGrid s
  else
    match s.excl.find? (Excl.sameRange first last) with
    | some x =>
      let s1 := { s with excl := s.excl.filter fun y => !y.sameRange first last }
      replyOk h code [] (reflagAll (s1.chansOfGroups x.scope.has) s1)
    | none => refuse h code .notFound s

/-- READ_EXCLUSIONS (R16, R80). -/
def readExclusions (h : ReqHdr) (start : Nat) (s : State) : State :=
  replyOk h 0x1A (page 116 start (s.excl.map encExcl)) s

/-! ## Pools -/

/-- A new pool entry: UNCHECKED (R121, R123). -/
def PoolEntry.fresh (f : Nat) : PoolEntry := ⟨f, .unchecked, 0, none, false⟩
/-- ADD_POOL (R121). -/
def addPool (h : ReqHdr) (group freq : Nat) (s : State) : State :=
  let code := 0x1B
  match groupOfNat group with
  | some g =>
    if offGrid freq then refuse h code .outOfGrid s
    else if (s.pool g).any (fun e => e.freq = freq) then refuse h code .duplicate s
    else if s.occupiedIn g freq then refuse h code .occupied s
    else if 16 ≤ (s.pool g).length then refuse h code .full s
    else
      let s1 := s.setPool g (s.pool g ++ [PoolEntry.fresh freq])
      replyOk h code (e8 (s.pool g).length ++ e8 (s1.readyCount g)) s1
  | none => refuse h code .badRequest s
/-- REMOVE_POOL (R122). -/
def removePool (h : ReqHdr) (group freq : Nat) (s : State) : State :=
  let code := 0x1C
  match groupOfNat group with
  | some g =>
    if offGrid freq then refuse h code .outOfGrid s
    else if (s.pool g).any (fun e => e.freq = freq) then replyOk h code [] (unpool g freq s)
    else refuse h code .notFound s
  | none => refuse h code .badRequest s
/-- READ_POOL (R122). -/
def readPool (h : ReqHdr) (group : Nat) (s : State) : State :=
  let code := 0x1E
  match groupOfNat group with
  | some g => replyOk h code (e8 (s.readyCount g) ++ e8 (s.pool g).length ++ (s.pool g).flatMap encPoolEntry) s
  | none => refuse h code .badRequest s

/-- The frequencies of a load that are kept, with the numbers dropped as duplicates and as occupied (R123). -/
structure Load where
  kept : List Nat
  dup : Nat
  occ : Nat
  deriving DecidableEq, Repr
def loadFreqs (s : State) (g : Group) : List Nat → List Nat → Load
  | _, [] => ⟨[], 0, 0⟩
  | seen, f :: rest =>
    let l := loadFreqs s g (f :: seen) rest
    if seen.contains f then { l with dup := l.dup + 1 }
    else if s.occupiedIn g f then { l with occ := l.occ + 1 }
    else { l with kept := f :: l.kept }
/-- LOAD_POOL (R123). -/
def loadPool (h : ReqHdr) (group count : Nat) (freqs : List Nat) (s : State) : State :=
  let code := 0x1D
  match groupOfNat group with
  | some g =>
    if 16 < count ∨ freqs.length ≠ count then refuse h code .badRequest s
    else if freqs.any offGrid then refuse h code .outOfGrid s
    else
      let l := loadFreqs s g [] freqs
      replyOk h code (e8 l.kept.length ++ e8 l.dup ++ e8 l.occ) (s.setPool g (l.kept.map PoolEntry.fresh))
  | none => refuse h code .badRequest s

/-! ## Profiles -/

def profileNumber (n : Nat) : Option (Fin 8) := if h : n < 8 then some ⟨n, h⟩ else none
/-- WRITE_PROFILE (R100, R101). -/
def writeProfile (h : ReqHdr) (number : Nat) (ops : ProfileOps) (s : State) : State :=
  let code := 0x1F
  match profileNumber number, profileFrom ops with
  | some n, some p => replyOk h code (encProfile p) (profileWritten n { s with profiles := s.profiles.set n p })
  | _, _ => refuse h code .badRequest s
/-- READ_PROFILE (R100). -/
def readProfile (h : ReqHdr) (number : Nat) (s : State) : State :=
  let code := 0x20
  match profileNumber number with
  | some n => replyOk h code (encProfile s.profiles[n]) s
  | none => refuse h code .badRequest s

/-! ## Coupling groups (R14, R15) -/

/-- The operands of SET_GROUPS: a group for each stage and a relation for each pair. -/
structure Groups where
  couple : Vector Group 6
  rels : Vector Rel 6
  deriving DecidableEq, Repr
/-- Six values, if there are six. -/
def sixOf {α : Type} (xs : List α) : Option (Vector α 6) := if h : xs.length = 6 then some ⟨xs.toArray, by simpa using h⟩ else none
def groupsOf (groups relations : List Nat) : Option Groups := do
  let gs ← (groups.mapM groupOfNat).bind sixOf
  let rs ← (relations.mapM relOf).bind sixOf
  some ⟨gs, rs⟩

/-- The two groups of each off-diagonal pair, in the order of R80. -/
def pairGroups : List (Fin 6 × Group × Group) := [(0, 0, 1), (1, 0, 2), (2, 0, 3), (3, 1, 2), (4, 1, 3), (5, 2, 3)]
/-- The stages whose group changes. -/
def State.regrouped (s : State) (x : Groups) : List Stage := (List.finRange 6).filter fun z => s.couple[z] ≠ x.couple[z]
/-- The groups whose relation is tightened from FAR to NEAR, both of each pair (R15). -/
def State.tightened (s : State) (x : Groups) : List Group :=
  pairGroups.flatMap fun p => if s.rels[p.1] = .far ∧ x.rels[p.1] = .near then [p.2.1, p.2.2] else []
/-- The groups a SET_GROUPS increments. -/
def State.groupBumps (s : State) (x : Groups) : List Group :=
  (s.regrouped x).flatMap (fun z => [x.couple[z], s.couple[z]]) ++ s.tightened x
/-- A stage has been regrouped: its frequencies leave the new group's pool, and its flags are recomputed (R14). -/
def regroupStage (z : Stage) (s : State) : State :=
  let fs := (stageChans z).flatMap fun c => (s.chan c).occupied
  reflagAll (stageChans z) (fs.foldl (fun s f => unpool s.couple[z] f s) s)
def applyGroups (h : ReqHdr) (x : Groups) (s : State) : State :=
  let s1 := { s with couple := x.couple, rels := x.rels }
  let s2 := (s.groupBumps x).foldl (fun s g => bumpGen g s) s1
  replyOk h 0x21 [] ((s.regrouped x).foldl (fun s z => regroupStage z s) s2)
/-- SET_GROUPS (R14, R15). -/
def setGroups (h : ReqHdr) (groups relations : List Nat) (s : State) : State :=
  let code := 0x21
  match groupsOf groups relations with
  | some x =>
    if (s.regrouped x).any fun z => (stageChans z).any fun c => (s.chan c).state = .moving then refuse h code .busy s
    else deferOr h (.setGroups groups relations) (s.held (s.groupBumps x)) (applyGroups h x) s
  | none => refuse h code .badRequest s

end Sys2Proof.Machine
end

