-- ==== Sys2Proof/Machine/Settings.lean ====
section
/-! DEFINITION. The site settings: SET_RULES (R44, R45), SET_GATE (R81), SET_LOCK (R182), SET_CONFIRM (R173), SET_SPAN
(R179), SET_NOTICES (R191), and SURVEY (R180). -/

namespace Sys2Proof.Machine

/-! ## SET_RULES -/

/-- The values SET_RULES can change. -/
structure Rules where
  spacing : Spacing
  settle : Nat
  proposal : Nat
  opts : Vector GroupOpts 4
  deriving DecidableEq, Repr
def State.rules (s : State) : Rules := ⟨s.spacing, s.settlePeriod, s.proposalTimeout, s.opts⟩

/-- One option of a group is written; none for a group outside 0 to 3 or a value that is neither on nor off (R44). -/
def setOption (r : Rules) (group code value : Nat) : Option Rules := do
  let g ← groupOfNat group
  let o := r.opts[g]
  let o1 ← match code with
    | 9 => (flagOf value).map fun b => { o with fifth := b }
    | 10 => (flagOf value).map fun b => { o with three := b }
    | 11 => (flagOf value).map fun b => { o with openSearch := b }
    | 12 => some { o with downshift := clamp 1 8 value }
    | 13 => (flagOf value).map fun b => { o with recycle := b }
    | 14 => some { o with floor := clamp 0 100 value }
    | 15 => some { o with dwell := clamp 1 63 value }
    | _ => none
  some { r with opts := r.opts.set g o1 }
/-- One setting is written, its value clamped; none where R44 answers BAD_REQUEST (R41 to R44, R80). -/
def setRule (r : Rules) (x : Setting) : Option Rules :=
  match x.code with
  | 0 => some { r with spacing := { r.spacing with scc := clamp 1 63 x.value } }
  | 1 => some { r with spacing := { r.spacing with snear := clamp 0 63 x.value } }
  | 2 => some { r with spacing := { r.spacing with s3 := clamp 0 31 x.value } }
  | 3 => some { r with spacing := { r.spacing with s5 := clamp 0 31 x.value } }
  | 4 => some { r with spacing := { r.spacing with s3t := clamp 0 31 x.value } }
  | 5 => some { r with spacing := { r.spacing with xhi := clamp 0 15 x.value } }
  | 6 => some { r with spacing := { r.spacing with guard := clamp 0 15 x.value } }
  | 7 => some { r with settle := clamp 0 60000 x.value }
  | 8 => some { r with proposal := clamp 5000 120000 x.value }
  | n => setOption r x.group n x.value
/-- All the settings of a request in the order carried; the last of a repeated name stands. Log 16. -/
def setRulesOf (r : Rules) (xs : List Setting) : Option Rules := xs.foldlM setRule r

/-- Some spacing rule is stored higher than it was (R45). -/
def Spacing.raised (old new : Spacing) : Bool :=
  old.scc < new.scc || old.snear < new.snear || old.s3 < new.s3 || old.s5 < new.s5 || old.s3t < new.s3t
  || old.xhi < new.xhi || old.guard < new.guard
/-- The increments a change of the rules makes: every group once for raised spacing, and a group once for each product
check turned on (R45). -/
def ruleBumps (old new : Rules) : List Group :=
  (if Spacing.raised old.spacing new.spacing then List.finRange 4 else [])
  ++ ((List.finRange 4).filter fun g => !old.opts[g].fifth && new.opts[g].fifth)
  ++ ((List.finRange 4).filter fun g => !old.opts[g].three && new.opts[g].three)
def encRules (r : Rules) : List Byte :=
  encSpacing r.spacing ++ be32 r.settle ++ be32 r.proposal ++ (List.finRange 4).flatMap fun g => encOpts r.opts[g]
/-- The rules are stored and the change they make follows; the reply leaves before the notices of the close (R45).
Log 42. -/
def applyRules (h : ReqHdr) (new : Rules) (s : State) : State :=
  let s1 := { s with
    spacing := new.spacing, settlePeriod := new.settle, proposalTimeout := new.proposal, opts := new.opts }
  let s2 := (ruleBumps s.rules new).foldl (fun s g => bumpGen g s) s1
  let s3 := if s.spacing.guard = new.spacing.guard then s2 else reflagAll allChans s2
  replyOk h 0x28 (encRules new) s3
/-- SET_RULES (R44, R45). -/
def setRules (h : ReqHdr) (settings : List Setting) (s : State) : State :=
  match setRulesOf s.rules settings with
  | some new => deferOr h (.setRules settings) (s.held (ruleBumps s.rules new)) (applyRules h new) s
  | none => refuse h 0x28 .badRequest s

/-! ## The other settings -/

/-- SET_GATE (R81). -/
def setGate (h : ReqHdr) (stage mode : Nat) (s : State) : State :=
  match stageOf stage, gateModeOf mode with
  | some z, some m => replyOk h 0x29 (e8 m.code) { s with gate := s.gate.set z m }
  | _, _ => refuse h 0x29 .badRequest s
/-- SET_LOCK (R182). -/
def setLock (h : ReqHdr) (value : Nat) (s : State) : State :=
  match flagOf value with
  | some b => replyOk h 0x2A (eFlag b) { s with lock := b }
  | none => refuse h 0x2A .badRequest s
/-- SET_CONFIRM (R173). -/
def setConfirm (h : ReqHdr) (value : Nat) (s : State) : State :=
  match flagOf value with
  | some b =>
    let s1 := { s with confirm := b }
    replyOk h 0x2B (eFlag b ++ eFlag s1.inForce) s1
  | none => refuse h 0x2B .badRequest s
/-- SET_SPAN (R179). -/
def setSpan (h : ReqHdr) (stage start step size : Nat) (s : State) : State :=
  match stageOf stage with
  | some z =>
    if offGrid start then refuse h 0x2C .outOfGrid s
    else
      let p : Span := ⟨start, clamp 1 8 step, clamp 1 96 size⟩
      let s1 := replyOk h 0x2C (encSpan p) { s with spans := s.spans.set z p }
      if (s.port (.stage z)).up && s.surveys[z].isNone then sendStanding z s1 else s1
  | none => refuse h 0x2C .badRequest s
/-- Fifteen flags, if every value is a flag. -/
def enablesOf (values : List Nat) : Option (Vector Bool 15) :=
  (values.mapM flagOf).bind fun bs => if h : bs.length = 15 then some ⟨bs.toArray, by simpa using h⟩ else none
/-- SET_NOTICES (R191). -/
def setNotices (h : ReqHdr) (values : List Nat) (s : State) : State :=
  match enablesOf values with
  | some bs => replyOk h 0x2D (bs.toList.flatMap eFlag) { s with enables := bs }
  | none => refuse h 0x2D .badRequest s

/-- The values of an accepted survey (R180). -/
def surveyOf (now start step count passes timeout : Nat) : Survey :=
  ⟨start, clamp 1 8 step, clamp 1 96 count, clamp 1 16 passes,
    now + (if timeout = 0 then 10000 else clamp 1000 60000 timeout), 0⟩
/-- SURVEY (R119, R180). -/
def orderSurvey (h : ReqHdr) (stage start step count passes timeout : Nat) (s : State) : State :=
  match stageOf stage with
  | some z =>
    if offGrid start then refuse h 0x33 .outOfGrid s
    else if s.surveys[z].isSome || !(s.port (.stage z)).up then refuse h 0x33 .busy s
    else
      let v := surveyOf s.now start step count passes timeout
      let s1 := surveyBegins z { s with surveys := s.surveys.set z (some v) }
      sendSurvey z v (replyOk h 0x33 (be16 v.start ++ e8 v.step ++ e8 v.count ++ e8 v.passes ++ be32 (v.deadline - s.now)) s1)
  | none => refuse h 0x33 .badRequest s

end Sys2Proof.Machine
end

