-- ==== Sys2Proof/Machine/Controls.lean ====
section
/-! DEFINITION. The requests of the Set Change Unit (R161 to R163), of confirm mode (R175 to R177), the reads of latches
and counters (R192, R193), IDENTIFY (R190) and RESTART (R194). -/

namespace Sys2Proof.Machine

/-! ## Set changes -/

/-- STAGE_CHANNEL (R161). -/
def stageChannel (h : ReqHdr) (stage slot kind : Nat) (ops : StagedOps) (s : State) : State :=
  match chanOf stage slot, stagedOf kind ops with
  | some c, some e =>
    if (StagedOps.freq ops).any targetOffGrid then refuse h 0x10 .outOfGrid s
    else if (s.commitRec c.stage).isSome then refuse h 0x10 .busy s
    else replyOk h 0x10 (encStaged e) (s.setStaged c e)
  | _, _ => refuse h 0x10 .badRequest s
/-- COMMIT_STAGE (R163). -/
def commitStage (h : ReqHdr) (stage : Nat) (s : State) : State :=
  match stageOf stage with
  | some z =>
    if (s.commitRec z).isSome || !(s.port (.stage z)).up then refuse h 0x11 .busy s
    else startCommit z .request (replyOk h 0x11 [] s)
  | none => refuse h 0x11 .badRequest s
/-- ARM_STAGE (R162). -/
def armStage (h : ReqHdr) (stage on : Nat) (s : State) : State :=
  match stageOf stage, flagOf on with
  | some z, some b =>
    let s1 := { s with arm := s.arm.set z b }
    replyOk h 0x12 (eFlag b) (if b then s1 else cancelWait z s1)
  | _, _ => refuse h 0x12 .badRequest s

/-! ## Confirm mode -/

/-- GO (R175). -/
def goChannel (h : ReqHdr) (stage slot : Nat) (s : State) : State :=
  match chanOf stage slot with
  | some c =>
    match s.entryOf c with
    | some e =>
      if e.state = .proposed then replyOk h 0x30 (o16 e.target ++ e8 (e.attempts + 1)) (sendEntry c s)
      else reply h 0x30 .busy 0 (e8 e.state.code) s
    | none => refuse h 0x30 .notFound s
  | none => refuse h 0x30 .badRequest s
/-- DROP (R176). -/
def dropChannel (h : ReqHdr) (stage slot : Nat) (s : State) : State :=
  match chanOf stage slot with
  | some c =>
    match s.entryOf c with
    | some e =>
      match e.state with
      | .proposed => replyOk h 0x31 (e8 e.state.code) (endProposal e .dropped s)
      | .searching => replyOk h 0x31 (e8 e.state.code) ((withdrawMove c s).dropEntry c)
      | .sent | .locking => reply h 0x31 .busy 0 (e8 e.state.code) s
    | none => refuse h 0x31 .notFound s
  | none => refuse h 0x31 .badRequest s
/-- GO_ALL (R177). -/
def goAll (h : ReqHdr) (s : State) : State :=
  let es := s.table.filter fun e => e.state = .proposed
  replyOk h 0x32 (e8 es.length ++ es.flatMap fun e => eChan (some e.chan) ++ o16 e.target)
    (es.foldl (fun s e => sendEntry e.chan s) s)

/-! ## Latches and counters -/

/-- A clearing read clears only from the trunk (R183, R192, R193). -/
def clears (h : ReqHdr) (clear : Bool) : Bool := clear && h.port = .trunk
/-- READ_EVENTS (R192). -/
def readEvents (h : ReqHdr) (clear : Nat) (s : State) : State :=
  match flagOf clear with
  | some b =>
    let on := clears h b
    replyOk h 0x38 (s.latches.toList.flatMap eFlag ++ eFlag on)
      (if on then { s with latches := Vector.replicate 16 false } else s)
  | none => refuse h 0x38 .badRequest s

/-- The 44 counters (R193): the seven of each stage together, stage by stage, and then the two of the site. Log 52. -/
def encCounters (s : State) : List Byte :=
  (s.counters.toList.flatMap fun c =>
    e8 c.bad ++ e8 c.misaddressed ++ e8 c.refusals ++ e8 c.fires ++ e8 c.expiries ++ e8 c.failures ++ e8 c.skips)
  ++ e8 s.trunkDiscards ++ e8 s.heldDiscards
/-- The subject of the request in service: stage and slot, or 255 and the group. -/
def encSubject : Subject → List Byte
  | .chan c => eChan (some c)
  | .group g => o8 none ++ e8 g.val
/-- Whether a service runs, its class, its subject and its restart count, held at 255 (R59). Log 43. -/
def encService (s : State) : List Byte :=
  match s.serving with
  | some (r, v) => eFlag true ++ e8 v.cls.code ++ encSubject r.subject ++ eCount v.restarts ++ e8 v.hold.toNat
  | none => eFlag false ++ o8 none ++ o8 none ++ o8 none ++ o8 none ++ e8 0
def CommitState.code : CommitState → Nat
  | .idle => 0
  | .waiting _ => 1
  | .committing _ => 2
def State.entriesIn (s : State) (x : EntryState) : Nat := (s.table.filter fun e => e.state = x).length
def State.itemsOf (s : State) (w : Want) : Nat := (s.backlog.filter fun i => i.want = w).length
/-- The occupancy of the device (R59, R137, R162, R193). Log 15. -/
def encOccupancy (s : State) : List Byte :=
  e8 s.engine.moveQ.length ++ e8 s.engine.admQ.length ++ e8 s.engine.comQ.length ++ e8 s.engine.poolQ.length
  ++ encService s ++ e8 s.engine.deferred.length ++ e8 s.heldFrames.length
  ++ e8 (s.entriesIn .searching) ++ e8 (s.entriesIn .proposed) ++ e8 (s.entriesIn .sent) ++ e8 (s.entriesIn .locking)
  ++ e8 (s.itemsOf .search) ++ e8 (s.itemsOf .ret) ++ e8 (s.itemsOf .push)
  ++ s.commits.toList.flatMap fun c => e8 c.code
/-- Record 0, and the commit record of each committing stage (R80, R193). -/
def State.counterRecords (s : State) : List (List Byte) :=
  (encCounters s ++ encOccupancy s) :: (List.finRange 6).filterMap fun z => (s.commitRec z).map (encCommit z)
/-- Every counter at 0 (R193). -/
def zeroCounters (s : State) : State :=
  { s with counters := Vector.replicate 6 StageCounters.zero, trunkDiscards := 0, heldDiscards := 0 }
/-- READ_COUNTERS (R193). -/
def readCounters (h : ReqHdr) (clear start : Nat) (s : State) : State :=
  match flagOf clear with
  | some b =>
    let on := clears h b && start = 0
    replyOk h 0x39 (eFlag on ++ page 115 start s.counterRecords) (if on then zeroCounters s else s)
  | none => refuse h 0x39 .badRequest s

/-- IDENTIFY: part code, revision and capacities (R190). Log 15. -/
def identify (h : ReqHdr) (s : State) : State :=
  replyOk h 0x3A (e8 0x53 ++ e8 0x43 ++ e8 0x36 ++ e8 0x02 ++ e8 192 ++ e8 48 ++ e8 16 ++ e8 12 ++ e8 8 ++ e8 8) s

/-! ## RESTART (R194) -/

/-- A request whose reply waited on the Engine is answered BUSY (R60, R185). -/
def AdmReq.cut (a : AdmReq) (s : State) : State :=
  match a with
  | .oper o => operReply o .busy 0 [] s
  | .whatIf h _ _ => refuse h 0x0C .busy s
  | .guard .. | .post .. => s
/-- Step 1: the Engine (R56, R60). -/
def restartEngine (s : State) : State :=
  let e := s.engine
  let s1 := { s with engine := ⟨[], [], [], [], none, []⟩ }
  e.admQ.foldl (fun s a => a.cut s) (e.deferred.foldl (fun s d => refuse d.hdr d.req.code .busy s) s1)
/-- An entry is removed by the restart (R159). -/
def restartEntry (s : State) (e : Entry) : State :=
  match e.state with
  | .searching => s
  | .proposed => release e.chan s
  | .sent | .locking => s.modChan e.chan ChanRec.goDark
/-- A backlog item is removed by the restart (R159). -/
def restartItem (s : State) (i : Item) : State :=
  match i.want with
  | .push => s.modChan i.chan ChanRec.goDark
  | .search | .ret => s
/-- Step 2: the Sequencer and the Gate (R96, R159). -/
def restartMoves (s : State) : State :=
  let s1 := s.table.foldl restartEntry s
  let s2 := s1.backlog.foldl restartItem s1
  { s2 with table := [], backlog := [], heldFrames := [], notes := [] }
/-- Step 2: the commits, waits and surveys; what their notices will need is kept (R172, R181). -/
def restartCommits (s : State) : List (Stage × CommitRec) × State :=
  (List.finRange 6).foldl (fun (acc : List (Stage × CommitRec) × State) z =>
    match abortCommit z acc.2 with
    | (some r, s1) => (acc.1 ++ [(z, r)], s1)
    | (none, s1) => (acc.1, cancelWait z s1)) ([], s)
/-- Step 3: the watches, return watches and settle deadlines of R4. -/
def ChanRec.rewatched (s : State) (r : ChanRec) : ChanRec :=
  { r with
    watch := if r.state = .active ∨ r.state = .held then s.freshWatch r.profile else Watch.off
    returnWatch := none, settle := none }
def PoolEntry.restarted (e : PoolEntry) : PoolEntry := { e with state := .unchecked, run := 0, inSearch := false }
/-- Steps 3 and 4: watches, pools, latches and counters, then the held-frame-discard counter (R96, R130, R194). -/
def restartRecords (heldBefore : Nat) (s : State) : State :=
  { s with
    chans := s.chans.map (ChanRec.rewatched s)
    pools := s.pools.map fun p => p.map PoolEntry.restarted
    latches := Vector.replicate 16 false
    counters := Vector.replicate 6 StageCounters.zero
    trunkDiscards := 0
    heldDiscards := min heldBefore 255 }
/-- MOVE_FAILED with reason RESTART (R159). -/
def notifyRestart (s : State) (e : Entry) : State :=
  notifyChan .moveFailed e.chan (e8 EndReason.restart.code ++ e8 e.origin.code ++ e8 e.state.code ++ o16 e.src
    ++ o16 e.target) s
/-- Steps 5 and 6: the notices of ended work, then the standing span to every stage that is UP (R181, R194). -/
def restartNotices (es : List Entry) (rs : List (Stage × CommitRec)) (vs : Vector (Option Survey) 6) (s : State) : State :=
  let s1 := es.foldl notifyRestart s
  let s2 := rs.foldl (fun s x => notifyCommit x.1 x.2 .restart s) s1
  let s3 := (List.finRange 6).foldl (fun s z =>
    match vs[z] with
    | some v => notifySurvey z v .restart s
    | none => s) s2
  (List.finRange 6).foldl (fun s z => if (s.port (.stage z)).up then sendStanding z s else s) s3
/-- The restart step, one change in the order of R194. -/
def restartStep (s : State) : State :=
  let s1 := restartMoves (restartEngine s)
  let (rs, s2) := restartCommits s1
  let s3 := restartRecords s.heldFrames.length { s2 with surveys := Vector.replicate 6 none }
  queueRechecks (restartNotices s.table rs s.surveys s3)
/-- RESTART from the trunk: its reply, then the restart step (R194). -/
def restartDevice (h : ReqHdr) (s : State) : State := restartStep (replyOk h 0x3F [] s)

end Sys2Proof.Machine
end

