-- ==== Sys2Proof/Machine/Finish.lean ====
section
/-! DEFINITION. The tests every request passes first (R183, R184), the deferred list (R56), arbitration (R48), and the end
of a command. -/

namespace Sys2Proof.Machine

/-! ## Permissions (R183) -/

/-- The requests no stage port may send (R183). -/
def trunkOnly : Request → Bool
  | .restart | .setLock .. | .setConfirm .. | .setRules .. | .setGate .. | .setSpan .. | .setNotices .. | .setGroups ..
  | .addExclusion .. | .removeExclusion .. | .addPool .. | .removePool .. | .loadPool .. | .writeProfile .. | .goAll => true
  | _ => false
/-- The reads (R183). -/
def isRead : Request → Bool
  | .readChannel .. | .readExclusions .. | .readPool .. | .readProfile .. | .readEvents .. | .readCounters .. | .identify
  | .checkChannel .. | .checkGroup .. => true
  | _ => false
/-- The stage operand a stage port's request is tested by (R183). -/
def ownStage : Request → Option Nat
  | .defineChannel st .. | .removeChannel st .. | .writeChannel st .. | .move st .. | .revert st .. | .release st ..
  | .ackWatch st .. | .go st .. | .drop st .. | .stageChannel st .. | .commitStage st | .armStage st ..
  | .survey st .. => some st
  | _ => none
/-- The form of a request (R80). -/
def isMalformed : Request → Bool
  | .malformed _ => true
  | _ => false

/-- The status with which the tests of R183 and R184 refuse a request, if they do. -/
def refusalOf (h : ReqHdr) (req : Request) (lock : Bool) : Option Status :=
  if isMalformed req then some .badRequest
  else
    match h.port with
    | .trunk => none
    | .stage z =>
      if trunkOnly req then some .notPermitted
      else if lock && !isRead req then some .locked
      else if (ownStage req).any fun st => st ≠ z.val then some .notPermitted
      else none

/-- A request passes its first tests and is handled, or is refused (R184). -/
def permit (h : ReqHdr) (req : Request) (handler : State → State) (s : State) : State :=
  match refusalOf h req s.lock with
  | some st => refuse h req.code st s
  | none => handler s

/-! ## The deferred list (R56) -/

/-- A request that waited is applied as though it had just arrived. -/
def applyOne (d : Deferred) (s : State) : State :=
  permit d.hdr d.req (fun s =>
    match d.req with
    | .setGroups gs rs => setGroups d.hdr gs rs s
    | .addExclusion a b sc => addExclusion d.hdr a b sc s
    | .setRules xs => setRules d.hdr xs s
    | .writeChannel st sl c p q n f => writeChannel d.hdr st sl c p q n f s
    | _ => s) s
/-- When no hold can stand any more, the waiting requests are applied one after another, each as its own change (R56).
Log 29. -/
def applyDeferred (s : State) : State :=
  if s.engine.service.isSome then s
  else
    s.engine.deferred.foldl (fun s d => closeChange s (applyOne d s))
      { s with engine := { s.engine with deferred := [] } }

/-! ## Arbitration (R48) -/

/-- The class the Engine serves next: the highest that has a request (R48). -/
def State.nextClass (s : State) : Option ReqClass :=
  if !s.engine.moveQ.isEmpty then some .move
  else if !s.engine.admQ.isEmpty then some .admission
  else if !s.engine.comQ.isEmpty then some .commit
  else if !s.engine.poolQ.isEmpty then some .pool
  else none
/-- A chosen request for which there is nothing to compute ends at once: a POOL request with no UNCHECKED entry leaves
(R49), a REVERT whose prior frequency is absent is answered (R155, R186), a RETURN search is a skip (R134). -/
def endUnserved (r : Served) (s : State) : State :=
  match r with
  | .pool _ => leaveHead .pool s
  | .adm (.oper o) => endRevert o (leaveHead .admission s)
  | .adm _ => leaveHead .admission s
  | .move m => closeChange s (returnSkip m.chan false (leaveHead .move s))
  | .com _ => leaveHead .commit s
/-- The free Engine takes requests until a service begins or every queue is empty (R48). `fuel` bounds the requests that
can end at once. -/
def arbitrate : Nat → State → State
  | 0, s => s
  | fuel + 1, s =>
    if s.engine.service.isSome then s
    else
      match s.nextClass with
      | none => s
      | some cls =>
        match s.head cls with
        | none => s
        | some r =>
          match s.candOf r with
          | some cand => beginService cls r cand s
          | none => arbitrate fuel (endUnserved r s)
def State.waiting (s : State) : Nat :=
  s.engine.moveQ.length + s.engine.admQ.length + s.engine.comQ.length + s.engine.poolQ.length

/-- The end of a change that began in `s0`: its close, the deferred requests, and the Engine's next choice (R57). -/
def finish (s0 s : State) : State :=
  let s1 := applyDeferred (closeChange s0 s)
  arbitrate (s1.waiting + 16) s1
/-- A change made by `f`, to its end. -/
def change (f : State → State) (s : State) : State := finish s (f s)

end Sys2Proof.Machine
end

