-- ==== Sys2Proof/Machine/Router.lean ====
section
/-! DEFINITION. Arrival and routing (R62 to R68): what a valid frame does to its port, the source and destination tests,
reading in passing, the delivery of frames to the device, and the requests carried by REQUEST frames. -/

namespace Sys2Proof.Machine

/-! ## Arrival -/

/-- A valid frame has arrived on a port: its silence timer restarts, and a DOWN port comes UP, as a change of its own
(R62, R72, R74, R76). Log 9. -/
def arrive (dt : Nat) (p : Port) (s : State) : State :=
  let s1 := passTime dt s
  if (s1.port p).up then restartSilence p s1 else change (fun s => portUp p (restartSilence p s)) s1

/-- The source can lie behind the port (R64). -/
def sourceOk (p : Port) (src : Addr) : Bool :=
  src ≠ deviceAddr && (match p with
    | .trunk => src.zone.toNat = 6
    | .stage z => src.zone.toNat = z.val)

/-! ## Requests -/

/-- What a request does, by its kind; the close of its change included, where it can change more than it names. -/
def handle (h : ReqHdr) (req : Request) : State → State :=
  match req with
  | .malformed c => fun s => refuse h c .badRequest s
  | .readChannel st sl => readChannel h st sl
  | .defineChannel st sl c p q n => change (defineChannel h st sl c p q n)
  | .removeChannel st sl => change (removeChannel h st sl)
  | .writeChannel st sl c p q n f => change (writeChannel h st sl c p q n f)
  | .move st sl f o r => change (moveChannel h st sl f o r)
  | .revert st sl => change (revertChannel h st sl)
  | .release st sl => change (releaseChannel h st sl)
  | .ackWatch st sl => ackWatch h st sl
  | .checkChannel st sl c => change (checkChannel h st sl c)
  | .checkGroup g c => change (checkGroup h g c)
  | .stageChannel st sl k ops => stageChannel h st sl k ops
  | .commitStage st => change (commitStage h st)
  | .armStage st v => armStage h st v
  | .addExclusion a b sc => change (addExclusion h a b sc)
  | .removeExclusion a b => change (removeExclusion h a b)
  | .readExclusions p => readExclusions h p
  | .addPool g f => change (addPool h g f)
  | .removePool g f => change (removePool h g f)
  | .loadPool g n fs => change (loadPool h g n fs)
  | .readPool g => readPool h g
  | .writeProfile n ops => change (writeProfile h n ops)
  | .readProfile n => readProfile h n
  | .setGroups gs rs => change (setGroups h gs rs)
  | .setRules xs => change (setRules h xs)
  | .setGate st m => setGate h st m
  | .setLock v => setLock h v
  | .setConfirm v => change (setConfirm h v)
  | .setSpan st a b c => setSpan h st a b c
  | .setNotices vs => setNotices h vs
  | .go st sl => change (goChannel h st sl)
  | .drop st sl => change (dropChannel h st sl)
  | .goAll => change (goAll h)
  | .survey st a b c d t => change (orderSurvey h st a b c d t)
  | .readEvents c => readEvents h c
  | .readCounters c p => readCounters h c p
  | .identify => identify h
  | .restart => fun s => let s1 := restartDevice h s; arbitrate (s1.waiting + 16) s1

/-- A REQUEST frame arrives for the device, from a source its port allows, and is served (R64, R183, R184). `handler` is
what the request does once the tests of R183 have passed. -/
def serve (h : ReqHdr) (req : Request) (handler : State → State) (s : State) : State :=
  let s1 := arrive h.dt h.port s
  if sourceOk h.port h.src then permit h req handler s1 else countDiscard h.port .misaddressed s1

/-! ## Reading in passing (R66) -/

/-- The rack unit that sent a frame, when it is a rack of the stage of arrival (R66). -/
def rackOf (src : Addr) : Option (Fin 4) := if h : src.unit.toNat < 4 then some ⟨src.unit.toNat, h⟩ else none

/-- A TELEMETRY frame of rack `u` of stage `z`: each report is a change of its own (R67). Log 9. -/
def readTelemetry (z : Stage) (u : Fin 4) (reports : List Report) (s : State) : State :=
  reports.foldl (fun s x =>
    if h : x.receiver < 8 then
      if offGrid x.tuned then s else change (channelReport (rackChan z u x.receiver h) x) s
    else s) s
/-- The samples of a SWEEP frame: index and level, without those beyond the grid (R68). -/
def samplesOf (d : SweepData) : List (Nat × Nat) :=
  ((d.levels.zipIdx).map fun x => (d.start + x.2 * d.step, clampLevel x.1)).filter fun x => !offGrid x.1
/-- A SWEEP frame of the scanner of stage `z` (R68, R180). -/
def readSweep (z : Stage) (d : SweepData) (s : State) : State :=
  if s.surveys[z].isSome then surveyFrame z d.lastPass d.survey s
  else if d.survey then s
  else standingSweep z (samplesOf d) s
/-- A TUNE_REPORT of rack `u` of stage `z` (R66, R89, R147). -/
def readTuneReport (z : Stage) (u : Fin 4) (d : TuneReportData) (s : State) : State :=
  if h : d.receiver < 8 then
    let c := rackChan z u d.receiver h
    noteReport c d.target d.result (entryReport c d.target d.result d.reason s)
  else s

/-- What is read in passing, from a source of the stage of arrival (R66). -/
def readPassing (z : Stage) (src : Addr) (p : Payload) (s : State) : State :=
  match p, rackOf src with
  | .telemetry rs, some u => readTelemetry z u rs s
  | .capability es, some u => change (readCapability z u es) s
  | .tuneReport d, some u => change (readTuneReport z u d) s
  | .sweep d, none => if src.unit.toNat = 4 then change (readSweep z d) s else s
  | _, _ => s
/-- The source is one that R66 reads for a kind. -/
def readableKind (kind : Byte) (src : Addr) : Bool :=
  if kind = kTelemetry ∨ kind = kCapability ∨ kind = kTuneReport then (rackOf src).isSome
  else if kind = kSweep then src.unit.toNat = 4
  else false

/-! ## Routing (R63, R65) -/

/-- A passing TUNE to a rack: the Gate, or a malformed frame (R66, R82). -/
def divertTune (p : Port) (f : Frame) (z : Stage) (u : Fin 4) (pay : Payload) (s : State) : State :=
  match pay with
  | .tune d =>
    if h : d.receiver < 8 then change (examineTune f (rackChan z u d.receiver h) d.target) s
    else countDiscard p .bad s
  | _ => countDiscard p .bad s

/-- A frame addressed to the device (R65). Log 32. -/
def deliverDevice (dt : Nat) (p : Port) (f : Frame) (pay : Payload) (s : State) : State :=
  if f.kind = kRequest then
    let h : ReqHdr := ⟨dt, p, f.src, f.seq⟩
    let req := parseRequest f.payload
    permit h req (handle h req) s
  else
    match p with
    | .stage z => if readableKind f.kind f.src then readPassing z f.src pay s else countDiscard p .misaddressed s
    | .trunk => countDiscard p .misaddressed s

/-- A frame goes out of the port that serves its zone, and is read in passing where R66 says so. The frame is handed to
its port before it is read. Log 11. -/
def passOn (p : Port) (f : Frame) (out : Port) (pay : Payload) (s : State) : State :=
  let s1 := handTo out f s
  match p with
  | .stage z => readPassing z f.src pay s1
  | .trunk => s1
/-- A frame for a zone: a TUNE to a rack goes to the Gate, any other frame is passed on (R65, R66). -/
def deliverZone (p : Port) (f : Frame) (out : Port) (pay : Payload) (s : State) : State :=
  match out, rackOf f.dst with
  | .stage z, some u => if f.kind = kTune then divertTune p f z u pay s else passOn p f out pay s
  | _, _ => passOn p f out pay s

/-- A valid frame that has arrived: the source test, the destination test, then its routing (R63 to R66). A frame that the
destination test discards is not read, though R66 reads its kind from its source. Log 55. -/
def deliver (dt : Nat) (p : Port) (f : Frame) (pay : Payload) (s : State) : State :=
  if !sourceOk p f.src then countDiscard p .misaddressed s
  else
    match portOfZone f.dst.zone with
    | none => countDiscard p .misaddressed s
    | some out => if f.dst = deviceAddr then deliverDevice dt p f pay s else deliverZone p f out pay s

/-- The arrival of a chain frame whose payload is given (R66). -/
def chainArrival (h : FrameHdr) (pay : Payload) (s : State) : State :=
  deliver h.dt h.port (chainFrame h pay) pay (arrive h.dt h.port s)

end Sys2Proof.Machine
end

