-- ==== Sys2Proof/Machine/Pins.lean ====
section
/-! DEFINITION. The commands of the pins: POWER_ON, LINE_SIGNAL_LOSS, LINE_SIGNAL_RETURN (R72, R195). -/

namespace Sys2Proof.Machine

abbrev Answer := Host.Outcome State Fault Refusal

/-- A port as POWER_ON leaves it: its SIGDET input is not the device's to reset. Log 4, log 31. -/
def PortState.powerOn (p : PortState) : PortState := { PortState.reset with sigdet := p.sigdet }
/-- POWER_ON (R195): every piece of state at its power-on value. The queue of commands and the input levels, which are
outside the device, stand. Log 31. -/
def powerOn (s : State) : State :=
  { State.reset with
    pending := s.pending
    trunk := s.trunk.powerOn
    stagePorts := s.stagePorts.map PortState.powerOn }
def execPowerOn (s : State) : Answer := .next (powerOn s)

/-- The SIGDET input of a port takes a level. -/
def setSigdet (p : Port) (on : Bool) (s : State) : State := s.setPort p { s.port p with sigdet := on }
/-- A loss of line signal (R72). -/
def lineSignalLoss (dt : Nat) (p : Port) (s : State) : State :=
  let s1 := passTime dt s
  if (s1.port p).sigdet && (s1.port p).up then change (fun s => portDown p .signalLoss (setSigdet p false s)) s1
  else setSigdet p false s1
/-- LINE_SIGNAL_LOSS (R72, R73, R76). -/
def execLineSignalLoss (dt : Nat) (p : Port) (s : State) : Answer := .next (lineSignalLoss dt p s)
/-- LINE_SIGNAL_RETURN: it does not itself bring the port UP (R72). -/
def execLineSignalReturn (dt : Nat) (p : Port) (s : State) : Answer := .next (setSigdet p true (passTime dt s))

end Sys2Proof.Machine
end

