-- ==== Sys2Proof/Machine/Frames.lean ====
section
/-! DEFINITION. The commands of the frame family (R62 to R68, R79, R82): RECEIVE_FRAME takes any bytes; the others are the
arrival of a well-formed frame of their kind. -/

namespace Sys2Proof.Machine

/-- A frame is received whole, and tested (R62). -/
def receiveFrame (dt : Nat) (p : Port) (bytes : List Byte) (s : State) : State :=
  match parseFrame bytes with
  | none => countDiscard p .bad (passTime dt s)
  | some f => deliver dt p f (parsePayload f.kind f.payload) (arrive dt p s)
/-- RECEIVE_FRAME (R62 to R66). -/
def execReceiveFrame (dt : Nat) (p : Port) (bytes : List Byte) (s : State) : Answer := .next (receiveFrame dt p bytes s)
/-- TELEMETRY (R66, R67). -/
def execTelemetry (h : FrameHdr) (reports : List Report) (s : State) : Answer :=
  .next (chainArrival h (.telemetry reports) s)
/-- SWEEP (R66, R68). -/
def execSweep (h : FrameHdr) (data : SweepData) (s : State) : Answer := .next (chainArrival h (.sweep data) s)
/-- CAPABILITY (R66, R70). -/
def execCapability (h : FrameHdr) (entries : List CapReport) (s : State) : Answer :=
  .next (chainArrival h (.capability entries) s)
/-- TUNE (R66, R82). -/
def execTune (h : FrameHdr) (data : TuneData) (s : State) : Answer := .next (chainArrival h (.tune data) s)
/-- TUNE_REPORT (R66, R89, R147). -/
def execTuneReport (h : FrameHdr) (data : TuneReportData) (s : State) : Answer := .next (chainArrival h (.tuneReport data) s)

end Sys2Proof.Machine
end

