-- ==== Sys2Proof/Machine/Expiries.lean ====
section
/-! DEFINITION. The expiries of the device's deadlines. Each moves the clock to its deadline and acts; where no such
deadline runs, the command has no effect (R105, R112, R144, R148, R149, R164, R181, R72). Log 1, log 7. -/

namespace Sys2Proof.Machine

/-- A deadline expires: the clock stands at it, and the change `f` follows. -/
def expire (d : Option Nat) (f : State → State) (s : State) : State :=
  match d with
  | some t => change f (passTo t s)
  | none => s

/-- The silence timer of a port that is UP. -/
def State.silenceDl (s : State) (p : Port) : Option Nat := if (s.port p).up then (s.port p).silence else none
/-- SILENCE_TIMER_EXPIRY (R72, R73, R76). -/
def execSilenceTimerExpiry (p : Port) (s : State) : Answer := .next (expire (s.silenceDl p) (portDown p .silence) s)

/-- The window deadline of a watch in SUSPECT. -/
def State.windowDl (s : State) (c : Chan) : Option Nat :=
  if (s.chan c).watch.st = .suspect then (s.chan c).watch.window else none
/-- WINDOW_DEADLINE_EXPIRY (R105). -/
def execWindowDeadlineExpiry (z : Fin 6) (n : Fin 32) (s : State) : Answer :=
  .next (expire (s.windowDl ⟨z, n⟩) (windowExpiry ⟨z, n⟩) s)

/-- The settle deadline becomes absent (R112). -/
def settleExpiry (c : Chan) (s : State) : State := s.modChan c fun r => { r with settle := none }
/-- SETTLE_DEADLINE_EXPIRY (R112). -/
def execSettleDeadlineExpiry (z : Fin 6) (n : Fin 32) (s : State) : Answer :=
  .next (expire (s.chan ⟨z, n⟩).settle (settleExpiry ⟨z, n⟩) s)

/-- What the entry of a channel does, if it has one. -/
def onEntry (c : Chan) (f : Entry → State → State) (s : State) : State :=
  match s.entryOf c with
  | some e => f e s
  | none => s
/-- The deadline that runs for the entry of a channel in a given state (R137). -/
def State.entryDl (s : State) (c : Chan) (x : EntryState) : Option Nat :=
  match s.entryOf c with
  | some e => if e.state = x then e.deadline else none
  | none => none
/-- PROPOSAL_DEADLINE_EXPIRY (R144, R174). -/
def execProposalDeadlineExpiry (z : Fin 6) (n : Fin 32) (s : State) : Answer :=
  .next (expire (s.entryDl ⟨z, n⟩ .proposed) (onEntry ⟨z, n⟩ fun e s => endProposal e .timeout s) s)
/-- REPLY_DEADLINE_EXPIRY (R148). -/
def execReplyDeadlineExpiry (z : Fin 6) (n : Fin 32) (s : State) : Answer :=
  .next (expire (s.entryDl ⟨z, n⟩ .sent) (onEntry ⟨z, n⟩ fun e s => sendEnded e none s) s)
/-- LOCK_DEADLINE_EXPIRY (R149). -/
def execLockDeadlineExpiry (z : Fin 6) (n : Fin 32) (s : State) : Answer :=
  .next (expire (s.entryDl ⟨z, n⟩ .locking) (onEntry ⟨z, n⟩ fun e s => moveFail e .lockTimeout none s) s)

/-- The deadline of a link-up wait. -/
def State.waitDl (s : State) (z : Stage) : Option Nat :=
  match s.commits[z] with
  | .waiting d => some d
  | _ => none
/-- WAIT_DEADLINE_EXPIRY (R164). -/
def execWaitDeadlineExpiry (z : Fin 6) (s : State) : Answer := .next (expire (s.waitDl z) (startCommit z .linkUp) s)

/-- The deadline of a survey. -/
def State.surveyDl (s : State) (z : Stage) : Option Nat := s.surveys[z].map (·.deadline)
/-- SURVEY_DEADLINE_EXPIRY (R181). -/
def execSurveyDeadlineExpiry (z : Fin 6) (s : State) : Answer := .next (expire (s.surveyDl z) (endSurvey z .timeout) s)

end Sys2Proof.Machine
end

