-- ==== Sys2Proof/Machine/Completions.lean ====
section
/-! DEFINITION. The completions of the Engine's service, one command for each kind of request in service (R57). A
completion of a kind that is not in service has no effect. Log 7, log 28. -/

namespace Sys2Proof.Machine

/-- The service completes: the Engine hands over the outcome, the requester acts, and the change ends (R57). `act` says
what the requester of the request in service does, or that the command is not about it. -/
def completion (dt : Nat) (act : Served → Service → Option (State → State)) (s : State) : State :=
  let s1 := passTime dt s
  match s1.serving with
  | some (r, v) =>
    match act r v with
    | some f => change (fun s => f (endService s)) s1
    | none => s1
  | none => s1

/-- The check result of a service that is a check. -/
def Service.result (v : Service) : Option Result :=
  match v.outcome with
  | .check _ r => some r
  | .search _ => none

/-- The check of a held TUNE (R86, R87). -/
def guardAct (r : Served) (v : Service) : Option (State → State) :=
  match r with
  | .adm (.guard c _) => v.result.map fun x s => guardDone c x (leaveHead .admission s)
  | _ => none
/-- GUARD_CHECK_COMPLETION (R86, R87). -/
def execGuardCheckCompletion (dt : Nat) (s : State) : Answer := .next (completion dt guardAct s)

/-- The post-check of an adoption (R91). -/
def postAct (r : Served) (v : Service) : Option (State → State) :=
  match r with
  | .adm (.post c f k) => v.result.map fun x s => postDone c f k x (leaveHead .admission s)
  | _ => none
/-- POST_CHECK_COMPLETION (R91). -/
def execPostCheckCompletion (dt : Nat) (s : State) : Answer := .next (completion dt postAct s)

/-- The service of a CHECK (R58). -/
def whatIfAct (r : Served) (v : Service) : Option (State → State) :=
  match r with
  | .adm (.whatIf h x _) => v.result.map fun y s => whatIfDone h x y v.restarts (leaveHead .admission s)
  | _ => none
/-- CHECK_COMPLETION (R58). -/
def execCheckCompletion (dt : Nat) (s : State) : Answer := .next (completion dt whatIfAct s)

/-- A service of an operator request (R156). -/
def operAct (r : Served) (v : Service) : Option (State → State) :=
  match r with
  | .adm (.oper o) => some (operDone o v.outcome)
  | _ => none
/-- OPERATOR_CHECK_COMPLETION (R156). -/
def execOperatorCheckCompletion (dt : Nat) (s : State) : Answer := .next (completion dt operAct s)

/-- What an AUTO entry does with the end or the next step of its search (R132, R133, R143). -/
def moveSearched (c : Chan) (x : SearchStep × State) : State :=
  match x with
  | (.more w q, s) =>
    replaceHead (.move ⟨c, w⟩) <| match s.entryOf c with
      | some e => s.putEntry { e with search := q }
      | none => s
  | (.found f m p q, s) => searchFound c f m p q (leaveHead .move s)
  | (.empty q, s) => noCandidate c q (leaveHead .move s)
/-- The search of an AUTO entry takes the outcome of its service (R132, R133). -/
def moveSearchDone (m : MoveReq) (o : Outcome) (s : State) : State :=
  match s.entryOf m.chan with
  | some e => moveSearched m.chan (searchDone m.chan m.work e.search o s)
  | none => leaveHead .move s
/-- A candidate check of an AUTO entry. -/
def candidateAct (r : Served) (v : Service) : Option (State → State) :=
  match r with
  | .move m => if m.work = .prior ∨ m.work = .openSearch then none else some (moveSearchDone m v.outcome)
  | _ => none
/-- CANDIDATE_CHECK_COMPLETION (R132). -/
def execCandidateCheckCompletion (dt : Nat) (s : State) : Answer := .next (completion dt candidateAct s)

/-- The open search of an AUTO entry. -/
def openAct (r : Served) (v : Service) : Option (State → State) :=
  match r with
  | .move m => if m.work = .openSearch then some (moveSearchDone m v.outcome) else none
  | _ => none
/-- OPEN_SEARCH_COMPLETION (R133). -/
def execOpenSearchCompletion (dt : Nat) (s : State) : Answer := .next (completion dt openAct s)

/-- The return check of a RETURN entry ends its search (R134). -/
def returnDone (c : Chan) (o : Outcome) (s : State) : State :=
  let s1 := leaveHead .move s
  match o with
  | .check f r => if r.verdict = .clear then searchFound c f (r.margin.getD 0) false Search.start s1 else returnSkip c false s1
  | .search _ => returnSkip c false s1
def returnAct (r : Served) (v : Service) : Option (State → State) :=
  match r with
  | .move m => if m.work = .prior then some (returnDone m.chan v.outcome) else none
  | _ => none
/-- RETURN_CHECK_COMPLETION (R134). -/
def execReturnCheckCompletion (dt : Nat) (s : State) : Answer := .next (completion dt returnAct s)

/-- A service of a commit step (R168, R169). -/
def commitAct (r : Served) (v : Service) : Option (State → State) :=
  match r with
  | .com q => some (stepDone q v.outcome)
  | _ => none
/-- COMMIT_STEP_COMPLETION (R169). -/
def execCommitStepCompletion (dt : Nat) (s : State) : Answer := .next (completion dt commitAct s)

/-- A pool check; the POOL request leaves when its pool holds no other UNCHECKED entry (R49, R127). -/
def poolAct (r : Served) (v : Service) : Option (State → State) :=
  match r, v.outcome with
  | .pool g, .check f x => some fun s =>
    let s1 := poolCheckDone g f x s
    if s1.needsRecheck g then s1 else leaveHead .pool s1
  | _, _ => none
/-- POOL_CHECK_COMPLETION (R127). -/
def execPoolCheckCompletion (dt : Nat) (s : State) : Answer := .next (completion dt poolAct s)

end Sys2Proof.Machine
end

