-- ==== Sys2Proof/Machine/Requests.lean ====
section
/-! DEFINITION. The commands of the request family: each is the arrival of a REQUEST frame for the device, tested by R64
and R183 and then handled by its owning rule (R184). -/

namespace Sys2Proof.Machine

/-- A REQUEST frame arrives and is served (R184). -/
def request (h : ReqHdr) (req : Request) (s : State) : State := serve h req (handle h req) s

/-- UNKNOWN_REQUEST (R80, R184). -/
def execUnknownRequest (h : ReqHdr) (code : Nat) (s : State) : Answer :=
  .next (request h (.malformed code) s)
/-- READ_CHANNEL (R190). -/
def execReadChannel (h : ReqHdr) (stage : Nat) (slot : Nat) (s : State) : Answer :=
  .next (request h (.readChannel stage slot) s)
/-- DEFINE_CHANNEL (R186). -/
def execDefineChannel (h : ReqHdr) (stage : Nat) (slot : Nat) (cls : Nat) (priority : Nat) (profile : Nat) (pinned : Nat) (s : State) : Answer :=
  .next (request h (.defineChannel stage slot cls priority profile pinned) s)
/-- REMOVE_CHANNEL (R186). -/
def execRemoveChannel (h : ReqHdr) (stage : Nat) (slot : Nat) (s : State) : Answer :=
  .next (request h (.removeChannel stage slot) s)
/-- WRITE_CHANNEL (R187). -/
def execWriteChannel (h : ReqHdr) (stage : Nat) (slot : Nat) (cls : Nat) (priority : Nat) (profile : Nat) (pinned : Nat) (freq : Nat) (s : State) : Answer :=
  .next (request h (.writeChannel stage slot cls priority profile pinned freq) s)
/-- MOVE (R188). -/
def execMove (h : ReqHdr) (stage : Nat) (slot : Nat) (form : Nat) (operand : Nat) (roc : Nat) (s : State) : Answer :=
  .next (request h (.move stage slot form operand roc) s)
/-- REVERT (R189). -/
def execRevert (h : ReqHdr) (stage : Nat) (slot : Nat) (s : State) : Answer :=
  .next (request h (.revert stage slot) s)
/-- RELEASE (R189). -/
def execRelease (h : ReqHdr) (stage : Nat) (slot : Nat) (s : State) : Answer :=
  .next (request h (.release stage slot) s)
/-- ACK_WATCH (R113). -/
def execAckWatch (h : ReqHdr) (stage : Nat) (slot : Nat) (s : State) : Answer :=
  .next (request h (.ackWatch stage slot) s)
/-- CHECK (R58). -/
def execCheck (h : ReqHdr) (ops : CheckOps) (s : State) : Answer :=
  .next (request h ops.request s)
/-- STAGE_CHANNEL (R161). -/
def execStageChannel (h : ReqHdr) (stage : Nat) (slot : Nat) (kind : Nat) (ops : StagedOps) (s : State) : Answer :=
  .next (request h (.stageChannel stage slot kind ops) s)
/-- COMMIT_STAGE (R163). -/
def execCommitStage (h : ReqHdr) (stage : Nat) (s : State) : Answer :=
  .next (request h (.commitStage stage) s)
/-- ARM_STAGE (R162). -/
def execArmStage (h : ReqHdr) (stage : Nat) (on : Nat) (s : State) : Answer :=
  .next (request h (.armStage stage on) s)
/-- ADD_EXCLUSION (R16, R17). -/
def execAddExclusion (h : ReqHdr) (first : Nat) (last : Nat) (scope : Nat) (s : State) : Answer :=
  .next (request h (.addExclusion first last scope) s)
/-- REMOVE_EXCLUSION (R18). -/
def execRemoveExclusion (h : ReqHdr) (first : Nat) (last : Nat) (s : State) : Answer :=
  .next (request h (.removeExclusion first last) s)
/-- READ_EXCLUSIONS (R16, R80). -/
def execReadExclusions (h : ReqHdr) (start : Nat) (s : State) : Answer :=
  .next (request h (.readExclusions start) s)
/-- ADD_POOL (R121). -/
def execAddPool (h : ReqHdr) (group : Nat) (freq : Nat) (s : State) : Answer :=
  .next (request h (.addPool group freq) s)
/-- REMOVE_POOL (R122). -/
def execRemovePool (h : ReqHdr) (group : Nat) (freq : Nat) (s : State) : Answer :=
  .next (request h (.removePool group freq) s)
/-- LOAD_POOL (R123). -/
def execLoadPool (h : ReqHdr) (group : Nat) (count : Nat) (freqs : List Nat) (s : State) : Answer :=
  .next (request h (.loadPool group count freqs) s)
/-- READ_POOL (R122). -/
def execReadPool (h : ReqHdr) (group : Nat) (s : State) : Answer :=
  .next (request h (.readPool group) s)
/-- WRITE_PROFILE (R100). -/
def execWriteProfile (h : ReqHdr) (number : Nat) (ops : ProfileOps) (s : State) : Answer :=
  .next (request h (.writeProfile number ops) s)
/-- READ_PROFILE (R100). -/
def execReadProfile (h : ReqHdr) (number : Nat) (s : State) : Answer :=
  .next (request h (.readProfile number) s)
/-- SET_GROUPS (R14, R15). -/
def execSetGroups (h : ReqHdr) (groups : List Nat) (relations : List Nat) (s : State) : Answer :=
  .next (request h (.setGroups groups relations) s)
/-- SET_RULES (R44). -/
def execSetRules (h : ReqHdr) (settings : List Setting) (s : State) : Answer :=
  .next (request h (.setRules settings) s)
/-- SET_GATE (R81). -/
def execSetGate (h : ReqHdr) (stage : Nat) (mode : Nat) (s : State) : Answer :=
  .next (request h (.setGate stage mode) s)
/-- SET_LOCK (R182). -/
def execSetLock (h : ReqHdr) (value : Nat) (s : State) : Answer :=
  .next (request h (.setLock value) s)
/-- SET_CONFIRM (R173). -/
def execSetConfirm (h : ReqHdr) (value : Nat) (s : State) : Answer :=
  .next (request h (.setConfirm value) s)
/-- SET_SPAN (R179). -/
def execSetSpan (h : ReqHdr) (stage : Nat) (start : Nat) (step : Nat) (size : Nat) (s : State) : Answer :=
  .next (request h (.setSpan stage start step size) s)
/-- SET_NOTICES (R191). -/
def execSetNotices (h : ReqHdr) (values : List Nat) (s : State) : Answer :=
  .next (request h (.setNotices values) s)
/-- GO (R175). -/
def execGo (h : ReqHdr) (stage : Nat) (slot : Nat) (s : State) : Answer :=
  .next (request h (.go stage slot) s)
/-- DROP (R176). -/
def execDrop (h : ReqHdr) (stage : Nat) (slot : Nat) (s : State) : Answer :=
  .next (request h (.drop stage slot) s)
/-- GO_ALL (R177). -/
def execGoAll (h : ReqHdr) (s : State) : Answer :=
  .next (request h (.goAll) s)
/-- SURVEY (R180). -/
def execSurvey (h : ReqHdr) (stage : Nat) (start : Nat) (step : Nat) (count : Nat) (passes : Nat) (timeout : Nat) (s : State) : Answer :=
  .next (request h (.survey stage start step count passes timeout) s)
/-- READ_EVENTS (R192). -/
def execReadEvents (h : ReqHdr) (clear : Nat) (s : State) : Answer :=
  .next (request h (.readEvents clear) s)
/-- READ_COUNTERS (R193). -/
def execReadCounters (h : ReqHdr) (clear : Nat) (start : Nat) (s : State) : Answer :=
  .next (request h (.readCounters clear start) s)
/-- IDENTIFY (R190). -/
def execIdentify (h : ReqHdr) (s : State) : Answer :=
  .next (request h (.identify) s)
/-- RESTART (R194). -/
def execRestart (h : ReqHdr) (s : State) : Answer :=
  .next (request h (.restart) s)

end Sys2Proof.Machine
end

