-- ==== Sys2Proof/Machine/Dispatch.lean ====
section
/-! DEFINITION. The meaning of every command: one arm per row of the opcode table. -/

namespace Sys2Proof.Machine

def exec (i : Instr) (s : State) : Host.Outcome State Fault Refusal :=
  match i with
  | .powerOn => Sys2Proof.Machine.execPowerOn s
  | .lineSignalLoss dt port => Sys2Proof.Machine.execLineSignalLoss dt port s
  | .silenceTimerExpiry port => Sys2Proof.Machine.execSilenceTimerExpiry port s
  | .receiveFrame dt port bytes => Sys2Proof.Machine.execReceiveFrame dt port bytes s
  | .telemetry h reports => Sys2Proof.Machine.execTelemetry h reports s
  | .sweep h data => Sys2Proof.Machine.execSweep h data s
  | .capability h entries => Sys2Proof.Machine.execCapability h entries s
  | .tune h data => Sys2Proof.Machine.execTune h data s
  | .tuneReport h data => Sys2Proof.Machine.execTuneReport h data s
  | .unknownRequest h code => Sys2Proof.Machine.execUnknownRequest h code s
  | .readChannel h stage slot => Sys2Proof.Machine.execReadChannel h stage slot s
  | .defineChannel h stage slot cls priority profile pinned => Sys2Proof.Machine.execDefineChannel h stage slot cls priority profile pinned s
  | .removeChannel h stage slot => Sys2Proof.Machine.execRemoveChannel h stage slot s
  | .writeChannel h stage slot cls priority profile pinned freq => Sys2Proof.Machine.execWriteChannel h stage slot cls priority profile pinned freq s
  | .move h stage slot form operand roc => Sys2Proof.Machine.execMove h stage slot form operand roc s
  | .revert h stage slot => Sys2Proof.Machine.execRevert h stage slot s
  | .release h stage slot => Sys2Proof.Machine.execRelease h stage slot s
  | .ackWatch h stage slot => Sys2Proof.Machine.execAckWatch h stage slot s
  | .check h ops => Sys2Proof.Machine.execCheck h ops s
  | .stageChannel h stage slot kind ops => Sys2Proof.Machine.execStageChannel h stage slot kind ops s
  | .commitStage h stage => Sys2Proof.Machine.execCommitStage h stage s
  | .armStage h stage on => Sys2Proof.Machine.execArmStage h stage on s
  | .addExclusion h first last scope => Sys2Proof.Machine.execAddExclusion h first last scope s
  | .removeExclusion h first last => Sys2Proof.Machine.execRemoveExclusion h first last s
  | .readExclusions h start => Sys2Proof.Machine.execReadExclusions h start s
  | .addPool h group freq => Sys2Proof.Machine.execAddPool h group freq s
  | .removePool h group freq => Sys2Proof.Machine.execRemovePool h group freq s
  | .loadPool h group count freqs => Sys2Proof.Machine.execLoadPool h group count freqs s
  | .readPool h group => Sys2Proof.Machine.execReadPool h group s
  | .writeProfile h number ops => Sys2Proof.Machine.execWriteProfile h number ops s
  | .readProfile h number => Sys2Proof.Machine.execReadProfile h number s
  | .setGroups h groups relations => Sys2Proof.Machine.execSetGroups h groups relations s
  | .setRules h settings => Sys2Proof.Machine.execSetRules h settings s
  | .setGate h stage mode => Sys2Proof.Machine.execSetGate h stage mode s
  | .setLock h value => Sys2Proof.Machine.execSetLock h value s
  | .setConfirm h value => Sys2Proof.Machine.execSetConfirm h value s
  | .setSpan h stage start step size => Sys2Proof.Machine.execSetSpan h stage start step size s
  | .setNotices h values => Sys2Proof.Machine.execSetNotices h values s
  | .go h stage slot => Sys2Proof.Machine.execGo h stage slot s
  | .drop h stage slot => Sys2Proof.Machine.execDrop h stage slot s
  | .goAll h => Sys2Proof.Machine.execGoAll h s
  | .survey h stage start step count passes timeout => Sys2Proof.Machine.execSurvey h stage start step count passes timeout s
  | .readEvents h clear => Sys2Proof.Machine.execReadEvents h clear s
  | .readCounters h clear start => Sys2Proof.Machine.execReadCounters h clear start s
  | .identify h => Sys2Proof.Machine.execIdentify h s
  | .restart h => Sys2Proof.Machine.execRestart h s
  | .windowDeadlineExpiry stage slot => Sys2Proof.Machine.execWindowDeadlineExpiry stage slot s
  | .settleDeadlineExpiry stage slot => Sys2Proof.Machine.execSettleDeadlineExpiry stage slot s
  | .proposalDeadlineExpiry stage slot => Sys2Proof.Machine.execProposalDeadlineExpiry stage slot s
  | .replyDeadlineExpiry stage slot => Sys2Proof.Machine.execReplyDeadlineExpiry stage slot s
  | .lockDeadlineExpiry stage slot => Sys2Proof.Machine.execLockDeadlineExpiry stage slot s
  | .waitDeadlineExpiry stage => Sys2Proof.Machine.execWaitDeadlineExpiry stage s
  | .surveyDeadlineExpiry stage => Sys2Proof.Machine.execSurveyDeadlineExpiry stage s
  | .guardCheckCompletion dt => Sys2Proof.Machine.execGuardCheckCompletion dt s
  | .postCheckCompletion dt => Sys2Proof.Machine.execPostCheckCompletion dt s
  | .checkCompletion dt => Sys2Proof.Machine.execCheckCompletion dt s
  | .operatorCheckCompletion dt => Sys2Proof.Machine.execOperatorCheckCompletion dt s
  | .candidateCheckCompletion dt => Sys2Proof.Machine.execCandidateCheckCompletion dt s
  | .openSearchCompletion dt => Sys2Proof.Machine.execOpenSearchCompletion dt s
  | .returnCheckCompletion dt => Sys2Proof.Machine.execReturnCheckCompletion dt s
  | .commitStepCompletion dt => Sys2Proof.Machine.execCommitStepCompletion dt s
  | .poolCheckCompletion dt => Sys2Proof.Machine.execPoolCheckCompletion dt s
  | .lineSignalReturn dt port => Sys2Proof.Machine.execLineSignalReturn dt port s

end Sys2Proof.Machine
end

