-- ==== Sys2Proof/Safety.lean ====
section
/-! DEFINITION. What counts as a safe run: a step never stops the block, and the states it goes through keep the bounds,
the places and the shapes the manual states. Beside them, the terms in which statements say when a command is accepted. -/

namespace Sys2Proof.Machine

/-! ## When a command is accepted -/

/-- The state a valid frame on an UP port finds: the time has passed and the silence timer of its port runs afresh
(R62, R72). -/
def arrived (dt : Nat) (p : Port) (s : State) : State := restartSilence p (passTime dt s)
/-- A REQUEST frame reaches its request: its port is UP, its source can lie behind the port (R64), and no test of R183
refuses it. -/
def Accepted (h : ReqHdr) (req : Request) (s : State) : Prop :=
  (s.port h.port).up = true ∧ sourceOk h.port h.src = true ∧ refusalOf h req s.lock = none
/-- A chain frame on the UP port of stage `z`, from an address of that stage, for an address `out` serves that is not the
device's (R64, R65, R66). -/
def Passing (h : FrameHdr) (z : Stage) (out : Port) (s : State) : Prop :=
  h.port = .stage z ∧ (s.port (.stage z)).up = true ∧ h.src.zone.toNat = z.val ∧ h.dst ≠ deviceAddr
  ∧ portOfZone h.dst.zone = some out
/-- A request a command carries, with its header (R80). -/
def requestOf : Instr → Option (ReqHdr × Request)
  | .unknownRequest h c => some (h, .malformed c)
  | .readChannel h st sl => some (h, .readChannel st sl)
  | .defineChannel h st sl c p q n => some (h, .defineChannel st sl c p q n)
  | .removeChannel h st sl => some (h, .removeChannel st sl)
  | .writeChannel h st sl c p q n f => some (h, .writeChannel st sl c p q n f)
  | .move h st sl f o r => some (h, .move st sl f o r)
  | .revert h st sl => some (h, .revert st sl)
  | .release h st sl => some (h, .release st sl)
  | .ackWatch h st sl => some (h, .ackWatch st sl)
  | .check h ops => some (h, ops.request)
  | .stageChannel h st sl k ops => some (h, .stageChannel st sl k ops)
  | .commitStage h st => some (h, .commitStage st)
  | .armStage h st v => some (h, .armStage st v)
  | .addExclusion h a b sc => some (h, .addExclusion a b sc)
  | .removeExclusion h a b => some (h, .removeExclusion a b)
  | .readExclusions h p => some (h, .readExclusions p)
  | .addPool h g f => some (h, .addPool g f)
  | .removePool h g f => some (h, .removePool g f)
  | .loadPool h g n fs => some (h, .loadPool g n fs)
  | .readPool h g => some (h, .readPool g)
  | .writeProfile h n ops => some (h, .writeProfile n ops)
  | .readProfile h n => some (h, .readProfile n)
  | .setGroups h gs rs => some (h, .setGroups gs rs)
  | .setRules h xs => some (h, .setRules xs)
  | .setGate h st m => some (h, .setGate st m)
  | .setLock h v => some (h, .setLock v)
  | .setConfirm h v => some (h, .setConfirm v)
  | .setSpan h st a b c => some (h, .setSpan st a b c)
  | .setNotices h vs => some (h, .setNotices vs)
  | .go h st sl => some (h, .go st sl)
  | .drop h st sl => some (h, .drop st sl)
  | .goAll h => some (h, .goAll)
  | .survey h st a b c d t => some (h, .survey st a b c d t)
  | .readEvents h c => some (h, .readEvents c)
  | .readCounters h c p => some (h, .readCounters c p)
  | .identify h => some (h, .identify)
  | .restart h => some (h, .restart)
  | .powerOn | .lineSignalLoss _ _ | .silenceTimerExpiry _ | .receiveFrame _ _ _ | .telemetry _ _ | .sweep _ _
  | .capability _ _ | .tune _ _ | .tuneReport _ _
  | .windowDeadlineExpiry _ _ | .settleDeadlineExpiry _ _ | .proposalDeadlineExpiry _ _ | .replyDeadlineExpiry _ _
  | .lockDeadlineExpiry _ _ | .waitDeadlineExpiry _ | .surveyDeadlineExpiry _ | .guardCheckCompletion _
  | .postCheckCompletion _ | .checkCompletion _ | .operatorCheckCompletion _ | .candidateCheckCompletion _
  | .openSearchCompletion _ | .returnCheckCompletion _ | .commitStepCompletion _ | .poolCheckCompletion _
  | .lineSignalReturn _ _ => none
/-- A chain payload a command carries, with its header (R79). -/
def chainOf : Instr → Option (FrameHdr × Payload)
  | .telemetry h rs => some (h, .telemetry rs)
  | .sweep h d => some (h, .sweep d)
  | .capability h es => some (h, .capability es)
  | .tune h d => some (h, .tune d)
  | .tuneReport h d => some (h, .tuneReport d)
  | _ => none

/-! ## A quiet device -/

/-- Nothing waits: no item, no running commit, no request, service or deferred request, no pool entry to recheck. In such
a state a change sets nothing else going. -/
def Calm (s : State) : Prop :=
  s.backlog = [] ∧ (∀ z, s.commitRec z = none) ∧ s.engine = ⟨[], [], [], [], none, []⟩ ∧ ∀ g, s.needsRecheck g = false

/-! ## Bounds -/

def StageCounters.bounded (c : StageCounters) : Bool :=
  decide (c.bad ≤ 255) && decide (c.misaddressed ≤ 255) && decide (c.refusals ≤ 255) && decide (c.fires ≤ 255)
  && decide (c.expiries ≤ 255) && decide (c.failures ≤ 255) && decide (c.skips ≤ 255)
/-- Every counter is at most 255, every generation at most 65535, the origin sequence one byte, every history at most 3
deep and every move count at most 255 (R3, R12, R21, R69, R193). -/
def Bounded (s : State) : Prop :=
  (∀ z : Stage, s.counters[z].bounded = true) ∧ s.trunkDiscards ≤ 255 ∧ s.heldDiscards ≤ 255
  ∧ (∀ g : Group, s.gens[g] < 65536) ∧ s.originSeq < 256
  ∧ ∀ c : Chan, (s.chan c).history.length ≤ 3 ∧ (s.chan c).moveCount ≤ 255

/-- No list exceeds its place: 12 retune entries, 8 ADMISSION requests, 4 deferred requests, 8 held frames, 48 exclusions
in strict order, 16 entries in each pool (R16, R46, R56, R84, R120, R137). -/
def Fits (s : State) : Prop :=
  s.table.length ≤ 12 ∧ s.engine.admQ.length ≤ 8 ∧ s.engine.deferred.length ≤ 4 ∧ s.heldFrames.length ≤ 8
  ∧ s.excl.length ≤ 48 ∧ s.excl.Pairwise (fun x y => x.before y = true) ∧ ∀ g : Group, (s.pool g).length ≤ 16

/-- A channel has at most one retune entry and at most one backlog item, and not both; at most 8 entries are PROPOSED
(R137, R139). -/
def Unique (s : State) : Prop :=
  (s.table.map (·.chan)).Nodup ∧ (s.backlog.map (·.chan)).Nodup
  ∧ (∀ i ∈ s.backlog, s.entryOf i.chan = none) ∧ s.proposedCount ≤ 8

/-! ## Shapes (R6) -/

/-- The optional fields of a record are present as its state requires (R6). -/
def ChanRec.shaped (r : ChanRec) : Bool :=
  match r.state with
  | .unused | .parked =>
    r.assigned.isNone && r.pending.isNone && r.ret.isNone && r.darkFrom.isNone && r.heldCause.isNone
  | .active => r.assigned.isSome && r.pending.isNone && r.ret.isNone && r.darkFrom.isNone && r.heldCause.isNone
  | .held => r.assigned.isSome && r.pending.isNone && r.ret.isNone && r.darkFrom.isNone && r.heldCause.isSome
  | .moving =>
    r.pending.isSome && r.darkFrom.isNone
    && (match r.ret with
      | some .active => r.assigned.isSome && r.heldCause.isNone
      | some .held => r.assigned.isSome && r.heldCause.isSome
      | some .parked => r.assigned.isNone && r.heldCause.isNone
      | none => false)
  | .dark =>
    r.ret.isNone
    && (match r.darkFrom with
      | some .active => r.assigned.isSome && r.pending.isNone && r.heldCause.isNone
      | some .held => r.assigned.isSome && r.pending.isNone && r.heldCause.isSome
      | some .moving => r.pending.isSome && r.heldCause.isNone
      | none => false)

/-- A retune entry stands with its channel: a SEARCHING one with an ACTIVE or HELD channel, any other with a MOVING channel
whose pending target is the entry's (R137, R142, R143). -/
def State.entryStands (s : State) (e : Entry) : Bool :=
  match e.state with
  | .searching =>
    (e.origin = .auto || e.origin = .ret)
    && ((s.chan e.chan).state = .active || (s.chan e.chan).state = .held)
  | .proposed | .sent | .locking =>
    (s.chan e.chan).state = .moving && (s.chan e.chan).pending = e.target
    && (decide (e.origin ≠ .auto ∧ e.origin ≠ .ret) || (s.chan e.chan).ret = some .active)
/-- A MOVING channel's move has an owner: a retune entry that is not SEARCHING, or a PUSH item (R140, R143). -/
def State.owned (s : State) (c : Chan) : Bool :=
  (s.table.any fun e => e.chan = c && e.state ≠ .searching) || (s.backlog.any fun i => i.chan = c && i.want = .push)
/-- Every record has the shape of its state, every entry and item stands with its channel, every MOVING channel's move has
an owner, and each MOVE request belongs to its own SEARCHING entry (R6, R137, R140, R142). -/
def Placed (s : State) : Prop :=
  Unique s ∧ (∀ c, (s.chan c).shaped = true) ∧ (∀ e ∈ s.table, s.entryStands e = true)
  ∧ (∀ i ∈ s.backlog, s.itemStands i = true) ∧ (∀ c, (s.chan c).state = .moving → s.owned c = true)
  ∧ (s.engine.moveQ.map (·.chan)).Nodup
  ∧ ∀ m ∈ s.engine.moveQ, ∃ e ∈ s.table, e.chan = m.chan ∧ e.state = .searching

/-- No pool holds a frequency twice, and none holds a frequency that a channel of its group occupies (R120). -/
def PoolsClean (s : State) : Prop :=
  ∀ g : Group, ((s.pool g).map (·.freq)).Nodup ∧ ∀ e ∈ s.pool g, s.occupiedIn g e.freq = false

/-- The queues that have no limit of their own stay within R46: no pool asks twice for its recheck, no stage has two steps
in the COMMIT queue, and a step in the queue is the current step of its stage's commit (R47, R121, R162, R168). -/
def Queued (s : State) : Prop :=
  s.engine.poolQ.Nodup ∧ (s.engine.comQ.map (·.stage)).Nodup
  ∧ ∀ q ∈ s.engine.comQ, ∃ r, s.commitRec q.stage = some r ∧ r.phase = .stepping q.slot

/-- A stage whose commit runs or waits has its port UP (R163, R164, R171). -/
def Linked (s : State) : Prop := ∀ z : Stage, s.commits[z] ≠ .idle → (s.port (.stage z)).up = true

/-- The runs of a watch lie below the persistences they are counted against: an ARMED watch is short of both levels, a
SUSPECT one of level 2 (R103, R104, R106). -/
def Watch.below (w : Watch) (p : Profile) : Bool :=
  match w.st with
  | .armed => decide (w.run1 < p.level1.persistence) && decide (w.run2 < p.level2.persistence)
  | .suspect => decide (w.run2 < p.level2.persistence)
  | .off | .fired => true
/-- Every persistence lies in 1 to 8, every run in 0 to 8 and below its persistence; the watch of an UNUSED, PARKED or DARK
channel is OFF (R98, R102). -/
def Watched (s : State) : Prop :=
  (∀ n : Fin 8, 1 ≤ (s.profiles[n]).level1.persistence ∧ (s.profiles[n]).level1.persistence ≤ 8
    ∧ 1 ≤ (s.profiles[n]).level2.persistence ∧ (s.profiles[n]).level2.persistence ≤ 8)
  ∧ ∀ c : Chan, let r := s.chan c
    r.watch.run1 ≤ 8 ∧ r.watch.run2 ≤ 8
    ∧ ((r.state = .unused ∨ r.state = .parked ∨ r.state = .dark) → r.watch.st = .off)
    ∧ ∀ n, r.profile = some n → r.watch.below s.profiles[n] = true

/-! ## Settings -/

/-- The settings that only their own requests change. -/
structure Settings where
  gate : Vector GateMode 6
  lock : Bool
  confirm : Bool
  spans : Vector Span 6
  enables : Vector Bool 15
  profiles : Vector Profile 8
  deriving DecidableEq, Repr
def State.settings (s : State) : Settings := ⟨s.gate, s.lock, s.confirm, s.spans, s.enables, s.profiles⟩

end Sys2Proof.Machine
end

