-- ==== Sys2Proof/Certificates/Slice0/Obligations.lean ====
section
/-! DEFINITION. The statements for the provers. Each says what a rule of spec/ says of the model; a statement that rests on
a choice of the model names the log entry. -/

section

open Sys2Proof Sys2Proof.Machine

/-! ## The block and its queue -/

/-- The command at the front of the queue runs on the state with the queue's rest. -/
def Obligations.StepRunsTheFrontCommand : Prop :=
  ∀ (c : Instr) (rest : List Instr) (s : State), step { s with pending := c :: rest } = exec c { s with pending := rest }

/-- No command stops the block, none touches the queue of those that wait behind it, and none but POWER_ON sets the clock
back. The queue, which the commands reach from outside (log 30) and which stands through POWER_ON too (log 31), and the
clock, which the commands move (log 1), are the model's own. -/
def Obligations.CommandsCompleteAndKeepTheQueue : Prop :=
  ∀ (c : Instr) (s : State), ∃ t, exec c s = .next t ∧ t.pending = s.pending ∧ (c ≠ .powerOn → s.now ≤ t.now)

/-! ## Frames (R62, R78 to R80) -/

/-- Every frame of at most 120 payload bytes is read back from its bytes, and bytes that are read as a frame are that
frame's. -/
def Obligations.FramesRoundTrip : Prop :=
  (∀ f : Frame, f.payload.length ≤ 120 → parseFrame f.wire = some f)
  ∧ ∀ (bs : List Byte) (f : Frame), parseFrame bs = some f → bs = f.wire ∧ f.payload.length ≤ 120

/-- Every request that can arrive is read back from its payload: code and every operand at every value. -/
def Obligations.RequestsRoundTrip : Prop := ∀ r : Request, r.wf = true → parseRequest (encodeRequest r) = r

/-- Every chain payload that can arrive is read back from its bytes, every field at every value. -/
def Obligations.ChainPayloadsRoundTrip : Prop :=
  ∀ (i : Instr) (h : FrameHdr) (p : Payload), chainOf i = some (h, p) → i.wf = true →
    parsePayload (encodePayload p).1 (encodePayload p).2 = p

/-- RECEIVE_FRAME of a valid frame delivers it, and of the bytes of any command's own frame it does what the command
does. -/
def Obligations.FrameBytesDoWhatTheirCommandDoes : Prop :=
  (∀ (dt : Nat) (p : Port) (f : Frame) (s : State), f.payload.length ≤ 120 →
    exec (.receiveFrame dt p f.wire) s = .next (deliver dt p f (parsePayload f.kind f.payload) (arrive dt p s)))
  ∧ ∀ (i : Instr) (s : State), i.wf = true →
    (∀ h r, requestOf i = some (h, r) → exec (.receiveFrame h.dt h.port (requestFrame h r).wire) s = exec i s)
    ∧ ∀ h p, chainOf i = some (h, p) → exec (.receiveFrame h.dt h.port (chainFrame h p).wire) s = exec i s

/-- The CRC of the nine ASCII characters 123456789 is 29B1 hexadecimal, and three payloads written out byte by byte are
read as what they spell: a TELEMETRY report, a TUNE and the request MOVE. -/
def Obligations.WrittenPayloadsAreReadAsSpelled : Prop :=
  crc16 [0x31#8, 0x32#8, 0x33#8, 0x34#8, 0x35#8, 0x36#8, 0x37#8, 0x38#8, 0x39#8] = 0x29B1#16
  ∧ parsePayload 0x10#8 [1#8, 7#8, 0x01#8, 0xF4#8, 45#8, 5#8, 3#8] = .telemetry [⟨7, 500, 45, true, false, true, 3⟩]
  ∧ parsePayload 0x20#8 [4#8, 0x05#8, 0x14#8, 0#8] = .tune ⟨4, 1300, 0⟩
  ∧ parseRequest [0x08#8, 1#8, 4#8, 0#8, 0x05#8, 0x14#8, 1#8] = .move 1 4 0 1300 1

/-! ## Arrival (R62 to R66) -/

/-- Bytes that are no valid frame count one bad frame, on the stage of their port or on the trunk, and change nothing
else but the time. A chain frame whose source cannot lie behind its port, or whose destination zone no port serves, counts
one misaddressed frame there and goes no further; that one for such a zone is not read either, whatever its kind and source,
is the model's (log 55). -/
def Obligations.DiscardedFramesAreCountedAlone : Prop :=
  (∀ (dt : Nat) (p : Port) (bs : List Byte) (s : State), parseFrame bs = none →
    exec (.receiveFrame dt p bs) s = .next (countDiscard p .bad (passTime dt s)))
  ∧ ∀ (i : Instr) (h : FrameHdr) (p : Payload) (s : State), chainOf i = some (h, p) → (s.port h.port).up = true →
    (sourceOk h.port h.src = false ∨ portOfZone h.dst.zone = none) →
    exec i s = .next (countDiscard h.port .misaddressed (arrived h.dt h.port s))

/-- A request from a source its port allows is tested in the state its arrival leaves, on a port UP or DOWN: refused, it
is answered with that status and changes nothing else; otherwise it is handled. A request from another source counts one
misaddressed frame alone. An unknown code or a wrong length is answered BAD_REQUEST with its code echoed, and so is a
request with an operand outside its values, which changes nothing of its own. A frequency beyond 8191 in a request that is
otherwise within its values is answered OUT_OF_GRID and changes nothing of its own. For CHECK and the exclusions the grid
test comes first (log 14 for CHECK), a flag above 1 and a scope of 0 or above 15 are outside their values (log 35), and so is
a relation SAME (log 36). The operands of STAGE_CHANNEL, SET_RULES and a profile's fields, and the frequencies of MOVE,
WRITE_CHANNEL and STAGE_CHANNEL, have statements of their own. -/
def Obligations.RequestsAreTestedThenHandled : Prop :=
  (∀ (i : Instr) (h : ReqHdr) (r : Request) (s : State), requestOf i = some (h, r) →
    let a := arrive h.dt h.port s
    (sourceOk h.port h.src = true → exec i s = .next (match refusalOf h r a.lock with
      | some st => reply h r.code st 0 [] a
      | none => handle h r a))
    ∧ (sourceOk h.port h.src = false → exec i s = .next (countDiscard h.port .misaddressed a)))
  ∧ (∀ (h : ReqHdr) (c : Nat) (s : State), (s.port h.port).up = true → sourceOk h.port h.src = true →
    exec (.unknownRequest h c) s = .next (reply h c .badRequest 0 [] (arrived h.dt h.port s)))
  ∧ ∀ (i : Instr) (h : ReqHdr) (r : Request) (s : State), requestOf i = some (h, r) → Accepted h r s →
    let noChan : Nat → Nat → Prop := fun st sl => 5 < st ∨ 31 < sl
    let noAttrs : Nat → Nat → Nat → Nat → Prop := fun c p q n => 1 < c ∨ 1 < p ∨ (7 < q ∧ q ≠ 255) ∨ 1 < n
    let outside : Prop := match r with
      | .readChannel st sl | .removeChannel st sl | .revert st sl | .release st sl | .ackWatch st sl | .go st sl
      | .drop st sl => noChan st sl
      | .defineChannel st sl c p q n | .writeChannel st sl c p q n _ => noChan st sl ∨ noAttrs c p q n
      | .move st sl form o v => noChan st sl ∨ 2 < form ∨ 1 < v ∨ (form = 1 ∧ 255 < (signed16 o).natAbs)
      | .checkChannel st sl f => f ≤ 8191 ∧ noChan st sl
      | .checkGroup g f => f ≤ 8191 ∧ 3 < g
      | .stageChannel st sl _ _ => noChan st sl
      | .commitStage st | .setSpan st _ _ _ | .survey st _ _ _ _ _ => 5 < st
      | .armStage st v => 5 < st ∨ 1 < v
      | .addExclusion f l k => f ≤ 8191 ∧ l ≤ 8191 ∧ (l < f ∨ k = 0 ∨ 15 < k)
      | .addPool g _ | .removePool g _ | .readPool g => 3 < g
      | .loadPool g n fs => 3 < g ∨ 16 < n ∨ fs.length ≠ n
      | .writeProfile n _ | .readProfile n => 7 < n
      | .setGroups gs rs => gs.length ≠ 6 ∨ rs.length ≠ 6 ∨ (∃ g ∈ gs, 3 < g) ∨ ∃ x ∈ rs, x ≠ 1 ∧ x ≠ 2
      | .setGate st m => 5 < st ∨ 2 < m
      | .setLock v | .setConfirm v | .readEvents v | .readCounters v _ => 1 < v
      | .setNotices vs => vs.length ≠ 15 ∨ ∃ v ∈ vs, 1 < v
      | .malformed _ | .readExclusions _ | .removeExclusion .. | .setRules _ | .goAll | .identify | .restart => False
    let beyond : Prop := match r with
      | .setSpan st f _ _ | .survey st f _ _ _ _ => st ≤ 5 ∧ 8191 < f
      | .addExclusion f l _ | .removeExclusion f l => 8191 < f ∨ 8191 < l
      | .addPool g f | .removePool g f => g ≤ 3 ∧ 8191 < f
      | .loadPool g n fs => g ≤ 3 ∧ n ≤ 16 ∧ fs.length = n ∧ ∃ f ∈ fs, 8191 < f
      | .checkChannel _ _ f | .checkGroup _ f => 8191 < f
      | _ => False
    let a := arrived h.dt h.port s
    let answered : Status → State := fun st => reply h r.code st 0 [] a
    let closed : State → State := fun t => match r with
      | .readChannel .. | .ackWatch .. | .stageChannel .. | .armStage .. | .readPool _ | .readProfile _ | .setGate ..
      | .setLock _ | .setSpan .. | .setNotices _ | .readEvents _ | .readCounters .. => t
      | _ => finish a t
    (outside → exec i s = .next (closed (answered .badRequest)))
    ∧ (beyond → exec i s = .next (closed (answered .outOfGrid)))

/-- The tests of a stage port's request, in their order: form, trunk-only requests, lock, own stage. -/
def Obligations.StagePortTestsInOrder : Prop :=
  ∀ (h : ReqHdr) (z : Fin 6) (r : Request) (lock : Bool), h.port = .stage z →
    (isMalformed r = true → refusalOf h r lock = some .badRequest)
    ∧ (isMalformed r = false → trunkOnly r = true → refusalOf h r lock = some .notPermitted)
    ∧ (isMalformed r = false → trunkOnly r = false → isRead r = false → lock = true → refusalOf h r lock = some .locked)
    ∧ (isMalformed r = false → trunkOnly r = false → (lock = false ∨ isRead r = true) →
        refusalOf h r lock = match ownStage r with
          | some st => if st = z.val then none else some .notPermitted
          | none => none)

/-- While the lock is set, a request on a stage port, CHECK apart, changes nothing but its port, where its one REPLY
waits. -/
def Obligations.LockedStagePortsChangeNothing : Prop :=
  ∀ (i : Instr) (h : ReqHdr) (r : Request) (z : Fin 6) (s : State), requestOf i = some (h, r) → h.port = .stage z →
    (s.port h.port).up = true → sourceOk h.port h.src = true → s.lock = true → (∀ ops, i ≠ .check h ops) →
    ∃ f : Frame, f.kind = kReply ∧ f.dst = h.src ∧ f.seq = h.seq
      ∧ exec i s = .next ((arrived h.dt h.port s).setPort h.port
          { (arrived h.dt h.port s).port h.port with tx := ((arrived h.dt h.port s).port h.port).tx ++ [f] })

/-! ## Replies, notices and counters (R69, R184, R191 to R193) -/

/-- A reply to a request whose source its port allows waits at that same port, with the request's sequence number, its
code, the status, the refusal kind and the results; nothing else changes. -/
def Obligations.RepliesWaitAtTheirPort : Prop :=
  ∀ (h : ReqHdr) (code kind : Nat) (st : Status) (res : List Byte) (s : State), sourceOk h.port h.src = true →
    (s.port h.port).up = true →
    reply h code st kind res s = s.setPort h.port { s.port h.port with tx := (s.port h.port).tx
      ++ [⟨h.src, ⟨6#8, 1#8⟩, 0x31#8, h.seq, byteOf code :: byteOf st.code :: byteOf kind :: res⟩] }

/-- A notice sets its latch whether or not its kind is enabled. Enabled, it takes the next origin sequence number and
waits at the trunk, or is discarded and counted there when the trunk is DOWN. That the frame carries the counter's value
and the counter then rises is the model's reading of "the next value" (log 44). -/
def Obligations.NoticesLatchThenSend : Prop :=
  ∀ (k : NoticeKind) (stage slot : Nat) (detail : List Byte) (s : State),
    (s.enables[k.idx] = false → notify k stage slot detail s = { s with latches := s.latches.set k.idx.castSucc true })
    ∧ (s.enables[k.idx] = true → s.trunk.up = true → notify k stage slot detail s =
        { s with
          latches := s.latches.set k.idx.castSucc true
          originSeq := (s.originSeq + 1) % 256
          trunk := { s.trunk with tx := s.trunk.tx ++ [⟨⟨6#8, 0#8⟩, ⟨6#8, 1#8⟩, 0x32#8, byteOf s.originSeq,
            byteOf k.code :: byteOf stage :: byteOf slot :: detail⟩] } })
    ∧ (s.enables[k.idx] = true → s.trunk.up = false → notify k stage slot detail s =
        { s with
          latches := s.latches.set k.idx.castSucc true
          originSeq := (s.originSeq + 1) % 256
          trunkDiscards := min (s.trunkDiscards + 1) 255 })

/-! ## Reads (R16, R80, R100, R122, R183, R190, R192, R193) -/

/-- A read answers OK with its contents and changes nothing: the record and its companions of a channel, a page of the
exclusion table, a pool, a profile, the identity. The layouts are the model's where R80 gives none (log 15), and so are the
range and step shown for a receiver that is not fitted (log 51). -/
def Obligations.TableReadsOnlyAnswer : Prop :=
  ∀ (h : ReqHdr) (s : State), let a := arrived h.dt h.port s
    (∀ st sl c, Accepted h (.readChannel st sl) s → chanOf st sl = some c →
      exec (.readChannel h st sl) s = .next (replyOk h 0x01 (encRecord a (s.chan c) ++ encCap (s.cap c)
        ++ encEntry a (s.entryOf c) ++ encItem (s.itemOf c) ++ eFlag (s.heldOf c).isSome ++ encNote (s.noteOf c)
        ++ encStaged (s.staged c)) a))
    ∧ (∀ p, Accepted h (.readExclusions p) s →
      exec (.readExclusions h p) s = .next (replyOk h 0x1A (page 116 p (s.excl.map encExcl)) a))
    ∧ (∀ n g, Accepted h (.readPool n) s → groupOfNat n = some g →
      exec (.readPool h n) s = .next (replyOk h 0x1E (byteOf (s.readyCount g) :: byteOf (s.pool g).length
        :: (s.pool g).flatMap encPoolEntry) a))
    ∧ (∀ n k, Accepted h (.readProfile n) s → profileNumber n = some k →
      exec (.readProfile h n) s = .next (replyOk h 0x20 (encProfile s.profiles[k]) a))
    ∧ (Accepted h .identify s →
      exec (.identify h) s = .next (replyOk h 0x3A [0x53#8, 0x43#8, 0x36#8, 2#8, 192#8, 48#8, 16#8, 12#8, 8#8, 8#8] a))

/-- READ_EVENTS and READ_COUNTERS answer with the latches and with a page of the counter records as they stand. From the
trunk their clear option clears all sixteen latches, and with page 0 every counter; from a stage port it clears nothing,
and the reply says so. That the clearing byte stands after the flags and before the records, and that each flag is one byte,
is the model's layout (log 15), and so is the order of the counters in record 0 (log 52). -/
def Obligations.ClearingReadsClearOnlyFromTheTrunk : Prop :=
  ∀ (h : ReqHdr) (s : State) (clear : Nat) (b : Bool), flagOf clear = some b → let a := arrived h.dt h.port s
    (Accepted h (.readEvents clear) s →
      (b = true ∧ h.port = .trunk →
        exec (.readEvents h clear) s = .next (replyOk h 0x38 (s.latches.toList.flatMap eFlag ++ [1#8])
          { a with latches := Vector.replicate 16 false }))
      ∧ (b = false ∨ h.port ≠ .trunk →
        exec (.readEvents h clear) s = .next (replyOk h 0x38 (s.latches.toList.flatMap eFlag ++ [0#8]) a)))
    ∧ ∀ start, Accepted h (.readCounters clear start) s →
      (b = true ∧ h.port = .trunk ∧ start = 0 →
        exec (.readCounters h clear start) s = .next (replyOk h 0x39 (1#8 :: page 115 0 s.counterRecords)
          { a with counters := Vector.replicate 6 ⟨0, 0, 0, 0, 0, 0, 0⟩, trunkDiscards := 0, heldDiscards := 0 }))
      ∧ (b = false ∨ h.port ≠ .trunk ∨ start ≠ 0 →
        exec (.readCounters h clear start) s = .next (replyOk h 0x39 (0#8 :: page 115 start s.counterRecords) a))

/-! ## Site settings (R44, R45, R81, R100, R173, R179, R182, R191) -/

/-- SET_GATE, SET_LOCK, SET_NOTICES and SET_SPAN store what they carry, a span's step and size clamped, and answer with
what is stored; SET_SPAN sends the span to the scanner of a STANDING stage that is UP. Nothing else changes. SET_CONFIRM
stores its setting, answers with it and with whether it is in force, and its change then closes. That SET_SPAN's reply
stands before its SWEEP_SET, and SET_CONFIRM's before what its close sends, is the model's choice (log 42). A stage, group
or profile number names what stands at its place, a mode and a flag carry their codes, and no other value names anything. -/
def Obligations.SiteSettingsAreStored : Prop :=
  (∀ n, (∀ z, stageOf n = some z ↔ z.val = n) ∧ (∀ g, groupOfNat n = some g ↔ g.val = n)
    ∧ (∀ k, profileNumber n = some k ↔ k.val = n) ∧ gateModeOf n = [GateMode.guard, .track, .block][n]?
    ∧ flagOf n = [false, true][n]?)
  ∧ (∀ vs bs, enablesOf vs = some bs ↔ vs = bs.toList.map Bool.toNat)
  ∧ ∀ (h : ReqHdr) (s : State), let a := arrived h.dt h.port s
    (∀ st m z x, Accepted h (.setGate st m) s → stageOf st = some z → gateModeOf m = some x →
      exec (.setGate h st m) s = .next (replyOk h 0x29 [byteOf m] { a with gate := s.gate.set z x }))
    ∧ (∀ v b, Accepted h (.setLock v) s → flagOf v = some b →
      exec (.setLock h v) s = .next (replyOk h 0x2A [byteOf v] { a with lock := b }))
    ∧ (∀ vs bs, Accepted h (.setNotices vs) s → enablesOf vs = some bs →
      exec (.setNotices h vs) s = .next (replyOk h 0x2D (bs.toList.flatMap eFlag) { a with enables := bs }))
    ∧ (∀ st start k n z, Accepted h (.setSpan st start k n) s → stageOf st = some z → start ≤ 8191 →
      let p : Span := ⟨start, max 1 (min 8 k), max 1 (min 96 n)⟩
      let t := replyOk h 0x2C (be16 p.start ++ [byteOf p.step, byteOf p.size]) { a with spans := s.spans.set z p }
      exec (.setSpan h st start k n) s =
        .next (if (a.port (.stage z)).up = true ∧ s.surveys[z] = none then sendStanding z t else t))
    ∧ (∀ v b, Accepted h (.setConfirm v) s → flagOf v = some b →
      exec (.setConfirm h v) s = .next (finish a (replyOk h 0x2B (eFlag b ++ eFlag (b && a.trunk.up)) { a with confirm := b })))

/-- A SET_RULES setting is stored at its place, clamped to its range or as the flag given, and no other value changes; a
code, a group or a flag outside its values makes the request BAD_REQUEST. A request stores all its values as one change:
each group is incremented once for raised spacing and once for each product check turned on for it, the READY and BLOCKED
entries of its pool and of the pools NEAR to it become UNCHECKED, and a changed guard has every flag computed again;
nothing else changes, unless the Engine holds a group it would increment. A profile is stored with every field as given or
clamped to its range, and not at all when a kind, the combine setting, the response or the flag is outside its values. The
threshold of a NONE condition outside 1 to 100 is left open (log 13); the last of a repeated setting stands (log 16); the
reply leaves before the notices of the close (log 42). -/
def Obligations.RulesAndProfilesAreStored : Prop :=
  (∀ (r : Rules) (x : Setting),
    (x.code ≤ 8 → setRule r x = some (match x.code with
      | 0 => { r with spacing := { r.spacing with scc := max 1 (min 63 x.value) } }
      | 1 => { r with spacing := { r.spacing with snear := min 63 x.value } }
      | 2 => { r with spacing := { r.spacing with s3 := min 31 x.value } }
      | 3 => { r with spacing := { r.spacing with s5 := min 31 x.value } }
      | 4 => { r with spacing := { r.spacing with s3t := min 31 x.value } }
      | 5 => { r with spacing := { r.spacing with xhi := min 15 x.value } }
      | 6 => { r with spacing := { r.spacing with guard := min 15 x.value } }
      | 7 => { r with settle := min 60000 x.value }
      | _ => { r with proposal := max 5000 (min 120000 x.value) }))
    ∧ (∀ g : Group, x.group = g.val →
      let o := r.opts[g]
      let put : GroupOpts → Option Rules := fun y => some { r with opts := r.opts.set g y }
      let on := decide (x.value = 1)
      (x.value ≤ 1 → (x.code = 9 → setRule r x = put { o with fifth := on })
        ∧ (x.code = 10 → setRule r x = put { o with three := on })
        ∧ (x.code = 11 → setRule r x = put { o with openSearch := on })
        ∧ (x.code = 13 → setRule r x = put { o with recycle := on }))
      ∧ (1 < x.value → (x.code = 9 ∨ x.code = 10 ∨ x.code = 11 ∨ x.code = 13) → setRule r x = none)
      ∧ (x.code = 12 → setRule r x = put { o with downshift := max 1 (min 8 x.value) })
      ∧ (x.code = 14 → setRule r x = put { o with floor := min 100 x.value })
      ∧ (x.code = 15 → setRule r x = put { o with dwell := max 1 (min 63 x.value) }))
    ∧ ((15 < x.code ∨ 9 ≤ x.code ∧ 3 < x.group) → setRule r x = none)
    ∧ setRulesOf r [] = some r
    ∧ ∀ xs, setRulesOf r (x :: xs) = (setRule r x).bind fun r' => setRulesOf r' xs)
  ∧ (∀ (h : ReqHdr) (s : State) (xs : List Setting), Accepted h (.setRules xs) s → let a := arrived h.dt h.port s
    (setRulesOf s.rules xs = none → exec (.setRules h xs) s = .next (finish a (reply h 0x28 .badRequest 0 [] a)))
    ∧ ∀ new, setRulesOf s.rules xs = some new → s.held (ruleBumps s.rules new) = false →
      let raised : Bool := decide (s.spacing.scc < new.spacing.scc ∨ s.spacing.snear < new.spacing.snear
        ∨ s.spacing.s3 < new.spacing.s3 ∨ s.spacing.s5 < new.spacing.s5 ∨ s.spacing.s3t < new.spacing.s3t
        ∨ s.spacing.xhi < new.spacing.xhi ∨ s.spacing.guard < new.spacing.guard)
      let n : Group → Nat := fun g => raised.toNat + (!(s.opts[g]).fifth && (new.opts[g]).fifth).toNat
        + (!(s.opts[g]).three && (new.opts[g]).three).toNat
      ∃ t, exec (.setRules h xs) s = .next (finish a (replyOk h 0x28 (encRules new) t))
        ∧ t.rules = new
        ∧ (∀ g : Group, t.gens[g] = if n g = 0 then s.gens[g] else (s.gens[g] + n g) % 65536)
        ∧ (∀ g : Group, t.pool g = if (∃ k : Group, n k ≠ 0 ∧ (g = k ∨ s.near k g = true))
            then (s.pool g).map (fun e => if e.state = .ready ∨ e.state = .blocked then { e with state := .unchecked } else e)
            else s.pool g)
        ∧ (∀ c, t.chan c = { s.chan c with exclConflict := if s.spacing.guard = new.spacing.guard
            then (s.chan c).exclConflict else (t.conflictOf c).isSome })
        ∧ t = { a with
          spacing := new.spacing, settlePeriod := new.settle, proposalTimeout := new.proposal, opts := new.opts
          gens := t.gens, pools := t.pools, chans := t.chans })
  ∧ ∀ (o : ProfileOps),
    let kind : Nat → Option CondKind := fun n => [CondKind.foreign, .dropout, .sweepHit, .none][n]?
    let combine : Nat → Option Combine := fun n => [Combine.sequence, .either][n]?
    let response : Nat → Option Response := fun n => [Response.report, .move, .freeze][n]?
    let stored : CondOps → CondKind → Cond → Prop := fun x k y =>
      y.kind = k ∧ y.persistence = max 1 (min 8 x.persistence) ∧ y.reach = min 3 x.reach
      ∧ ((k = .foreign ∨ k = .sweepHit) → y.threshold = min 100 x.threshold)
      ∧ (k = .dropout → y.threshold = max 1 (min 255 x.threshold))
      ∧ (k = .none → 1 ≤ x.threshold → x.threshold ≤ 100 → y.threshold = x.threshold)
    (∀ k1 k2 m r, kind o.level1.kind = some k1 → kind o.level2.kind = some k2 → combine o.combine = some m →
      response o.response = some r → o.returnOnClear ≤ 1 →
      ∃ p, profileFrom o = some p ∧ stored o.level1 k1 p.level1 ∧ stored o.level2 k2 p.level2 ∧ p.combine = m
        ∧ p.window = max 100 (min 10000 o.window) ∧ p.response = r ∧ p.returnOnClear = decide (o.returnOnClear = 1)
        ∧ p.clearDwell = max 1 (min 63 o.clearDwell))
    ∧ ((kind o.level1.kind = none ∨ kind o.level2.kind = none ∨ combine o.combine = none ∨ response o.response = none
      ∨ 1 < o.returnOnClear) → profileFrom o = none)

/-- WRITE_PROFILE replaces the whole profile. The watch of every channel that uses it becomes ARMED in ACTIVE, HELD and
MOVING under a profile that is not inert, and OFF otherwise, with runs 0 and no window deadline; its return watch goes. No
other channel changes, and the reply echoes the profile as stored. -/
def Obligations.ProfileWritesRestartTheirWatches : Prop :=
  ∀ (h : ReqHdr) (s : State) (n : Nat) (k : Fin 8) (o : ProfileOps) (p : Profile), Accepted h (.writeProfile n o) s →
    profileNumber n = some k → profileFrom o = some p →
    ∃ t, exec (.writeProfile h n o) s = .next (finish (arrived h.dt h.port s) (replyOk h 0x1F (encProfile p) t))
      ∧ t.profiles = s.profiles.set k p
      ∧ (∀ c, (s.chan c).profile ≠ some k → t.chan c = s.chan c)
      ∧ (∀ c, (s.chan c).profile = some k → t.chan c = { s.chan c with
          returnWatch := none
          watch := ⟨if ((s.chan c).state = .active ∨ (s.chan c).state = .held ∨ (s.chan c).state = .moving)
            ∧ p.level1.kind ≠ .none then .armed else .off, 0, 0, none⟩ })
      ∧ t = { arrived h.dt h.port s with profiles := t.profiles, chans := t.chans }

/-! ## Channels and operator moves (R4, R58, R113, R155, R186 to R189) -/

/-- DEFINE_CHANNEL takes an UNUSED channel to PARKED with the attributes it carries and every other field at its power-on
value, the last report kept: a class, a priority, a profile and a pinned flag by their codes, 255 for no profile. The
channel is the one its stage and slot number. REMOVE_CHANNEL takes a PARKED channel to UNUSED, every field but the last report at its
power-on value, and its track note goes. In other states they answer DUPLICATE, NOT_FOUND and BUSY and change nothing. -/
def Obligations.ChannelsAreDefinedAndRemoved : Prop :=
  (∀ st sl c, chanOf st sl = some c ↔ c.stage.val = st ∧ c.slot.val = sl)
  ∧ (∀ cl p q n x, attrsOf cl p q n = some x ↔ [TxClass.low, .high][cl]? = some x.cls
    ∧ [Priority.normal, .lead][p]? = some x.priority
    ∧ q = (match x.profile with | some k => k.val | none => 255) ∧ [false, true][n]? = some x.pinned)
  ∧ ∀ (h : ReqHdr) (s : State) (st sl : Nat) (c : Chan), chanOf st sl = some c → let a := arrived h.dt h.port s
    (∀ cl p q n x, Accepted h (.defineChannel st sl cl p q n) s → attrsOf cl p q n = some x →
      let t := a.setChan c { ChanRec.reset with
        state := .parked, cls := x.cls, priority := x.priority, profile := x.profile, pinned := x.pinned
        lastReport := (s.chan c).lastReport }
      exec (.defineChannel h st sl cl p q n) s = .next (finish a
        (if (s.chan c).state = .unused then replyOk h 0x02 (encRecord t (t.chan c)) t
          else reply h 0x02 .duplicate 0 [] a)))
    ∧ (Accepted h (.removeChannel st sl) s →
      exec (.removeChannel h st sl) s = .next (finish a
        (if (s.chan c).state = .unused then reply h 0x03 .notFound 0 [] a
          else if (s.chan c).state = .parked then
            replyOk h 0x03 [] { a.setChan c { ChanRec.reset with lastReport := (s.chan c).lastReport } with
              notes := s.notes.filter fun n => n.chan ≠ c }
          else reply h 0x03 .busy 0 [] a)))

/-- WRITE_CHANNEL stores the four attributes. A changed profile restarts the watch and ends the return watch; a LOW
channel that occupies a frequency and becomes HIGH increments its group. With no new frequency the reply is the record;
with the assigned frequency it is OK; with another it waits for the check of an operator move. A frequency beyond the grid,
an UNUSED channel, and a new frequency for a channel that cannot be moved now are refused, in this order, with nothing
stored. What the OK reply to the assigned frequency carries, the attributes and then the target, is the model's layout
(log 15), and that the reply stands before what the close sends is its choice (log 42). -/
def Obligations.WritesStoreTheirAttributes : Prop :=
  ∀ (h : ReqHdr) (s : State) (st sl cl p q n f : Nat) (c : Chan) (x : Attrs), chanOf st sl = some c →
    attrsOf cl p q n = some x → Accepted h (.writeChannel st sl cl p q n f) s →
    let a := arrived h.dt h.port s
    let answered : Status → Prop := fun st' => exec (.writeChannel h st sl cl p q n f) s
      = .next (finish a (reply h 0x04 st' 0 [] a))
    (8191 < f → f ≠ 65535 → answered .outOfGrid)
    ∧ ((f ≤ 8191 ∨ f = 65535) → (s.chan c).state = .unused → answered .notFound)
    ∧ (f ≤ 8191 → (s.chan c).state ≠ .unused → a.operBusy c = true → answered .busy)
    ∧ ((s.chan c).state ≠ .unused → a.writeWaits c x.cls = false → (f = 65535 ∨ f ≤ 8191 ∧ a.operBusy c = false) →
      ∃ t, exec (.writeChannel h st sl cl p q n f) s = .next (finish a
        (if f = 65535 then replyOk h 0x04 (encRecord t (t.chan c)) t
          else if (s.chan c).assigned = some f then replyOk h 0x04 (encAttrs (t.chan c) ++ be16 f) t
          else { t with engine := { t.engine with
            admQ := t.engine.admQ ++ [.oper ⟨h, 4, c, false, false, .given f, ⟨[], 0, []⟩⟩] } }))
      ∧ (∀ d, d ≠ c → t.chan d = s.chan d)
      ∧ t.chan c = { s.chan c with
          cls := x.cls, priority := x.priority, profile := x.profile, pinned := x.pinned
          watch := if (s.chan c).profile = x.profile then (s.chan c).watch
            else ⟨if ((s.chan c).state = .active ∨ (s.chan c).state = .held ∨ (s.chan c).state = .moving)
              ∧ s.liveProfile x.profile = true then .armed else .off, 0, 0, none⟩
          returnWatch := if (s.chan c).profile = x.profile then (s.chan c).returnWatch else none }
      ∧ (∀ g : Group, t.gens[g] =
          if (s.chan c).cls = .low ∧ x.cls = .high ∧ (s.chan c).occupied ≠ [] ∧ g = s.groupOf c
          then (s.gens[g] + 1) % 65536 else s.gens[g])
      ∧ t = { a with chans := t.chans, gens := t.gens, pools := t.pools })

/-- A write that would increment a group the Engine holds, or change the class of the held service's subject, waits: it
joins the deferred list unapplied and unanswered, or is answered BUSY when four wait. A WRITE_CHANNEL waits whole, its new
frequency with it, when the tests before the hold let it pass. -/
def Obligations.HeldGroupsDeferTheirWrites : Prop :=
  ∀ (i : Instr) (h : ReqHdr) (r : Request) (s : State), requestOf i = some (h, r) → Accepted h r s →
    let a := arrived h.dt h.port s
    ((∃ xs new, r = .setRules xs ∧ setRulesOf s.rules xs = some new ∧ s.held (ruleBumps s.rules new) = true)
      ∨ (∃ f l k, r = .addExclusion f l k ∧ f ≤ l ∧ l ≤ 8191 ∧ 1 ≤ k ∧ k ≤ 15
          ∧ (s.excl.any (Excl.sameRange f l) = true ∨ s.excl.length < 48)
          ∧ s.held (effectiveScope f l (BitVec.ofNat 4 k) s.excl).groups = true)
      ∨ (∃ gs rs x, r = .setGroups gs rs ∧ groupsOf gs rs = some x
          ∧ (∀ c : Chan, s.couple[c.stage] ≠ x.couple[c.stage] → (s.chan c).state ≠ .moving)
          ∧ s.held (s.groupBumps x) = true)
      ∨ ∃ st sl cl p q n f c x, r = .writeChannel st sl cl p q n f ∧ chanOf st sl = some c ∧ attrsOf cl p q n = some x
          ∧ (f = 65535 ∨ f ≤ 8191 ∧ s.operBusy c = false) ∧ (s.chan c).state ≠ .unused ∧ s.writeWaits c x.cls = true) →
    exec i s = .next (finish a (if s.engine.deferred.length < 4
      then { a with engine := { a.engine with deferred := a.engine.deferred ++ [⟨h, r⟩] } }
      else reply h r.code .busy 0 [] a))

/-- RELEASE takes a HELD channel to ACTIVE with no held cause, ends the return watch of an ACTIVE one, and in both restarts
the watch and ends the settle deadline. ACK_WATCH re-arms a watch that is not OFF. Nothing else of the channel changes, and
each reply to RELEASE that is OK, and each reply to ACK_WATCH, says what the channel or its watch now is. -/
def Obligations.ReleaseAndAcknowledgeRearm : Prop :=
  ∀ (h : ReqHdr) (s : State) (st sl : Nat) (c : Chan), chanOf st sl = some c →
    let a := arrived h.dt h.port s
    let r := s.chan c
    (Accepted h (.release st sl) s → exec (.release h st sl) s = .next (finish a (match r.state with
      | .unused => reply h 0x0A .notFound 0 [] a
      | .moving | .dark => reply h 0x0A .busy 0 [] a
      | .parked => replyOk h 0x0A [1#8] a
      | .held => replyOk h 0x0A [2#8] (a.setChan c { r with
          state := .active, heldCause := none, settle := none
          watch := ⟨if s.liveProfile r.profile = true then .armed else .off, 0, 0, none⟩ })
      | .active => replyOk h 0x0A [2#8] (a.setChan c { r with
          returnWatch := none, settle := none
          watch := ⟨if s.liveProfile r.profile = true then .armed else .off, 0, 0, none⟩ }))))
    ∧ (Accepted h (.ackWatch st sl) s → exec (.ackWatch h st sl) s = .next (match r.state with
      | .unused => reply h 0x0B .notFound 0 [byteOf r.watch.st.code] a
      | .moving => reply h 0x0B .busy 0 [byteOf r.watch.st.code] a
      | _ => if r.watch.st = .off then replyOk h 0x0B [0#8] a
        else replyOk h 0x0B [1#8] (a.setChan c { r with watch := ⟨.armed, 0, 0, none⟩ })))

/-- MOVE and REVERT test their channel in order, and what passes joins the ADMISSION queue with the check or search of an
operator move; a MOVE to the assigned frequency is answered OK at once, and a PICK whose search ends at once REFUSED. That
BUSY comes before OK for the assigned frequency, and the order of REVERT's tests, are the model's reading (log 36); so is
the choice of a PICK's candidate at its arrival (log 38). -/
def Obligations.OperatorMovesQueueTheirCheck : Prop :=
  ∀ (h : ReqHdr) (s : State) (st sl : Nat) (c : Chan), chanOf st sl = some c → let a := arrived h.dt h.port s
    let queued : Nat → Bool → Bool → Work → Search → State → State := fun code rev roc w q b =>
      { b with engine := { b.engine with admQ := b.engine.admQ ++ [.oper ⟨h, code, c, rev, roc, w, q⟩] } }
    let toward : Nat → Bool → State := fun f roc =>
      if a.operBusy c = true then reply h 0x08 .busy 0 [] a
      else if (s.chan c).assigned = some f then replyOk h 0x08 (be16 f) a
      else queued 0x08 false roc (.given f) ⟨[], 0, []⟩ a
    (∀ f v roc, Accepted h (.move st sl 0 f v) s → flagOf v = some roc →
      exec (.move h st sl 0 f v) s = .next (finish a
        (if (s.chan c).state = .unused then reply h 0x08 .notFound 0 [] a
          else if 8191 < f then reply h 0x08 .outOfGrid 0 [] a else toward f roc)))
    ∧ (∀ o v roc f, Accepted h (.move st sl 1 o v) s → flagOf v = some roc → (signed16 o).natAbs ≤ 255 →
      (s.chan c).state ≠ .unused → (s.chan c).state ≠ .parked → (s.chan c).assigned = some f →
      exec (.move h st sl 1 o v) s = .next (finish a
        (if (f : Int) + signed16 o < 0 ∨ (8191 : Int) < f + signed16 o then reply h 0x08 .outOfGrid 0 [] a
          else toward ((f : Int) + signed16 o).toNat roc)))
    ∧ (∀ o v roc, Accepted h (.move st sl 1 o v) s → flagOf v = some roc → (signed16 o).natAbs ≤ 255 →
      ((s.chan c).state = .unused → exec (.move h st sl 1 o v) s = .next (finish a (reply h 0x08 .notFound 0 [] a)))
      ∧ ((s.chan c).state = .parked → exec (.move h st sl 1 o v) s = .next (finish a (reply h 0x08 .badRequest 0 [] a))))
    ∧ (∀ o v roc, Accepted h (.move st sl 2 o v) s → flagOf v = some roc → (s.chan c).state ≠ .unused →
      exec (.move h st sl 2 o v) s = .next (finish a
        (if a.operBusy c = true then reply h 0x08 .busy 0 [] a
          else match searchNext c ⟨[], 0, []⟩ a with
            | (.more w q, t) => queued 0x08 false roc w q t
            | (_, t) => reply h 0x08 .refused 0 [] t)))
    ∧ (Accepted h (.revert st sl) s →
      exec (.revert h st sl) s = .next (finish a
        (if (s.chan c).state = .unused then reply h 0x09 .notFound 0 [] a
          else if a.operBusy c = true then reply h 0x09 .busy 0 [] a
          else if (s.chan c).prior = none then reply h 0x09 .notFound 0 [] a
          else queued 0x09 true false .prior ⟨[], 0, []⟩ a)))

/-- CHECK joins the ADMISSION queue, or is answered BUSY when eight wait there. Its completion answers with the result of
the check on the inputs the service read, its restart count and the subject's two flags, and changes nothing of the plan.
The layout of the reply, and its OK whatever the verdict, are the model's (log 14). -/
def Obligations.ChecksQueueAndOnlyAnswer : Prop :=
  (∀ (h : ReqHdr) (ops : CheckOps) (x : Subject) (f : Nat) (s : State), Accepted h ops.request s → f ≤ 8191 →
    ((∃ st sl c, ops = .channel st sl f ∧ chanOf st sl = some c ∧ x = .chan c)
      ∨ ∃ n g, ops = .group n f ∧ groupOfNat n = some g ∧ x = .group g) →
    let a := arrived h.dt h.port s
    exec (.check h ops) s = .next (finish a (if 8 ≤ s.engine.admQ.length then reply h 0x0C .busy 0 [] a
      else { a with engine := { a.engine with admQ := a.engine.admQ ++ [.whatIf h x f] } })))
  ∧ ∀ (dt : Nat) (h : ReqHdr) (x : Subject) (f : Nat) (v : Service) (q : List AdmReq) (s : State),
    s.engine.service = some v → v.cls = .admission → v.cand = some f → s.engine.admQ = .whatIf h x f :: q →
    let b := passTime dt s
    let r := check v.inputs f
    exec (.checkCompletion dt) s = .next (finish b (replyOk h 0x0C
      (byteOf r.verdict.code :: o8 r.margin ++ eChan r.inv1 ++ eChan r.inv2 ++ be32 r.terms
        ++ [byteOf (min v.restarts 255)] ++ (match x with
          | .chan c => eFlag (s.chan c).offPlan ++ eFlag (s.chan c).exclConflict
          | .group _ => [255#8, 255#8]))
      { b with engine := { b.engine with service := none, admQ := q } }))

/-! ## Set changes (R160 to R169) -/

/-- STAGE_CHANNEL stores its entry unless an operand is outside its values, a given target is beyond the grid or the
stage's commit runs, and then changes nothing. The kinds are KEEP, DROP, CHANGE and ADD by their codes, with their own
operands; the target is a frequency with its fallback flag, or ANY, whose flag is not stored (log 17). ARM_STAGE stores its
flag, and disarming cancels a wait. -/
def Obligations.StagingAndArmingAreStored : Prop :=
  (∀ t f, targetOf t f = if t = 65534 then (if f ≤ 1 ∨ f = 255 then some .any else none)
    else if f ≤ 1 then some (.given t (f = 1)) else none)
  ∧ (∀ k ops e, stagedOf k ops = some e ↔ (k = 0 ∧ ops = .none ∧ e = .keep) ∨ (k = 1 ∧ ops = .none ∧ e = .drop)
    ∨ (∃ t f x, k = 2 ∧ ops = .change t f ∧ targetOf t f = some x ∧ e = .change x)
    ∨ ∃ t f c p q x y, k = 3 ∧ ops = .add t f c p q ∧ targetOf t f = some x ∧ attrsOf c p q 0 = some y
      ∧ e = .add x y.cls y.priority y.profile)
  ∧ ∀ (h : ReqHdr) (s : State), let a := arrived h.dt h.port s
    (∀ st sl k ops c e, Accepted h (.stageChannel st sl k ops) s → chanOf st sl = some c → stagedOf k ops = some e →
      exec (.stageChannel h st sl k ops) s = .next
        (if (StagedOps.freq ops).any (fun f => decide (8191 < f ∧ f ≠ 65534)) = true then reply h 0x10 .outOfGrid 0 [] a
          else if (s.commitRec c.stage).isSome = true then reply h 0x10 .busy 0 [] a
          else replyOk h 0x10 (encStaged e) { a with staging := s.staging.set c.idx e }))
    ∧ (∀ st sl k ops, Accepted h (.stageChannel st sl k ops) s → (chanOf st sl = none ∨ stagedOf k ops = none) →
      exec (.stageChannel h st sl k ops) s = .next (reply h 0x10 .badRequest 0 [] a))
    ∧ ∀ st v z b, Accepted h (.armStage st v) s → stageOf st = some z → flagOf v = some b →
      exec (.armStage h st v) s = .next (replyOk h 0x12 [byteOf v] { a with
        arm := s.arm.set z b
        commits := if b = false ∧ (s.waitDl z).isSome = true then s.commits.set z .idle else s.commits })

/-- COMMIT_STAGE starts the stage's commit: an empty record, then the DROP entries, then the steps in slot order. The
drops park each ACTIVE or HELD channel that holds no retune entry, count a PARKED one, skip a DARK or UNUSED one and defer
the rest; no other channel changes. -/
def Obligations.CommitsStartWithTheirDrops : Prop :=
  (∀ (h : ReqHdr) (st : Nat) (z : Stage) (s : State), Accepted h (.commitStage st) s → stageOf st = some z →
    let a := arrived h.dt h.port s
    exec (.commitStage h st) s = .next (finish a
      (if (s.commitRec z).isSome = true ∨ (a.port (.stage z)).up = false then reply h 0x11 .busy 0 [] a
        else runSteps z (List.finRange 32) (dropAll z ((replyOk h 0x11 [] a).setCommit z
          (.committing ⟨.request, .draining, [], [], 0, 0, 0, 0, []⟩))))))
  ∧ ∀ (z : Stage) (s : State) (r : CommitRec), s.commits[z] = .committing r →
    let drops := (List.finRange 32).filter fun n => s.staged ⟨z, n⟩ = .drop
    let busy : Slot → Bool := fun n => (s.chan ⟨z, n⟩).state = .moving
      || (((s.chan ⟨z, n⟩).state = .active || (s.chan ⟨z, n⟩).state = .held) && (s.entryOf ⟨z, n⟩).isSome)
    let gone : Slot → Bool := fun n => (s.chan ⟨z, n⟩).state = .dark || (s.chan ⟨z, n⟩).state = .unused
    (∀ n ∈ drops, ((s.chan ⟨z, n⟩).state = .active ∨ (s.chan ⟨z, n⟩).state = .held) → s.entryOf ⟨z, n⟩ = none →
      (dropAll z s).chan ⟨z, n⟩ = { s.chan ⟨z, n⟩ with
        state := .parked, assigned := none, pending := none, ret := none, heldCause := none
        watch := ⟨.off, 0, 0, none⟩, returnWatch := none, settle := none, exclConflict := false })
    ∧ (∀ c : Chan, (c.stage ≠ z ∨ c.slot ∉ drops ∨ busy c.slot = true ∨ gone c.slot = true
        ∨ (s.chan c).state = .parked) → (dropAll z s).chan c = s.chan c)
    ∧ (dropAll z s).commits[z] = .committing { r with
        deferred := r.deferred ++ drops.filter busy
        skipped := r.skipped + (drops.filter gone).length
        dropped := r.dropped + (drops.filter fun n => !busy n && !gone n).length }
    ∧ (dropAll z s).gens = s.gens

/-- A step meets its channel as it stands: busy channels are skipped, an ADD on an ACTIVE channel and a CHANGE on an
UNUSED one fail, a CHANGE to the assigned frequency is applied at once, any other given target waits for its check, and ANY
for the search it begins, which fails at once where it ends at once (log 38). A step whose check ends CLEAR reserves its
frequency and joins the backlog with want PUSH, if the channel still stands. A deferred drop is applied once its channel
has no move; a commit with nothing left ends, its staged entries KEEP and its arm flag off; an aborted one withdraws its
step, counts what it has not done as skipped and keeps the entries it has not reached, at a lost stage with its notice. The
layout of the notice (log 15) and the order of its failed list (log 50) are the model's. -/
def Obligations.CommitStepsMeetTheirChannel : Prop :=
  ∀ (z : Stage) (n : Slot) (s : State) (r : CommitRec), s.commits[z] = .committing r →
    let c : Chan := ⟨z, n⟩
    let r1 : CommitRec := { r with phase := .stepping n }
    let x := s.chan c
    ((x.state = .dark ∨ x.state = .moving ∨ x.state = .held ∨ (s.entryOf c).isSome = true) →
      stepOne z n s = (false, s.setCommit z (.committing { r1 with skipped := r.skipped + 1 })))
    ∧ (s.entryOf c = none →
      (∀ t k p q, x.state = .active → s.staged c = .add t k p q →
        stepOne z n s = (false, s.setCommit z (.committing
          { r1 with failed := r.failed + 1, failedList := r.failedList ++ [(n, 11)] })))
      ∧ (∀ t, x.state = .unused → s.staged c = .change t →
        stepOne z n s = (false, s.setCommit z (.committing
          { r1 with failed := r.failed + 1, failedList := r.failedList ++ [(n, 9)] })))
      ∧ (∀ f fb, x.state = .active → s.staged c = .change (.given f fb) → x.assigned = some f →
        stepOne z n s = (false, s.setCommit z (.committing { r1 with applied := r.applied + 1 })))
      ∧ (∀ f fb, (x.state = .parked ∨ x.state = .active ∧ x.assigned ≠ some f) → s.staged c = .change (.given f fb) →
        stepOne z n s = (true, joinCom ⟨z, n, fb, .given f, ⟨[], 0, []⟩⟩ (s.setCommit z (.committing r1))))
      ∧ (∀ f fb k p q, (x.state = .unused ∨ x.state = .parked) → s.staged c = .add (.given f fb) k p q →
        stepOne z n s = (true, joinCom ⟨z, n, fb, .given f, ⟨[], 0, []⟩⟩ ((s.setCommit z (.committing r1)).setChan c
          (if x.state = .unused then { ChanRec.reset with
              state := .parked, cls := k, priority := p, profile := q }
            else { x with cls := k, priority := p, profile := q }))))
      ∧ let ask : State → Bool × State := fun t => match searchNext c ⟨[], 0, []⟩ t with
          | (.more w q, u) => (true, joinCom ⟨z, n, false, w, q⟩ u)
          | (_, u) => (false, { u with commits := s.commits.set z (.committing
              { r1 with failed := r.failed + 1, failedList := r.failedList ++ [(n, 12)] }) })
        ((x.state = .parked ∨ x.state = .active) → s.staged c = .change .any →
          stepOne z n s = ask (s.setCommit z (.committing r1)))
        ∧ ∀ k p q, (x.state = .unused ∨ x.state = .parked) → s.staged c = .add .any k p q →
          stepOne z n s = ask ((s.setCommit z (.committing r1)).setChan c
            (if x.state = .unused then { ChanRec.reset with
                state := .parked, cls := k, priority := p, profile := q }
              else { x with cls := k, priority := p, profile := q })))
    ∧ (∀ f, stepFound z n f s =
        if (x.state = .parked ∨ x.state = .active) ∧ s.entryOf c = none ∧ (s.port (.stage z)).up = true then
          let t := reserve c f s
          runSteps z ((List.finRange 32).filter fun m => n < m) ({ t with
            backlog := t.backlog ++ [⟨c, .push, s.now, false⟩]
            commits := s.commits.set z (.committing { r with outstanding := r.outstanding ++ [n] }) })
        else runSteps z ((List.finRange 32).filter fun m => n < m)
          (s.setCommit z (.committing { r with skipped := r.skipped + 1 })))
    ∧ (let r2 : CommitRec := { r with deferred := r.deferred.filter fun m => m ≠ n }
      settleDrop z n s = if (s.entryOf c).isSome = true ∨ x.state = .moving then s
        else if x.state = .active ∨ x.state = .held then
          { (s.setCommit z (.committing { r2 with dropped := r.dropped + 1 })).setChan c { x with
              state := .parked, assigned := none, pending := none, ret := none, heldCause := none
              watch := ⟨.off, 0, 0, none⟩, returnWatch := none, settle := none, exclConflict := false } with
            backlog := s.backlog.filter fun i => i.chan ≠ c }
        else if x.state = .parked then s.setCommit z (.committing { r2 with dropped := r.dropped + 1 })
        else s.setCommit z (.committing { r2 with skipped := r.skipped + 1 }))
    ∧ (let done : Prop := r.phase = .draining ∧ r.outstanding = [] ∧ r.deferred = []
      let told : CommitRec → Nat → State → State := fun x why t =>
        notify .commitDone z.val 255 ([byteOf x.trigger.code, byteOf why] ++ encCounts x ++ encFailed x.failedList) t
      (¬ done → endCommit z s = s)
      ∧ (done → ∃ t, endCommit z s = { told r 0 t with commits := s.commits.set z .idle }
        ∧ (∀ d, t.staged d = if d.stage = z then .keep else s.staged d)
        ∧ t = { s with arm := s.arm.set z false, staging := t.staging })
      ∧ let left : List Slot := match r.phase with
          | .stepping m => (List.finRange 32).filter fun k => m < k && (s.staged ⟨z, k⟩).isStep
          | .draining => []
        let x : CommitRec := { r with
          skipped := r.skipped + (if r.phase = .draining then 0 else 1) + r.deferred.length + left.length }
        ∃ t, abortCommit z s = (some x, t) ∧ commitDown z s = told x 1 t
          ∧ (∀ d, t.staged d = if d.stage = z ∧ d.slot ∉ left ∧ d.slot ∉ r.deferred then .keep else s.staged d)
          ∧ (∀ g : Group, t.pool g = (s.pool g).map fun e =>
              if (∃ q ∈ s.engine.comQ, q.stage = z ∧ q.work = .pool g e.freq) then { e with inSearch := false } else e)
          ∧ t = { s with
            commits := s.commits.set z .idle, staging := t.staging, pools := t.pools
            engine := { s.engine with
              comQ := s.engine.comQ.filter fun q => q.stage ≠ z
              service := match s.serving with
                | some (.com q, _) => if q.stage = z then none else s.engine.service
                | _ => s.engine.service } })
    ∧ ∀ (s : State), (restartCommits s).1 = ((List.finRange 6).filterMap fun y =>
        (s.commitRec y).map fun r => (y, s.abortedRec y r))
      ∧ (restartCommits s).2.commits = Vector.replicate 6 .idle

/-! ## Exclusions, pools and groups (R14 to R19, R121 to R123) -/

/-- ADD_EXCLUSION enters a new range in its place, FULL when 48 stand, or widens the scope of the entry with the same range. Each group of the
effective scope is incremented once, the READY and BLOCKED entries of its pool and of the pools NEAR to it become
UNCHECKED, and each of its channels that occupies a frequency of the guarded range is flagged. REMOVE_EXCLUSION takes the
entry out and computes the flags of its groups again. Nothing else changes. That the reply stands before the notices of
the close is the model's choice (log 42). -/
def Obligations.ExclusionsAreAddedAndRemoved : Prop :=
  ∀ (h : ReqHdr) (s : State) (lo hi : Nat), lo ≤ hi → hi ≤ 8191 → s.excl.Pairwise (fun x y => x.before y = true) →
    let a := arrived h.dt h.port s
    let old := s.excl.find? (Excl.sameRange lo hi)
    (∀ k, Accepted h (.addExclusion lo hi k) s → 1 ≤ k → k ≤ 15 → (old.isSome = true ∨ s.excl.length < 48) →
      let b := BitVec.ofNat 4 k
      let eff : GroupSet := match old with | some x => b &&& ~~~x.scope | none => b
      s.held eff.groups = false →
      ∃ t i, exec (.addExclusion h lo hi k) s = .next (finish a (replyOk h 0x18 [byteOf i] t))
        ∧ t.excl[i]? = some ⟨lo, hi, match old with | some x => x.scope ||| b | none => b⟩
        ∧ (match old with
          | some x => s.excl[i]? = some x ∧ t.excl.eraseIdx i = s.excl.eraseIdx i
          | none => t.excl.eraseIdx i = s.excl)
        ∧ t.excl.Pairwise (fun x y => x.before y = true)
        ∧ (∀ g : Group, t.gens[g] = if eff.has g = true then (s.gens[g] + 1) % 65536 else s.gens[g])
        ∧ (∀ g : Group, t.pool g = if (∃ k : Group, eff.has k = true ∧ (g = k ∨ s.near k g = true))
            then (s.pool g).map (fun e => if e.state = .ready ∨ e.state = .blocked then { e with state := .unchecked } else e)
            else s.pool g)
        ∧ (∀ c, t.chan c = { s.chan c with exclConflict := (s.chan c).exclConflict || (eff.has (s.groupOf c)
            && (s.chan c).occupied.any fun f => decide (lo ≤ f + s.spacing.guard ∧ f ≤ hi + s.spacing.guard)) })
        ∧ t = { a with excl := t.excl, gens := t.gens, pools := t.pools, chans := t.chans })
    ∧ (∀ k, Accepted h (.addExclusion lo hi k) s → 1 ≤ k → k ≤ 15 → old = none → 48 ≤ s.excl.length →
      exec (.addExclusion h lo hi k) s = .next (finish a (reply h 0x18 .full 0 [] a)))
    ∧ (Accepted h (.removeExclusion lo hi) s → match old with
      | none => exec (.removeExclusion h lo hi) s = .next (finish a (reply h 0x19 .notFound 0 [] a))
      | some x => ∃ t, exec (.removeExclusion h lo hi) s = .next (finish a (replyOk h 0x19 [] t))
        ∧ t.excl = s.excl.filter (fun y => !(y.first = lo && y.last = hi))
        ∧ (∀ c, t.chan c = { s.chan c with
            exclConflict := if x.scope.has (s.groupOf c) = true then (t.conflictOf c).isSome else (s.chan c).exclConflict })
        ∧ t = { a with excl := t.excl, chans := t.chans })

/-- ADD_POOL tests the grid, the pool, the plan and the room in that order, and appends an UNCHECKED entry; REMOVE_POOL
takes the entry out; LOAD_POOL replaces the pool by the frequencies it carries, in order, without repeats and without
those a channel of the group occupies, and counts what it leaves out. Nothing else changes. That the reply stands before
the POOL_LOW notice of the close is the model's choice (log 42). -/
def Obligations.PoolsAreEdited : Prop :=
  ∀ (h : ReqHdr) (s : State) (n : Nat) (g : Group), groupOfNat n = some g → let a := arrived h.dt h.port s
    let put : List PoolEntry → State := fun p => { a with pools := s.pools.set g p }
    (∀ f, Accepted h (.addPool n f) s → exec (.addPool h n f) s = .next (finish a
      (if 8191 < f then reply h 0x1B .outOfGrid 0 [] a
        else if (∃ e ∈ s.pool g, e.freq = f) then reply h 0x1B .duplicate 0 [] a
        else if s.occupiedIn g f = true then reply h 0x1B .occupied 0 [] a
        else if 16 ≤ (s.pool g).length then reply h 0x1B .full 0 [] a
        else replyOk h 0x1B [byteOf (s.pool g).length, byteOf (s.readyCount g)]
          (put (s.pool g ++ [⟨f, .unchecked, 0, none, false⟩])))))
    ∧ (∀ f, Accepted h (.removePool n f) s → exec (.removePool h n f) s = .next (finish a
      (if 8191 < f then reply h 0x1C .outOfGrid 0 [] a
        else if (∃ e ∈ s.pool g, e.freq = f) then replyOk h 0x1C [] (put ((s.pool g).filter fun e => e.freq ≠ f))
        else reply h 0x1C .notFound 0 [] a)))
    ∧ ∀ fs, Accepted h (.loadPool n fs.length fs) s → fs.length ≤ 16 → (∀ f ∈ fs, f ≤ 8191) →
      let distinct := fs.eraseDups
      let kept := distinct.filter fun f => !s.occupiedIn g f
      exec (.loadPool h n fs.length fs) s = .next (finish a (replyOk h 0x1D
        [byteOf kept.length, byteOf (fs.length - distinct.length), byteOf (distinct.length - kept.length)]
        (put (kept.map fun f => ⟨f, .unchecked, 0, none, false⟩))))

/-- SET_GROUPS stores the map and the relations, the six groups by number and the six relations NEAR by 1 and FAR by 2. Each regrouped stage increments its new and its former group, and each
pair tightened from FAR to NEAR both of its groups; the frequencies a regrouped stage's channels occupy leave the pool of
its new group, and its channels' flags are computed again. It is answered BUSY while a stage it regroups has a MOVING
channel, whether or not the Engine holds a group; that order of the two tests (log 36), and the reply before the notices
of the close (log 42), are the model's choices. -/
def Obligations.StagesAreRegrouped : Prop :=
  (∀ gs rs x, groupsOf gs rs = some x ↔ gs = x.couple.toList.map (·.val)
    ∧ rs = x.rels.toList.map fun | .near => 1 | .far => 2)
  ∧ ∀ (h : ReqHdr) (s : State) (gs rs : List Nat) (x : Groups), Accepted h (.setGroups gs rs) s → groupsOf gs rs = some x →
    let a := arrived h.dt h.port s
    let moved : Stage → Bool := fun z => s.couple[z] ≠ x.couple[z]
    ((∃ c : Chan, moved c.stage = true ∧ (s.chan c).state = .moving) →
      exec (.setGroups h gs rs) s = .next (finish a (reply h 0x21 .busy 0 [] a)))
    ∧ ((∀ c : Chan, moved c.stage = true → (s.chan c).state ≠ .moving) → s.held (s.groupBumps x) = false →
      (∀ g : Group, s.gens[g] < 65536) →
      ∃ t, exec (.setGroups h gs rs) s = .next (finish a (replyOk h 0x21 [] t))
        ∧ t.couple = x.couple ∧ t.rels = x.rels
        ∧ (∀ g : Group, t.gens[g] = (s.gens[g]
            + (((List.finRange 6).filter fun z => moved z && x.couple[z] = g).length
              + ((List.finRange 6).filter fun z => moved z && s.couple[z] = g).length
              + (pairGroups.filter fun p => s.rels[p.1] = .far && x.rels[p.1] = .near && (p.2.1 = g || p.2.2 = g)).length))
            % 65536)
        ∧ (∀ g f, (∃ e ∈ t.pool g, e.freq = f) ↔ (∃ e ∈ s.pool g, e.freq = f)
            ∧ ∀ c : Chan, moved c.stage = true → x.couple[c.stage] = g → f ∉ (s.chan c).occupied)
        ∧ (∀ c, t.chan c = { s.chan c with
            exclConflict := if moved c.stage = true then (t.conflictOf c).isSome else (s.chan c).exclConflict })
        ∧ t = { a with couple := t.couple, rels := t.rels, gens := t.gens, pools := t.pools, chans := t.chans })

/-! ## Confirm mode, surveys, RESTART and the pins (R72 to R77, R175 to R181, R194, R195) -/

/-- GO sends a PROPOSED entry's TUNE, DROP ends a PROPOSED or a SEARCHING entry, GO_ALL sends every PROPOSED entry in
table order; GO and DROP of another entry are BUSY, of a channel with none NOT_FOUND, and of no channel BAD_REQUEST. That
the TUNEs, and the PROPOSAL_EXPIRED of a DROP, stand before the reply is the model's choice (log 42). -/
def Obligations.ProposalsAreAnswered : Prop :=
  ∀ (h : ReqHdr) (s : State), let a := arrived h.dt h.port s
    (∀ st sl c, Accepted h (.go st sl) s → chanOf st sl = some c → match s.entryOf c with
      | none => exec (.go h st sl) s = .next (finish a (reply h 0x30 .notFound 0 [] a))
      | some e =>
        (e.state ≠ .proposed → exec (.go h st sl) s = .next (finish a (reply h 0x30 .busy 0 [byteOf e.state.code] a)))
        ∧ ∀ f, e.state = .proposed → e.target = some f → e.origin ≠ .passed →
          exec (.go h st sl) s = .next (finish a (replyOk h 0x30 (be16 f ++ [byteOf (e.attempts + 1)])
            (sendTune c f (a.putEntry { e with
              state := .sent, attempts := e.attempts + 1, replyDl := some (a.now + 300), lockDl := none, propDl := none })))))
    ∧ (∀ st sl, Accepted h (.go st sl) s → chanOf st sl = none →
      exec (.go h st sl) s = .next (finish a (reply h 0x30 .badRequest 0 [] a)))
    ∧ (∀ st sl, Accepted h (.drop st sl) s → chanOf st sl = none →
      exec (.drop h st sl) s = .next (finish a (reply h 0x31 .badRequest 0 [] a)))
    ∧ (∀ st sl c, Accepted h (.drop st sl) s → chanOf st sl = some c → exec (.drop h st sl) s = .next (finish a
      (match s.entryOf c with
        | none => reply h 0x31 .notFound 0 [] a
        | some e => match e.state with
          | .proposed => replyOk h 0x31 [1#8] (notifyExpired e .dropped ((release c a).dropEntry c))
          | .searching => replyOk h 0x31 [0#8] ((withdrawMove c a).dropEntry c)
          | .sent => reply h 0x31 .busy 0 [2#8] a
          | .locking => reply h 0x31 .busy 0 [3#8] a)))
    ∧ (Accepted h .goAll s →
      let es := s.table.filter fun e => e.state = .proposed
      exec (.goAll h) s = .next (finish a (replyOk h 0x32 (byteOf es.length
          :: es.flatMap fun e => [byteOf e.chan.stage.val, byteOf e.chan.slot.val] ++ o16 e.target)
        (es.foldl (fun s e => sendEntry e.chan s) a))))

/-- SURVEY on an UP, STANDING stage stores the survey with its values clamped and its deadline, returns SUSPECT watches on
a SWEEP_HIT level 1 to ARMED, zeroes the runs of SWEEP_HIT levels and of return watches of its stage's channels, answers,
and orders the scanner. On a stage that is DOWN or under survey it is BUSY. That the reply stands before the SWEEP_SET is
the model's choice (log 42). -/
def Obligations.SurveysBeginAtOnce : Prop :=
  ∀ (h : ReqHdr) (s : State) (st start k n p w : Nat) (z : Stage), Accepted h (.survey st start k n p w) s →
    stageOf st = some z → start ≤ 8191 → let a := arrived h.dt h.port s
    ((s.surveys[z].isSome = true ∨ (a.port (.stage z)).up = false) →
      exec (.survey h st start k n p w) s = .next (finish a (reply h 0x33 .busy 0 [] a)))
    ∧ (s.surveys[z] = none → (a.port (.stage z)).up = true →
      let time : Nat := if w = 0 then 10000 else max 1000 (min 60000 w)
      let v : Survey := ⟨start, max 1 (min 8 k), max 1 (min 96 n), max 1 (min 16 p), a.now + time, 0⟩
      ∃ t, exec (.survey h st start k n p w) s = .next (finish a (sendSurvey z v (replyOk h 0x33
          (be16 start ++ [byteOf v.step, byteOf v.count, byteOf v.passes] ++ be32 time) t)))
        ∧ t.surveys = s.surveys.set z (some v)
        ∧ (∀ c, c.stage ≠ z → t.chan c = s.chan c)
        ∧ (∀ c, c.stage = z → (s.chan c).profile = none → t.chan c = { s.chan c with
            returnWatch := (s.chan c).returnWatch.map fun x => { x with run := 0 } })
        ∧ (∀ c i, c.stage = z → (s.chan c).profile = some i →
          let q := s.profiles[i]
          let y := (s.chan c).watch
          t.chan c = { s.chan c with
            returnWatch := (s.chan c).returnWatch.map fun x => { x with run := 0 }
            watch := if y.st = .suspect ∧ q.level1.kind = .sweepHit then ⟨.armed, 0, 0, none⟩
              else if y.st = .armed ∨ y.st = .suspect then { y with
                run1 := if q.level1.kind = .sweepHit then 0 else y.run1
                run2 := if q.level2.kind = .sweepHit then 0 else y.run2 }
              else y })
        ∧ t = { a with surveys := t.surveys, chans := t.chans })

/-- RESTART ends all work: no entry, item, held frame, note, request, deferred write, commit, wait or survey stays, the
stage counters are 0, every pool entry is UNCHECKED with run 0 and no mark, and every channel keeps its frequency, its
history and its attributes and has no settle deadline and no return watch. The plan's rules, tables, generations, staging
of idle stages and site settings stay. A channel of a SENT or LOCKING entry or a PUSH item becomes DARK from MOVING with
its target kept, one of a PROPOSED entry returns to its return state, and any other stays where it is. Where every move had
its owner, no channel is MOVING. The latches are those of the notices the restart itself sends. The deferred requests, and
the operator requests and CHECKs that waited, are answered BUSY after the reply; the order among these is the model's
(log 42). -/
def Obligations.RestartEndsAllWork : Prop :=
  ∀ (h : ReqHdr) (s : State), Accepted h .restart s → ∃ t, exec (.restart h) s = .next t
    ∧ t.table = [] ∧ t.backlog = [] ∧ t.heldFrames = [] ∧ t.notes = []
    ∧ t.engine.moveQ = [] ∧ t.engine.admQ = [] ∧ t.engine.comQ = [] ∧ t.engine.deferred = []
    ∧ t.commits = Vector.replicate 6 .idle ∧ t.surveys = Vector.replicate 6 none
    ∧ t.counters = Vector.replicate 6 ⟨0, 0, 0, 0, 0, 0, 0⟩ ∧ t.heldDiscards = min s.heldFrames.length 255
    ∧ (∀ g : Group, t.pool g = (s.pool g).map fun e => { e with state := .unchecked, run := 0, inSearch := false })
    ∧ (∀ c, (t.chan c).assigned = (s.chan c).assigned ∧ (t.chan c).prior = (s.chan c).prior
      ∧ (t.chan c).history = (s.chan c).history ∧ (t.chan c).cls = (s.chan c).cls
      ∧ (t.chan c).priority = (s.chan c).priority ∧ (t.chan c).profile = (s.chan c).profile
      ∧ (t.chan c).pinned = (s.chan c).pinned ∧ (t.chan c).offPlan = (s.chan c).offPlan
      ∧ (t.chan c).lastReport = (s.chan c).lastReport ∧ (t.chan c).moveCount = (s.chan c).moveCount
      ∧ (t.chan c).settle = none ∧ (t.chan c).returnWatch = none
      ∧ (t.chan c).watch = ⟨if ((t.chan c).state = .active ∨ (t.chan c).state = .held)
          ∧ s.liveProfile (s.chan c).profile = true then .armed else .off, 0, 0, none⟩)
    ∧ (∀ c : Chan, s.commitRec c.stage = none → t.staged c = s.staged c)
    ∧ t.rules = s.rules ∧ t.gens = s.gens ∧ t.excl = s.excl ∧ t.couple = s.couple ∧ t.rels = s.rels ∧ t.caps = s.caps
    ∧ t.arm = s.arm ∧ t.settings = s.settings ∧ t.now = s.now + h.dt
    ∧ (Placed s → ∀ c, (t.chan c).state ≠ .moving)
    ∧ (∀ c : Chan, let r := s.chan c
      let push : Prop := ∃ i ∈ s.backlog, i.chan = c ∧ i.want = .push
      let sent : Prop := ∃ e ∈ s.table, e.chan = c ∧ (e.state = .sent ∨ e.state = .locking)
      let proposed : Prop := ∃ e ∈ s.table, e.chan = c ∧ e.state = .proposed
      (¬ proposed → (sent ∨ push) → r.state = .moving → (t.chan c).state = .dark ∧ (t.chan c).darkFrom = some .moving
        ∧ (t.chan c).pending = r.pending ∧ (t.chan c).ret = none ∧ (t.chan c).heldCause = none)
      ∧ (∀ y, proposed → ¬ (sent ∨ push) → r.state = .moving → r.ret = some y → (t.chan c).state = y.state
        ∧ (t.chan c).pending = none ∧ (t.chan c).ret = none ∧ (t.chan c).heldCause = r.heldCause
        ∧ (t.chan c).darkFrom = r.darkFrom)
      ∧ (¬ proposed → ¬ (sent ∨ push) → (t.chan c).state = r.state ∧ (t.chan c).pending = r.pending
        ∧ (t.chan c).ret = r.ret ∧ (t.chan c).heldCause = r.heldCause ∧ (t.chan c).darkFrom = r.darkFrom))
    ∧ (∀ k : NoticeKind, t.latches[k.idx.castSucc] = true ↔ (k = .moveFailed ∧ s.table ≠ [])
      ∨ (k = .commitDone ∧ ∃ z, (s.commitRec z).isSome = true) ∨ (k = .surveyDone ∧ ∃ z : Stage, (s.surveys[z]).isSome = true))
    ∧ t.latches[15] = false
    ∧ let a := arrived h.dt h.port s
      let waited : List (ReqHdr × Nat × List Byte) := s.engine.deferred.map (fun d => (d.hdr, d.req.code, []))
        ++ s.engine.admQ.filterMap fun
          | .oper o => some (o.hdr, o.code, if o.code = 4 then encAttrs (s.chan o.chan) else [])
          | .whatIf g _ _ => some (g, 0x0C, [])
          | .guard .. | .post .. => none
      ∀ p, ((waited.foldl (fun u x => reply x.1 x.2.1 .busy 0 x.2.2 u) (replyOk h 0x3F [] a)).port p).tx <+: (t.port p).tx

/-- POWER_ON places every piece of state at its power-on value: every channel UNUSED, every port DOWN, no entry in any
table, list or queue, and the rules, groups, profiles, spans, modes and enables as their rules give them. The commands
that wait and the SIGDET inputs stand outside the device (log 4, log 31). -/
def Obligations.PowerOnGivesItsValues : Prop :=
  ∀ s : State, exec .powerOn s = .next
    { pending := s.pending, now := 0, freeCount := 0, originSeq := 0
      trunk := ⟨false, none, s.trunk.sigdet, []⟩
      stagePorts := s.stagePorts.map fun p => ⟨false, none, p.sigdet, []⟩
      chans := Vector.replicate 192 ⟨.unused, none, none, none, none, none, none, [], .low, .normal, none, false, false,
        false, none, none, ⟨.off, 0, 0, none⟩, none, 0⟩
      caps := Vector.replicate 192 none
      couple := Vector.replicate 6 0, rels := Vector.replicate 6 .near, excl := [], gens := Vector.replicate 4 0
      spacing := ⟨12, 2, 4, 2, 2, 2, 1⟩
      opts := Vector.replicate 4 ⟨false, false, true, 3, true, 20, 3⟩
      settlePeriod := 10000, proposalTimeout := 20000
      profiles := (Vector.replicate 8 ⟨⟨.none, 30, 2, 0⟩, ⟨.dropout, 3, 1, 0⟩, .sequence, 3000, .move, true, 10⟩).set 0
        ⟨⟨.foreign, 30, 2, 0⟩, ⟨.dropout, 3, 1, 0⟩, .sequence, 3000, .move, true, 10⟩
      pools := Vector.replicate 4 [], engine := ⟨[], [], [], [], none, []⟩
      gate := Vector.replicate 6 .guard, heldFrames := [], notes := [], table := [], backlog := []
      staging := Vector.replicate 192 .keep, arm := Vector.replicate 6 false, commits := Vector.replicate 6 .idle
      confirm := false, lock := false, spans := Vector.replicate 6 ⟨0, 4, 96⟩, surveys := Vector.replicate 6 none
      enables := Vector.replicate 15 true, latches := Vector.replicate 16 false
      counters := Vector.replicate 6 ⟨0, 0, 0, 0, 0, 0, 0⟩, trunkDiscards := 0, heldDiscards := 0 }

/-- The first frame on a DOWN port brings it UP with its silence timer running; a stage then has its four racks and its
scanner ordered, is noticed with its number of DARK channels, and begins the wait of an armed stage. A return of line
signal sets the input of its port and brings no port UP; a loss that finds the port DOWN or the signal absent clears the
input. A loss, or the end of silence, takes an UP trunk DOWN: its timer stops, and each frame that waited there is
discarded and counted. Where the clock stands at the end of silence is the model's choice (log 1), and so is the close of
the UP transition before the frame that makes it is read (log 9). -/
def Obligations.PortsGoUpAndDown : Prop :=
  ∀ (s : State),
    (∀ dt p, (s.port p).up = false → let b := passTime dt s
      let u := b.setPort p { b.port p with up := true, silence := some (b.now + 3000) }
      arrive dt p s = finish b (match p with
        | .trunk => u
        | .stage z => beginWait z (notify .stageUp z.val 255 [byteOf (u.darkCount z)]
          (sendStanding z (sendQuery z 3 (sendQuery z 2 (sendQuery z 1 (sendQuery z 0 u))))))))
    ∧ (∀ dt p, let b := passTime dt s
      exec (.lineSignalReturn dt p) s = .next (b.setPort p { b.port p with sigdet := true })
      ∧ (((s.port p).up = false ∨ (s.port p).sigdet = false) →
        exec (.lineSignalLoss dt p) s = .next (b.setPort p { b.port p with sigdet := false })))
    ∧ (s.trunk.up = true → s.trunkDiscards ≤ 255 →
      (∀ dt, s.trunk.sigdet = true → let b := passTime dt s
        exec (.lineSignalLoss dt .trunk) s = .next (finish b { b with
          trunk := ⟨false, none, false, []⟩, trunkDiscards := min (b.trunkDiscards + b.trunk.tx.length) 255 }))
      ∧ ∀ d, s.trunk.silence = some d → let b := passTime (d - s.now) s
        exec (.silenceTimerExpiry .trunk) s = .next (finish b { b with
          trunk := ⟨false, none, s.trunk.sigdet, []⟩, trunkDiscards := min (b.trunkDiscards + b.trunk.tx.length) 255 }))

/-- After a loss of line signal, or the end of silence, on the UP port of a stage, the port is DOWN with nothing waiting,
no channel of the stage is ACTIVE, MOVING or HELD, its capabilities are absent, and it has no entry, item, held frame,
note, commit, wait or survey. A channel that was ACTIVE or HELD is DARK from that state with its frequency kept, whether or
not a search ran for it. One that was MOVING is DARK from MOVING with its pending target kept, unless its move was
PROPOSED: then its target is released first, and it goes on from its return state. Others stay as they were. The change sends,
in this order: MOVE_FAILED with reason STAGE_DOWN for each entry in SENT or LOCKING and PROPOSAL_EXPIRED with cause
STAGE_DOWN for each PROPOSED one, both in table order; for each held frame, in the order of the buffer, its refusal GATE_BUSY,
its count and its notice; COMMIT_DONE and SURVEY_DONE with cause STAGE_DOWN; and STAGE_DOWN with its cause, signal loss 0 or
silence 1, and the number of channels now DARK. The held frames' checks are withdrawn. The order of the two notices of moves
(log 8), the layouts (log 15), the result byte of a refusal (log 20) and the order of its report and its notice (log 34)
are the model's. -/
def Obligations.LostStagesGoDark : Prop :=
  ∀ (z : Stage) (s : State) (i : Instr) (b : State) (line : Bool) (cause : Byte), (s.port (.stage z)).up = true →
    ((∃ dt, i = .lineSignalLoss dt (.stage z) ∧ (s.port (.stage z)).sigdet = true ∧ b = passTime dt s ∧ line = false
        ∧ cause = 0#8)
      ∨ (∃ d, i = .silenceTimerExpiry (.stage z) ∧ (s.port (.stage z)).silence = some d ∧ b = passTime (d - s.now) s
        ∧ line = (s.port (.stage z)).sigdet ∧ cause = 1#8)) →
    ∃ t, exec i s = .next t
    ∧ (t.port (.stage z)).up = false ∧ (t.port (.stage z)).silence = none ∧ (t.port (.stage z)).tx = []
    ∧ (∀ c : Chan, c.stage = z →
      ((t.chan c).state = .unused ∨ (t.chan c).state = .parked ∨ (t.chan c).state = .dark) ∧ t.cap c = none
      ∧ t.entryOf c = none ∧ t.itemOf c = none ∧ t.heldOf c = none ∧ t.noteOf c = none
      ∧ (t.chan c).assigned = (s.chan c).assigned
      ∧ let r := s.chan c
        let x := t.chan c
        let proposed : Prop := ∃ e ∈ s.table, e.chan = c ∧ e.state = .proposed
        ((r.state = .active ∨ r.state = .held) → x.state = .dark
          ∧ x.darkFrom = (if r.state = .active then some .active else some .held)
          ∧ x.heldCause = r.heldCause ∧ x.watch = ⟨.off, 0, 0, none⟩)
        ∧ (r.state = .moving → ¬ proposed → x.state = .dark ∧ x.darkFrom = some .moving ∧ x.pending = r.pending
          ∧ x.ret = none ∧ x.heldCause = none ∧ x.watch = ⟨.off, 0, 0, none⟩)
        ∧ (∀ y, r.state = .moving → proposed → r.ret = some y → x.pending = none ∧ x.ret = none
          ∧ x.heldCause = r.heldCause ∧ x.watch = ⟨.off, 0, 0, none⟩ ∧ match y with
            | .active => x.state = .dark ∧ x.darkFrom = some .active
            | .held => x.state = .dark ∧ x.darkFrom = some .held
            | .parked => x.state = .parked ∧ x.darkFrom = r.darkFrom)
        ∧ ((r.state = .unused ∨ r.state = .parked ∨ r.state = .dark) → x.state = r.state ∧ x.darkFrom = r.darkFrom
          ∧ (¬ proposed → x.pending = r.pending)))
    ∧ t.commits[z] = .idle ∧ t.surveys[z] = none
    ∧ let es := s.table.filter fun e => e.chan.stage = z
      let failed : State → State := fun w => (es.filter fun e => e.state = .sent || e.state = .locking).foldl (fun w e =>
        notifyChan .moveFailed e.chan ([8#8, byteOf e.origin.code] ++ o16 e.src ++ o16 e.target
          ++ [byteOf e.attempts, 255#8] ++ eAddr e.orig) w) w
      let expired : State → State := fun w => (es.filter fun e => e.state = .proposed).foldl (fun w e =>
        notifyChan .proposalExpired e.chan ([3#8, byteOf e.origin.code] ++ o16 e.src ++ o16 e.target) w) w
      let refused : State → State := fun w => (s.heldFrames.filter fun k => k.chan.stage = z).foldl (fun w k =>
        notifyChan .admissionRefused k.chan ([18#8, 0#8] ++ be16 k.target
            ++ [k.frame.src.zone, k.frame.src.unit, 255#8, 255#8, 255#8, 255#8])
          (bumpStage z .refusals (route ⟨k.frame.src, ⟨6#8, 1#8⟩, 0x21#8, k.frame.seq,
            [byteOf (k.chan.slot.val % 8)] ++ be16 k.target ++ [1#8, 18#8, 0#8]⟩ w))) w
      let aborted : State → State := fun w => match s.commitRec z with
        | some r => let x := s.abortedRec z r
          notify .commitDone z.val 255 ([byteOf x.trigger.code, 1#8] ++ encCounts x ++ encFailed x.failedList) w
        | none => w
      let surveyed : State → State := fun w => match s.surveys[z] with
        | some v => notify .surveyDone z.val 255 [2#8, byteOf v.passes, byteOf (min v.frames 255)] w
        | none => w
      let dark := (stageChans z).filter fun c => let r := s.chan c
        r.state = .active || r.state = .held || r.state = .dark
          || (r.state = .moving && !(r.ret = some .parked && es.any fun e => e.chan = c && e.state = .proposed))
      let w := notify .stageDown z.val 255 [cause, byteOf dark.length]
        (surveyed (aborted (refused (expired (failed (b.setPort (.stage z) ⟨false, none, line, []⟩))))))
      ∃ u, t = finish b u ∧ u.trunk = w.trunk ∧ u.stagePorts = w.stagePorts ∧ u.trunkDiscards = w.trunkDiscards
        ∧ u.counters = w.counters ∧ u.originSeq = w.originSeq ∧ u.latches = w.latches
        ∧ u.heldFrames = (s.heldFrames.filter fun k => k.chan.stage ≠ z)
        ∧ u.engine.admQ = s.engine.admQ.filter fun q => match q with
          | .guard c _ => !(c.stage = z && s.heldFrames.any fun k => k.chan = c)
          | _ => true

/-! ## Passing frames (R66 to R70, R75, R82, R83, R99, R114 to R117, R125, R147 to R150) -/

/-- A chain frame that passes is handed to the port of its destination first and then read; from the trunk it is handed on
unread. A TUNE for a rack goes to the Gate instead. The order of the two is the model's (log 11). -/
def Obligations.PassingFramesAreHandedOnThenRead : Prop :=
  ∀ (i : Instr) (h : FrameHdr) (p : Payload) (out : Port) (s : State), chainOf i = some (h, p) →
    ((∀ d, i ≠ .tune h d) ∨ out = .trunk ∨ 4 ≤ h.dst.unit.toNat) →
    (∀ z, Passing h z out s →
      exec i s = .next (readPassing z h.src p (handTo out (chainFrame h p) (arrived h.dt h.port s))))
    ∧ (h.port = .trunk → s.trunk.up = true → sourceOk .trunk h.src = true → h.dst ≠ deviceAddr →
      portOfZone h.dst.zone = some out →
      exec i s = .next (handTo out (chainFrame h p) (arrived h.dt h.port s)))

/-- What a rack's frames say of its receiver, on their way past the device or addressed to it. Each report of TELEMETRY is
read in turn, but for one whose receiver is above 7 or whose index is above 8191, which is skipped: it becomes the last report,
and with tuning clear it resolves a DARK channel, to its frequency, its pending target or a third, decides a move in LOCKING,
fulfils a track note, is adopted off plan, or is evidence for the watch. A TUNE_REPORT for the target of a SENT entry starts the lock wait or ends the send; for the target of a track note it fulfils
or removes it. The CAPABILITY entries are recorded in turn, so that the last one recorded stands; one with its receiver above
7, or fitted with a step other than 1, 2, 4 or an index above 8191, is skipped and its position keeps what it held. An entry
that is not fitted ends its receiver's waiting SEARCH or RETURN item, though a later entry make it fitted again. OFF_PLAN
follows an entry that does not contain the assigned frequency where the one before contained it or was absent. No channel,
pool or generation changes. A chain frame for the device that its source does not send is
counted as misaddressed. That each report closes as a change of its own is the model's reading (log 9); so are what MOVED
carries at a resolution (log 19), the layouts of the notices (log 15), that of OFF_PLAN with cause DARK among them (log 53),
the range and step an entry that is not fitted keeps (log 51), the evaluation of the report that fulfils a note (log 22),
the notice of a flag set just before a drop (log 8) and the count of a frame for the device (log 32). -/
def Obligations.FramesAreReadForTheirReceiver : Prop :=
  (∀ (z : Stage) (u : Fin 4) (n : Nat) (hn : n < 8) (s : State),
    let c := rackChan z u n hn
    let g := s.groupOf c
    let r := s.chan c
    let fulfilled : Nat → State → State := fun f t => if r.settled = true ∧ s.entryOf c = none ∧ r.assigned ≠ some f
      then queuePost c f .track (adopt c f .track { t with notes := s.notes.filter fun k => k.chan ≠ c })
      else { t with notes := s.notes.filter fun k => k.chan ≠ c }
    let src : Addr := ⟨byteOf z.val, byteOf u.val⟩
    (∀ x xs, readPassing z src (.telemetry (x :: xs)) s =
      readPassing z src (.telemetry xs) (readPassing z src (.telemetry [x]) s))
    ∧ (∀ x : Report, (7 < x.receiver ∨ 8191 < x.tuned) → readPassing z src (.telemetry [x]) s = s)
    ∧ (∀ x : Report, x.receiver = n → x.tuned ≤ 8191 →
      let b := s.setChan c { s.chan c with
        lastReport := some ⟨x.tuned, min x.level 100, x.pilot, x.squelch, x.busy, s.now⟩ }
      (x.busy = true → readPassing z src (.telemetry [x]) s = finish s b)
      ∧ (x.busy = false → (s.chan c).state ≠ .dark → ∀ e, s.entryOf c = some e → e.state = .locking →
        readPassing z src (.telemetry [x]) s = finish s
          (if e.target = some x.tuned then moveDone e b
            else if e.origin = .passed ∨ 3 ≤ e.attempts then moveFail e .wrongFrequency none b
            else if e.spoil = true then moveFail e .spoiled none b else sendEntry c b))
      ∧ (x.busy = false → (s.chan c).state = .dark → (s.chan c).assigned = some x.tuned →
        ∃ t, readPassing z src (.telemetry [x]) s = finish s (tryStart z t)
          ∧ t.chan c = { b.chan c with
            pending := none, darkFrom := none
            state := if (s.chan c).darkFrom = some .held then .held else .active
            watch := ⟨if s.liveProfile (s.chan c).profile = true then .armed else .off, 0, 0, none⟩
            exclConflict := (t.conflictOf c).isSome }
          ∧ (∀ d, d ≠ c → t.chan d = s.chan d) ∧ t = { s with chans := t.chans })
      ∧ (x.busy = false → ((s.chan c).state = .active ∨ (s.chan c).state = .held) → s.entryOf c = none →
        s.noteOf c = none → (s.chan c).assigned ≠ some x.tuned →
        readPassing z src (.telemetry [x]) s = finish s (queuePost c x.tuned .offPlan
          (notifyOffPlan c 0 x.tuned (s.chan c).assigned (adopt c x.tuned .offPlan b))))
      ∧ (x.busy = false → r.state = .dark → r.assigned ≠ some x.tuned → r.pending = some x.tuned →
        let t := complete c x.tuned false b
        readPassing z src (.telemetry [x]) s = finish s (tryStart z (notifyChan .moved c
          ([255#8] ++ o16 r.assigned ++ be16 x.tuned ++ [255#8, 0#8, 0#8, 255#8, 255#8])
          { t.setChan c { t.chan c with
              settle := none, returnWatch := none
              watch := ⟨if s.liveProfile r.profile = true then .armed else .off, 0, 0, none⟩ } with
            pools := match r.assigned with
              | some v => if (s.opts[g]).recycle = true ∧ (s.pool g).length < 16 ∧ (∀ y ∈ s.pool g, y.freq ≠ v)
                  ∧ t.occupiedIn g v = false
                then s.pools.set g (s.pool g ++ [⟨v, .unchecked, 0, none, false⟩]) else s.pools
              | none => s.pools })))
      ∧ (x.busy = false → r.state = .dark → r.assigned ≠ some x.tuned → r.pending ≠ some x.tuned →
        let t := queuePost c x.tuned .dark (notifyOffPlan c 1 x.tuned r.assigned (adopt c x.tuned .dark b))
        readPassing z src (.telemetry [x]) s = finish s
          (if r.exclConflict = false ∧ (t.chan c).exclConflict = true ∧ ((tryStart z t).chan c).exclConflict = false
            then tryStart z (match t.conflictOf c with
              | some (f, y) => notifyChan .exclusionConflict c (be16 f ++ be16 y.first ++ be16 y.last) t
              | none => t)
            else tryStart z t))
      ∧ (x.busy = false → r.state ≠ .dark → (∀ e, s.entryOf c = some e → e.state ≠ .locking) →
        let ev := reportEvidence (min x.level 100) x.dropouts x.pilot
        (∀ k, s.noteOf c = some k → k.target = x.tuned →
          readPassing z src (.telemetry [x]) s = finish s (evaluate c ev (fulfilled x.tuned b)))
        ∧ ((∀ k, s.noteOf c = some k → k.target ≠ x.tuned) →
          (s.entryOf c ≠ none ∨ r.assigned = some x.tuned ∨ r.state = .unused ∨ r.state = .parked ∨ r.state = .moving) →
          readPassing z src (.telemetry [x]) s = finish s (evaluate c ev b))
        ∧ ((∀ k, s.noteOf c = some k → k.target ≠ x.tuned) → (r.state = .active ∨ r.state = .held) →
          s.entryOf c = none → r.assigned ≠ some x.tuned →
          readPassing z src (.telemetry [x]) s = finish s (queuePost c x.tuned .offPlan
            (notifyOffPlan c 0 x.tuned r.assigned
              (adopt c x.tuned .offPlan { b with notes := s.notes.filter fun k => k.chan ≠ c }))))))
    ∧ (∀ e f x y, s.entryOf c = some e → e.state = .sent → e.target = some f → s.noteOf c = none →
      readPassing z src (.tuneReport ⟨n, f, 0, x, y⟩) s = finish s
        (s.putEntry { e with state := .locking, replyDl := none, lockDl := some (s.now + 2000) })
      ∧ ∀ v, v ≠ 0 → readPassing z src (.tuneReport ⟨n, f, v, x, y⟩) s = finish s
        (if e.origin = .passed ∨ 3 ≤ e.attempts then moveFail e .rackRejected (some x) s
          else if e.spoil = true then moveFail e .spoiled none s else sendEntry c s))
    ∧ (∀ f v x y, (∀ e, s.entryOf c = some e → e.state ≠ .sent ∨ e.target ≠ some f) →
      ((∀ k, s.noteOf c = some k → k.target ≠ f) → readPassing z src (.tuneReport ⟨n, f, v, x, y⟩) s = finish s s)
      ∧ ∀ k, s.noteOf c = some k → k.target = f → readPassing z src (.tuneReport ⟨n, f, v, x, y⟩) s = finish s
        (if v = 0 then fulfilled f s else { s with notes := s.notes.filter fun k => k.chan ≠ c }))
    ∧ ∀ es : List CapReport, (∀ e ∈ es, e.fitted ≤ 1) →
      let has : Cap → Nat → Bool := fun k f => k.fitted && decide (k.low ≤ f ∧ f ≤ k.high ∧ f % k.step = 0)
      let skipped : CapReport → Bool := fun e => decide (7 < e.receiver ∨ (e.fitted = 1 ∧
        (¬ (e.step = 1 ∨ e.step = 2 ∨ e.step = 4) ∨ 8191 < e.low ∨ 8191 < e.high)))
      let position : CapReport → Chan := fun e => rackChan z u (e.receiver % 8) (Nat.mod_lt _ (by decide))
      let carried : CapReport → Cap := fun e => ⟨decide (e.fitted = 1), e.low, e.high, e.step⟩
      let record : State → CapReport → State := fun t e =>
        let d := position e
        let v : State := { t.setCap d (some (carried e)) with
          backlog := t.backlog.filter fun i => e.fitted = 1 || i.chan ≠ d || i.want = .push }
        let before : Nat → Bool := fun f => match t.cap d with
          | some k => has k f
          | none => true
        match (t.chan d).assigned with
        | some f => if has (carried e) f = false ∧ before f = true
          then notifyChan .offPlan d ([2#8] ++ be16 f ++ be16 e.low ++ be16 e.high) v else v
        | none => v
      ∃ t, readPassing z src (.capability es) s = finish s t
        ∧ t = (es.filter fun e => !skipped e).foldl record s
        ∧ (∀ d, t.cap d = match ((es.filter fun e => !skipped e && position e = d).getLast?) with
          | some e => some (carried e)
          | none => s.cap d)
        ∧ t.backlog = (s.backlog.filter fun i => i.want = .push || !es.any fun e =>
          !skipped e && decide (e.fitted = 0 ∧ position e = i.chan))
        ∧ t = { s with
          caps := t.caps, backlog := t.backlog, latches := t.latches, originSeq := t.originSeq, trunk := t.trunk
          trunkDiscards := t.trunkDiscards })
  ∧ ∀ (i : Instr) (h : FrameHdr) (p : Payload) (s : State), chainOf i = some (h, p) → (s.port h.port).up = true →
    sourceOk h.port h.src = true → h.dst = deviceAddr → let a := arrived h.dt h.port s
    let readable : Bool := match p with
      | .telemetry _ | .capability _ | .tuneReport _ => decide (h.src.unit.toNat < 4)
      | .sweep _ => decide (h.src.unit.toNat = 4)
      | _ => false
    (∀ z, h.port = .stage z → readable = true → exec i s = .next (readPassing z h.src p a))
    ∧ ((h.port = .trunk ∨ readable = false) → exec i s = .next (countDiscard h.port .misaddressed a))

/-- A standing sweep frame is offered to the pool of the scanner's group and then, channel by channel, to the return
watch, the pending target and the watch; during a survey it is evidence of nothing. A covered pool entry is DIRTY at a
level at or above the floor, counts a clean frame while DIRTY, and takes the highest level; a covered return watch counts
its clean frames up to its dwell and joins the backlog with want RETURN there, and one at or above the floor starts again
without its item. A level at or above the floor on a pending target spoils it: a SENT or LOCKING entry and a PUSH item are
marked; a proposal expires, and its search goes on without that target, which goes back to its pool as DIRTY, or its return
is skipped. A frame of the other sort is taken without effect, and the last frame of a survey ends it. The place of the
resumed request at the tail of its queue is the model's choice (log 23), the layouts of the notices too (log 15), and the
count of survey frames held at 255 (log 43). Sample i of a frame lies at its start and i steps, its level is taken as at most
100, and it is dropped beyond index 8191. That two requests spoiled by one frame rejoin in slot order is the model's too
(log 6). -/
def Obligations.SweepsJudgePoolsAndReturns : Prop :=
  (∀ d : SweepData, samplesOf d = (List.range d.levels.length).filterMap fun i =>
    if d.start + i * d.step ≤ 8191 then some (d.start + i * d.step, min (d.levels.getD i 0) 100) else none) ∧
  (∀ (z : Stage) (d : SweepData) (s : State), d.survey = false → s.surveys[z] = none →
    readPassing z ⟨byteOf z.val, 4#8⟩ (.sweep d) s = finish s ((stageChans z).foldl
      (fun s c => sweepHit c (samplesOf d) (sweepSpoil c (samplesOf d) (sweepReturn c (samplesOf d) s)))
      { s with pools := s.pools.set s.couple[z] ((s.pool s.couple[z]).map
        (PoolEntry.sweep (s.opts[s.couple[z]]).floor (s.opts[s.couple[z]]).dwell (samplesOf d))) }))
  ∧ (∀ (z : Stage) (d : SweepData) (v : Survey) (s : State), s.surveys[z] = some v →
    readPassing z ⟨byteOf z.val, 4#8⟩ (.sweep d) s = finish s
      (if d.survey = false then s
        else if d.lastPass = false then { s with surveys := s.surveys.set z (some { v with frames := v.frames + 1 }) }
        else notify .surveyDone z.val 255 [0#8, byteOf v.passes, byteOf (min (v.frames + 1) 255)]
          (sendStanding z { s with surveys := s.surveys.set z none })))
  ∧ (∀ (z : Stage) (d : SweepData) (s : State), d.survey = true → s.surveys[z] = none →
    readPassing z ⟨byteOf z.val, 4#8⟩ (.sweep d) s = finish s s)
  ∧ (∀ (floor dwell : Nat) (xs : List (Nat × Nat)) (e : PoolEntry),
    let ls := (xs.filter fun x => x.1 ≤ e.freq + 1 && e.freq ≤ x.1 + 1).map (·.2)
    let e' := e.sweep floor dwell xs
    (ls = [] → e' = e)
    ∧ ((∃ l ∈ ls, floor ≤ l) → e' = { e with state := .dirty, run := 0, level := e'.level })
    ∧ (ls ≠ [] → (∀ l ∈ ls, l < floor) →
      e' = { e with
        level := e'.level
        state := if e.state = .dirty ∧ dwell ≤ e.run + 1 then .unchecked else e.state
        run := if e.state = .dirty then (if dwell ≤ e.run + 1 then 0 else e.run + 1) else e.run })
    ∧ (ls ≠ [] → ∃ l ∈ ls, e'.level = some l ∧ ∀ m ∈ ls, m ≤ l))
  ∧ (∀ (c : Chan) (xs : List (Nat × Nat)) (w : ReturnWatch) (s : State), (s.chan c).returnWatch = some w →
    let ls := (xs.filter fun x => x.1 ≤ w.freq + 1 && w.freq ≤ x.1 + 1).map (·.2)
    let floor := (s.opts[s.groupOf c]).floor
    let runs : Nat → State := fun n => s.setChan c { s.chan c with returnWatch := some { w with run := n } }
    (ls = [] → sweepReturn c xs s = s)
    ∧ ((∃ l ∈ ls, floor ≤ l) → sweepReturn c xs s =
      { runs 0 with backlog := s.backlog.filter fun i => !(i.chan = c && i.want = .ret) })
    ∧ (ls ≠ [] → (∀ l ∈ ls, l < floor) →
      let n := if w.run = w.dwell then w.dwell else w.run + 1
      sweepReturn c xs s = if n = w.dwell ∧ s.movable c = true ∧ s.entryOf c = none ∧ s.itemOf c = none
        then { runs n with backlog := s.backlog ++ [⟨c, .ret, s.now, false⟩] } else runs n))
  ∧ (∀ (c : Chan) (xs : List (Nat × Nat)) (s : State), let r := s.chan c
    let floor := (s.opts[s.groupOf c]).floor
    let high : Nat → Nat → Prop := fun f l => floor ≤ l ∧ ∃ k, (k, l) ∈ xs ∧ k ≤ f + 1 ∧ f ≤ k + 1
    ((s.chan c).returnWatch = none → sweepReturn c xs s = s)
    ∧ ((∀ f, r.state = .moving → r.pending = some f → ∀ l, ¬ high f l) → sweepSpoil c xs s = s)
    ∧ ∀ f l, r.state = .moving → r.pending = some f → high f l → (∀ m, high f m → m ≤ l) →
      sweepSpoil c xs s = spoil c f l s)
  ∧ ∀ (c : Chan) (f l : Nat) (s : State),
    let g := s.groupOf c
    (s.entryOf c = none → spoil c f l s = { s with
      backlog := s.backlog.map fun i => if i.chan = c ∧ i.want = .push then { i with spoil := true } else i })
    ∧ ∀ e, s.entryOf c = some e →
      let put : (Entry → Entry) → State → State := fun w t =>
        { t with table := s.table.map fun x => if x.chan = c then w e else x }
      let told := notifyChan .proposalExpired c ([2#8, byteOf e.origin.code] ++ o16 e.src ++ o16 e.target) (release c s)
      let opened : Entry → Entry := fun e => { e with state := .searching, target := none, propDl := none, fromPool := false }
      let n : State := { put opened told with
        pools := if e.fromPool = true ∧ (s.pool g).length < 16 ∧ (∀ x ∈ s.pool g, x.freq ≠ f) ∧ told.occupiedIn g f = false
          then s.pools.set g (s.pool g ++ [⟨f, .dirty, 0, some l, false⟩]) else s.pools }
      (e.state = .searching → spoil c f l s = s)
      ∧ ((e.state = .sent ∨ e.state = .locking) → spoil c f l s = put (fun e => { e with spoil := true }) s)
      ∧ (e.state = .proposed → e.origin ≠ .auto → spoil c f l s = returnSkip c true told)
      ∧ (e.state = .proposed → e.origin = .auto → 16 ≤ e.search.spoiled.length →
        spoil c f l s = noCandidate c e.search n)
      ∧ (e.state = .proposed → e.origin = .auto → e.search.spoiled.length < 16 →
        spoil c f l s = match searchNext c { e.search with spoiled := e.search.spoiled ++ [f] } n with
          | (.more w q, t) => { put (fun e => { opened e with search := q }) t with
              engine := { s.engine with moveQ := s.engine.moveQ ++ [⟨c, w⟩] } }
          | (.empty q, t) => noCandidate c q t
          | (.found .., t) => t)

/-- A TUNE for a receiver of a rack takes the first row of the Gate's table that holds: refused by BLOCK, refused as not in
plan, forwarded with a track note under TRACK, forwarded when the channel stands there already, refused BUSY, or held with
an ADMISSION request. A refusal reports to the originator, counts, and is noticed, in this order (log 34). A TUNE frame for
a rack that is not four bytes long, or names no receiver, is a bad frame. The result byte 1 of the report (log 20), the
note made on a DOWN port (log 21) and the layout of the notice (log 15) are the model's. -/
def Obligations.GateRowsInOrder : Prop :=
  (∀ (h : FrameHdr) (d : TuneData) (z : Stage) (u : Fin 4) (hd : d.receiver < 8) (s : State),
    h.dst = ⟨byteOf z.val, byteOf u.val⟩ → (s.port h.port).up = true → sourceOk h.port h.src = true →
    let a := arrived h.dt h.port s
    let f := chainFrame h (.tune d)
    let c := rackChan z u d.receiver hd
    let refused : GateReason → Nat → State := fun why kind =>
      notifyChan .admissionRefused c ([byteOf why.code, byteOf kind] ++ be16 d.target ++ [h.src.zone, h.src.unit]
          ++ [255#8, 255#8, 255#8, 255#8])
        (bumpStage z .refusals (route ⟨h.src, ⟨6#8, 1#8⟩, 0x21#8, h.seq,
          [byteOf (c.slot.val % 8)] ++ be16 d.target ++ [1#8, byteOf why.code, byteOf kind]⟩ a))
    exec (.tune h d) s = .next (finish a
      (if s.gate[z] = .block then refused .blocked 0
        else if (s.chan c).state = .unused then refused .conflict 9
        else if s.gate[z] = .track then
          let t := handTo (.stage z) f a
          if (s.chan c).settled = true ∧ s.entryOf c = none ∧ d.target ≤ 8191 ∧ (s.chan c).assigned ≠ some d.target then
            { t with notes := s.notes.filter (fun n => n.chan ≠ c) ++ [⟨c, d.target, h.src, h.seq⟩] }
          else t
        else if ((s.chan c).state = .active ∨ (s.chan c).state = .held) ∧ s.entryOf c = none ∧ s.heldOf c = none
            ∧ (s.chan c).assigned = some d.target then handTo (.stage z) f a
        else if (s.chan c).state = .moving ∨ (s.chan c).state = .dark ∨ (a.port (.stage z)).up = false
            ∨ (s.heldOf c).isSome = true ∨ (s.commitRec z).isSome = true ∨ 8 ≤ s.heldFrames.length
            ∨ 8 ≤ s.engine.admQ.length ∨ 12 ≤ s.table.length then refused .busy 0
        else { a with
          heldFrames := s.heldFrames ++ [⟨f, c, d.target⟩]
          engine := { s.engine with admQ := s.engine.admQ ++ [.guard c d.target] } })))
  ∧ ∀ (dt : Nat) (p : Port) (f : Frame) (z : Stage) (u : Fin 4) (s : State), f.kind = 0x20#8 →
    f.dst = ⟨byteOf z.val, byteOf u.val⟩ → f.payload.length ≤ 120 → sourceOk p f.src = true → (s.port p).up = true →
    (f.payload.length ≠ 4 ∨ ∃ x xs, f.payload = x :: xs ∧ 8 ≤ x.toNat) →
    exec (.receiveFrame dt p f.wire) s = .next (countDiscard p .bad (arrived dt p s))

/-! ## Deadlines and services (R46 to R58, R86, R87, R91, R105, R112, R127, R132 to R134, R144, R148, R149, R156, R164,
R169, R181) -/

/-- Each deadline that runs expires at its own time, and nothing else happens there but what its rule says. The time of an
expiry is the model's choice: the clock moves to the deadline, and stands where it is when that is past (log 1). -/
def Obligations.DeadlinesExpireOnTime : Prop :=
  ∀ (z : Stage) (n : Slot) (s : State), let c : Chan := ⟨z, n⟩
    let att : Nat → State := fun d => passTime (d - s.now) s
    (∀ d, (s.chan c).watch.st = .suspect → (s.chan c).watch.window = some d →
      exec (.windowDeadlineExpiry z n) s = .next (finish (att d)
        { (att d).setChan c { s.chan c with watch := ⟨.armed, 0, 0, none⟩ } with
          counters := s.counters.set z { s.counters[z] with expiries := min ((s.counters[z]).expiries + 1) 255 } }))
    ∧ (∀ d, (s.chan c).settle = some d → exec (.settleDeadlineExpiry z n) s =
      .next (finish (att d) ((att d).setChan c { s.chan c with settle := none })))
    ∧ (∀ e d, s.entryOf c = some e →
      (e.state = .proposed → e.propDl = some d → exec (.proposalDeadlineExpiry z n) s =
        .next (finish (att d) (notifyExpired e .timeout ((release c (att d)).dropEntry c))))
      ∧ (e.state = .sent → e.replyDl = some d → exec (.replyDeadlineExpiry z n) s = .next (finish (att d)
        (if e.origin = .passed ∨ 3 ≤ e.attempts then moveFail e .noReply none (att d)
          else if e.spoil = true then moveFail e .spoiled none (att d) else sendEntry c (att d))))
      ∧ (e.state = .locking → e.lockDl = some d → exec (.lockDeadlineExpiry z n) s =
        .next (finish (att d) (moveFail e .lockTimeout none (att d)))))
    ∧ (∀ d, s.commits[z] = .waiting d → exec (.waitDeadlineExpiry z) s = .next (finish (att d)
      (runSteps z (List.finRange 32) (dropAll z ((att d).setCommit z
        (.committing ⟨.linkUp, .draining, [], [], 0, 0, 0, 0, []⟩))))))
    ∧ ∀ v, s.surveys[z] = some v → exec (.surveyDeadlineExpiry z) s = .next (finish (att v.deadline)
      (notifySurvey z v .timeout (sendStanding z { att v.deadline with surveys := s.surveys.set z none })))

/-- An event that meets nothing has no effect, which is the model's choice: the empty queue (log 2), the expiry of a
deadline that does not run, and the completion of a service that does not run or is of another class (log 7). -/
def Obligations.EventsThatMeetNothingDoNothing : Prop :=
  ∀ (s : State), (s.pending = [] → step s = .next s)
    ∧ (∀ p, ((s.port p).up = false ∨ (s.port p).silence = none) → exec (.silenceTimerExpiry p) s = .next s)
    ∧ (∀ (z : Stage) (n : Slot), let c : Chan := ⟨z, n⟩
      ((s.chan c).watch.st ≠ .suspect → exec (.windowDeadlineExpiry z n) s = .next s)
      ∧ ((s.chan c).settle = none → exec (.settleDeadlineExpiry z n) s = .next s)
      ∧ ((∀ e, s.entryOf c = some e → e.state ≠ .proposed) → exec (.proposalDeadlineExpiry z n) s = .next s)
      ∧ ((∀ e, s.entryOf c = some e → e.state ≠ .sent) → exec (.replyDeadlineExpiry z n) s = .next s)
      ∧ ((∀ e, s.entryOf c = some e → e.state ≠ .locking) → exec (.lockDeadlineExpiry z n) s = .next s)
      ∧ ((∀ d, s.commits[z] ≠ .waiting d) → exec (.waitDeadlineExpiry z) s = .next s)
      ∧ (s.surveys[z] = none → exec (.surveyDeadlineExpiry z) s = .next s))
    ∧ ∀ (dt : Nat), let idle : Instr → ReqClass → Prop := fun i k =>
        (∀ v, s.engine.service = some v → v.cls ≠ k) → exec i s = .next (passTime dt s)
      idle (.guardCheckCompletion dt) .admission ∧ idle (.postCheckCompletion dt) .admission
      ∧ idle (.checkCompletion dt) .admission ∧ idle (.operatorCheckCompletion dt) .admission
      ∧ idle (.candidateCheckCompletion dt) .move ∧ idle (.openSearchCompletion dt) .move
      ∧ idle (.returnCheckCompletion dt) .move ∧ idle (.commitStepCompletion dt) .commit
      ∧ idle (.poolCheckCompletion dt) .pool

/-- The completion of the request in service frees the Engine and gives the outcome to its requester: the held frame is
admitted or refused, an adoption's conflict is noticed, an operator's request, a search, a return, a commit step or a pool
entry goes on by its own rule. Which command completes the search of a PICK or of a commit step is the model's choice
(log 28), and so are the conflict kind of a removed channel's held TUNE (log 40), the verdict of its MOVE (log 47) and the
failure of its commit step that ends without a frequency (log 54). -/
def Obligations.ServicesEndByTheirOwnCommand : Prop :=
  ∀ (dt : Nat) (s : State) (r : Served) (v : Service), s.serving = some (r, v) →
    let b := passTime dt s
    let e := endService b
    let adm := leaveHead .admission e
    let mov := leaveHead .move e
    (∀ c y f hf, r = .adm (.guard c y) → v.cand = some f → s.heldOf c = some hf →
      let x := check v.inputs f
      exec (.guardCheckCompletion dt) s = .next (finish b
        (if x.verdict ≠ .clear then refuseTune hf.frame c hf.target .conflict x.verdict.code x.inv1 x.inv2 (dropHeld c adm)
          else if (s.chan c).state = .unused then refuseTune hf.frame c hf.target .conflict 9 none none (dropHeld c adm)
          else if (s.chan c).settled = true ∧ s.entryOf c = none ∧ (b.port (.stage c.stage)).up = true
            ∧ s.table.length < 12 then admitHeld hf adm
          else refuseTune hf.frame c hf.target .busy 0 none none (dropHeld c adm))))
    ∧ (∀ c y f k, r = .adm (.post c y k) → v.cand = some f →
      let x := check v.inputs f
      exec (.postCheckCompletion dt) s = .next (finish b
        (if (s.chan c).assigned = some y ∧ x.verdict ≠ .clear then conflictAdopted c y k x.verdict x.inv1 x.inv2 adm
          else adm)))
    ∧ (∀ o, r = .adm (.oper o) →
      (∀ f, v.cand = some f → ((∃ g, o.work = .given g) ∨ o.work = .prior) →
        let x := check v.inputs f
        exec (.operatorCheckCompletion dt) s = .next (finish b
          (if x.verdict = .clear then operFound o f adm else operReply o .refused x.verdict.code [] adm)))
      ∧ (v.cand = none → o.work = .openSearch → exec (.operatorCheckCompletion dt) s = .next (finish b
        (match openSearch v.inputs with
          | some x => if x.freq ∈ o.search.spoiled then operReply o .refused 0 [] adm else operFound o x.freq adm
          | none => operReply o .refused 0 [] adm)))
      ∧ ∀ g f, v.cand = some f → o.work = .pool g f → exec (.operatorCheckCompletion dt) s =
        .next (finish b (operSearched o (candidateDone o.chan o.search g f (check v.inputs f) e))))
    ∧ (∀ c y g f, r = .move ⟨c, .pool g f⟩ → v.cand = some f → s.entryOf c = some y →
      exec (.candidateCheckCompletion dt) s =
        .next (finish b (moveSearched c (candidateDone c y.search g f (check v.inputs f) e))))
    ∧ (∀ c y, r = .move ⟨c, .openSearch⟩ → v.cand = none → s.entryOf c = some y →
      exec (.openSearchCompletion dt) s = .next (finish b (match openSearch v.inputs with
        | some x => if x.freq ∈ y.search.spoiled then noCandidate c y.search mov
          else searchFound c x.freq (x.result.margin.getD 0) false y.search mov
        | none => noCandidate c y.search mov)))
    ∧ (∀ c f, r = .move ⟨c, .prior⟩ → v.cand = some f →
      let x := check v.inputs f
      exec (.returnCheckCompletion dt) s = .next (finish b
        (if x.verdict = .clear then searchFound c f (x.margin.getD 0) false ⟨[], 0, []⟩ mov else returnSkip c false mov)))
    ∧ (∀ q, r = .com q →
      let com := leaveHead .commit e
      let fails : Nat → State → State := fun k t => nextStep q.stage q.slot (modCommit q.stage (CommitRec.fail q.slot k) t)
      let goesOn : SearchStep × State → State := fun o => match o with
        | (.more w y, t) => { t with engine := { t.engine with
            comQ := ⟨q.stage, q.slot, false, w, y⟩ :: t.engine.comQ.tail } }
        | (.found g _ _ _, t) => stepFound q.stage q.slot g (leaveHead .commit t)
        | (.empty _, t) => fails 12 (leaveHead .commit t)
      (∀ f, v.cand = some f → (∃ g, q.work = .given g) → let x := check v.inputs f
        exec (.commitStepCompletion dt) s = .next (finish b
          (if x.verdict = .clear then stepFound q.stage q.slot f com
            else if q.fallback = true then goesOn (searchNext ⟨q.stage, q.slot⟩ ⟨[], 0, []⟩ e)
            else fails x.verdict.code com)))
      ∧ (∀ g f, v.cand = some f → q.work = .pool g f → exec (.commitStepCompletion dt) s = .next (finish b
        (goesOn (candidateDone ⟨q.stage, q.slot⟩ q.search g f (check v.inputs f) e))))
      ∧ (v.cand = none → q.work = .openSearch → exec (.commitStepCompletion dt) s = .next (finish b
        (match openSearch v.inputs with
          | some x => if x.freq ∈ q.search.spoiled then fails 12 com else stepFound q.stage q.slot x.freq com
          | none => fails 12 com))))
    ∧ ∀ g f, r = .pool g → v.cand = some f →
      let t := e.setPool g ((s.pool g).map fun y => if y.freq = f ∧ y.state = .unchecked
        then { y with state := if (check v.inputs f).verdict = .clear then .ready else .blocked } else y)
      exec (.poolCheckCompletion dt) s = .next (finish b
        (if ∃ y ∈ t.pool g, y.state = .unchecked then t else leaveHead .pool t))

/-! ## Moves and the order of service (R46 to R48, R56, R86, R112, R115, R129, R133, R134, R139 to R146, R151 to R156,
R170) -/

/-- What each end of a move changes, and that it changes nothing else. A sent entry counts its attempt, runs its reply
deadline and has its TUNE ordered, a PASSED one by its originator alone. A search or operator check that found a frequency
reserves it and sends or proposes it, or ends where its channel no longer stands; a held frame is admitted. A completed
move recycles the frequency it left, sets up the return watch and the settle deadline, is noticed, and is told to its
commit; a failed one releases its target, counts and is noticed. A search without result holds its channel; a return
without one is skipped. The model's are the layouts of the notices (log 15), a settle period of 0 (log 26), the cause of a
hold on a channel already HELD (log 25), the sequence number a TUNE carries (log 44), an operator move's TUNE before its
reply (log 42), the count of frequencies tried held at 255 (log 43), and that a frequency the channel still occupies is not
recycled (log 39). -/
def Obligations.MovesChangeWhatTheirRuleSays : Prop :=
  let told : Chan → Bool → State → Vector CommitState 6 := fun c done s => match s.commitRec c.stage with
    | some r => if c.slot ∈ r.outstanding then s.commits.set c.stage (.committing { r with
        outstanding := r.outstanding.filter fun n => n ≠ c.slot
        applied := if done = true then r.applied + 1 else r.applied
        failed := if done = true then r.failed else r.failed + 1
        failedList := if done = true then r.failedList else r.failedList ++ [(c.slot, 13)] }) else s.commits
    | none => s.commits
  let heldAgain : Chan → State → State := fun c t => notifyChan .held c (byteOf 1 :: o16 (t.chan c).assigned)
    { t.setChan c { t.chan c with state := .held, heldCause := some .doubleFault } with latches := t.latches.set 15 true }
  (∀ (c : Chan) (e : Entry) (f : Nat) (s : State), s.entryOf c = some e → e.target = some f →
    let t : State := { s with table := s.table.map fun x => if x.chan = c then { e with
      state := .sent, attempts := e.attempts + 1, replyDl := some (s.now + 300), lockDl := none, propDl := none } else x }
    let p := s.stagePorts[c.stage]
    sendEntry c s = if e.origin = .passed then t else { t with
      originSeq := (s.originSeq + 1) % 256
      stagePorts := if p.up = true then s.stagePorts.set c.stage { p with tx := p.tx ++ [⟨⟨byteOf c.stage.val,
        byteOf (c.slot.val / 8)⟩, ⟨6#8, 1#8⟩, 0x20#8, byteOf s.originSeq, byteOf (c.slot.val % 8) :: be16 f ++ [1#8]⟩] }
        else s.stagePorts })
  ∧ (∀ (c : Chan) (f m : Nat) (b : Bool) (q : Search) (e : Entry) (s : State), s.entryOf c = some e →
    let gone : State := { s with table := s.table.filter fun x => x.chan ≠ c }
    let stands : Prop := (s.chan c).state = .active ∧ (s.chan c).pinned = false ∧ s.fitted c = true
      ∧ (s.port (.stage c.stage)).up = true
    let confirm : Prop := s.confirm = true ∧ s.trunk.up = true
    let full : Prop := confirm ∧ 8 ≤ (s.table.filter fun x => x.state = .proposed).length
    let e' : Entry := { e with target := some f, search := q, fromPool := b }
    let put : Entry → State := fun x =>
      { reserve c f s with table := s.table.map fun y => if y.chan = c then x else y }
    (¬ stands → searchFound c f m b q s = gone)
    ∧ (stands → full → searchFound c f m b q s = match e.want with
      | some (w, j) => { gone with backlog := s.backlog ++ [⟨c, w, j, false⟩] }
      | none => gone)
    ∧ (stands → ¬ confirm → searchFound c f m b q s = sendEntry c (put e'))
    ∧ (stands → confirm → ¬ full → searchFound c f m b q s = notifyChan .proposal c
      (byteOf e.origin.code :: o16 e.src ++ be16 f ++ [byteOf m])
      (put { e' with state := .proposed, propDl := some (s.now + s.proposalTimeout) })))
  ∧ (∀ (o : Oper) (f : Nat) (s : State), let c := o.chan
    let answer : Status → List Byte → State → State := fun st xs t =>
      reply o.hdr o.code st 0 ((if o.code = 4 then encAttrs (t.chan c) else []) ++ xs) t
    operFound o f s = if ((s.chan c).state = .parked ∨ (s.chan c).state = .active ∨ (s.chan c).state = .held)
        ∧ s.entryOf c = none ∧ (s.port (.stage c.stage)).up = true ∧ s.table.length < 12 then
      answer .ok (be16 f) (sendEntry c { reserve c f s with
        table := s.table ++ [⟨c, .operator, o.revert, .searching, (s.chan c).assigned, some f, 0, ⟨[], 0, []⟩, false, false,
          none, o.roc, some o.hdr.src, none, none, none⟩] })
    else answer .busy [] s)
  ∧ (∀ (h : HeldFrame) (s : State), let c := h.chan
    admitHeld h s = handTo (.stage c.stage) h.frame { reserve c h.target s with
      heldFrames := s.heldFrames.filter fun x => x.chan ≠ c
      table := s.table ++ [⟨c, .passed, false, .sent, (s.chan c).assigned, some h.target, 1, ⟨[], 0, []⟩, false, false, none,
        false, some h.frame.src, some (s.now + 300), none, none⟩] })
  ∧ (∀ (e : Entry) (f : Nat) (s : State), e.target = some f → let c := e.chan
    let g := s.groupOf c
    let u := complete c f e.revert s
    let r := u.chan c
    let room : Nat → Prop := fun v => (s.opts[g]).recycle = true ∧ (s.pool g).length < 16 ∧ (∀ x ∈ s.pool g, x.freq ≠ v)
      ∧ u.occupiedIn g v = false
    let back : Option ReturnWatch := match e.src, r.prior with
      | some _, some v => match e.origin, r.profile with
        | .auto, some n => if (s.profiles[n]).returnOnClear = true then some ⟨v, 0, (s.profiles[n]).clearDwell⟩ else none
        | .operator, _ => if e.roc = true then some ⟨v, 0, 10⟩ else none
        | _, _ => none
      | _, _ => none
    let w : State := { u.setChan c { r with
        returnWatch := back
        settle := if e.origin = .auto ∧ s.settlePeriod ≠ 0 then some (s.now + s.settlePeriod) else none
        watch := ⟨if s.liveProfile r.profile = true then .armed else .off, 0, 0, none⟩ } with
      pools := match e.src with
        | some v => if room v
          then s.pools.set g (s.pool g ++ [⟨v, if e.origin = .auto then .dirty else .unchecked, 0, none, false⟩]) else s.pools
        | none => s.pools }
    let n := notifyChan .moved c (byteOf e.origin.code :: o16 e.src ++ be16 f ++ [byteOf e.attempts] ++ eFlag e.revert
      ++ eFlag e.spoil ++ eAddr e.orig) w
    let d : State := { n with
      table := s.table.filter fun x => x.chan ≠ c
      commits := if e.origin = .commit then told c true s else s.commits }
    moveDone e s = if e.spoil = true then heldAgain c d else d)
  ∧ (∀ (e : Entry) (why : EndReason) (rack : Option Nat) (s : State), let c := e.chan
    let u := release c s
    let b := if e.origin = .auto ∧ why = .rackRejected then heldAgain c u else u
    let r : State := if e.origin = .ret then b.setChan c { b.chan c with
      returnWatch := (b.chan c).returnWatch.map fun w => { w with run := 0 } } else b
    let n := notifyChan .moveFailed c (byteOf why.code :: byteOf e.origin.code :: o16 e.src ++ o16 e.target
        ++ [byteOf e.attempts] ++ o8 rack ++ eAddr e.orig)
      { r with counters := s.counters.set c.stage { s.counters[c.stage] with
        failures := min ((s.counters[c.stage]).failures + 1) 255 } }
    moveFail e why rack s = { n with
      table := s.table.filter fun x => x.chan ≠ c
      commits := if e.origin = .commit then told c false s else s.commits })
  ∧ (∀ (c : Chan) (q : Search) (s : State), noCandidate c q s = notifyChan .moveFailed c
    (byteOf 5 :: o16 (s.chan c).assigned ++ [byteOf q.attempts, byteOf (min q.tried.length 255)])
    { s.setChan c { s.chan c with state := .held, heldCause := some .noCandidate } with
      table := s.table.filter fun x => x.chan ≠ c
      counters := s.counters.set c.stage { s.counters[c.stage] with
        failures := min ((s.counters[c.stage]).failures + 1) 255 } })
  ∧ ∀ (c : Chan) (spoiled : Bool) (s : State), returnSkip c spoiled s =
    { s.setChan c { s.chan c with returnWatch :=
        if spoiled = true then (s.chan c).returnWatch.map fun w => { w with run := 0 } else none } with
      table := s.table.filter fun x => x.chan ≠ c
      counters := s.counters.set c.stage { s.counters[c.stage] with skips := min ((s.counters[c.stage]).skips + 1) 255 } }

/-- The order in which work is served. The free Engine begins the oldest request of the highest class that has one, MOVE
before ADMISSION before COMMIT before POOL, on the inputs it then reads; a request with nothing to compute ends at once and
the next is taken; a running service, and empty queues, leave it as it is. The arbiter serves the backlog item that no
servable item comes before, LEAD before NORMAL before PUSH and then by join time, until the table is full or nothing is
servable; a served item makes its channel's entry. The deferred requests are tested again and applied in the order of their
arrival, each as its own change, once no service runs. The model's are which of two equal items comes first, a free choice
(log 5), the place of these in a change (log 8), the moment at which the deferred list applies (log 29), the moment at
which a search chooses (log 38), and the answer to a REVERT with nothing to compute (log 47). -/
def Obligations.WorkIsServedInItsOrder : Prop :=
  (∀ (s : State) (n : Nat),
    (s.engine.service.isSome = true → arbitrate n s = s)
    ∧ (s.engine.moveQ = [] → s.engine.admQ = [] → s.engine.comQ = [] → s.engine.poolQ = [] → arbitrate n s = s)
    ∧ ∀ k r, s.engine.service = none →
      ((∃ m xs, k = .move ∧ r = .move m ∧ s.engine.moveQ = m :: xs)
        ∨ (∃ x xs, k = .admission ∧ r = .adm x ∧ s.engine.moveQ = [] ∧ s.engine.admQ = x :: xs)
        ∨ (∃ x xs, k = .commit ∧ r = .com x ∧ s.engine.moveQ = [] ∧ s.engine.admQ = [] ∧ s.engine.comQ = x :: xs)
        ∨ ∃ g xs, k = .pool ∧ r = .pool g ∧ s.engine.moveQ = [] ∧ s.engine.admQ = [] ∧ s.engine.comQ = []
          ∧ s.engine.poolQ = g :: xs) →
      let i := s.inputs r.subject
      let gs := (List.finRange 4).filter fun j => j = i.group || s.near i.group j
      (∀ f, s.candOf r = some f → arbitrate (n + 1) s = { s with engine := { s.engine with
        service := some ⟨k, i, f, gs.map fun j => (j, s.gens[j]), 0, 0#4⟩ } })
      ∧ (s.candOf r = none → let left := leaveHead k s
        arbitrate (n + 1) s = arbitrate n (match r with
          | .adm (.oper o) => reply o.hdr o.code (if (s.chan o.chan).state = .unused then .busy else .notFound) 0 [] left
          | .move m => closeChange s (returnSkip m.chan false left)
          | _ => left)))
  ∧ (∀ (s : State),
    let rank : Item → Nat := fun i =>
      if i.want = .push then 2 else if (s.chan i.chan).priority = .lead then 0 else 1
    let waits : Item → Prop := fun i => i ∈ s.backlog ∧ (i.want = .push ∨ ¬ (s.confirm = true ∧ s.trunk.up = true
      ∧ 8 ≤ (s.table.filter fun x => x.state = .proposed).length))
    (∀ i, i ∈ s.foremost ↔ waits i ∧ ∀ j, waits j → rank i < rank j ∨ rank i = rank j ∧ i.join ≤ j.join)
    ∧ (s.foremost = [] ↔ ∀ i, ¬ waits i)
    ∧ (∀ n, s.table.length < 12 → s.foremost ≠ [] →
      ∃ i ∈ s.foremost, ∃ k, arbiter (n + 1) s = arbiter n (serveItem i { s with freeCount := k }))
    ∧ (∀ n, (12 ≤ s.table.length ∨ s.foremost = []) → arbiter n s = s)
    ∧ let t := arbiter s.backlog.length s
      12 ≤ t.table.length ∨ t.foremost = [])
  ∧ (∀ (i : Item) (s : State), let c := i.chan
    let made : Entry → State := fun e => { s with
      table := s.table ++ [e]
      backlog := s.backlog.filter fun j => j.chan ≠ c
      notes := s.notes.filter fun n => n.chan ≠ c }
    let e : Origin → Option Nat → Bool → Option (Want × Nat) → Entry := fun o f sp w =>
      ⟨c, o, decide (o = .ret), .searching, (s.chan c).assigned, f, 0, ⟨[], 0, []⟩, false, sp, w, false, none, none, none, none⟩
    (i.want = .push → serveItem i s = sendEntry c (made (e .commit (s.chan c).pending i.spoil none)))
    ∧ (i.want = .ret → let t := made (e .ret none false (some (.ret, i.join)))
      serveItem i s = if (s.chan c).prior = none then returnSkip c false t
        else { t with engine := { s.engine with moveQ := s.engine.moveQ ++ [⟨c, .prior⟩] } })
    ∧ (i.want = .search → s.entryOf c = none → let x := e .auto none false (some (.search, i.join))
      serveItem i s = match searchNext c ⟨[], 0, []⟩ (made x) with
        | (.more w q, t) => { t with
            table := s.table ++ [{ x with search := q }]
            engine := { s.engine with moveQ := s.engine.moveQ ++ [⟨c, w⟩] } }
        | (.empty q, t) => noCandidate c q t
        | (.found .., t) => t))
  ∧ (∀ (s : State),
    (s.engine.service.isSome = true → applyDeferred s = s)
    ∧ (s.engine.service = none → applyDeferred s = s.engine.deferred.foldl (fun t d => closeChange t (applyOne d t))
      { s with engine := { s.engine with deferred := [] } }))
  ∧ ∀ (h : ReqHdr) (r : Request) (s : State),
    (∀ st, refusalOf h r s.lock = some st → applyOne ⟨h, r⟩ s = reply h r.code st 0 [] s)
    ∧ (refusalOf h r s.lock = none → (∀ xs, r = .setRules xs → applyOne ⟨h, r⟩ s = setRules h xs s)
      ∧ (∀ gs rs, r = .setGroups gs rs → applyOne ⟨h, r⟩ s = setGroups h gs rs s)
      ∧ (∀ a b k, r = .addExclusion a b k → applyOne ⟨h, r⟩ s = addExclusion h a b k s)
      ∧ ∀ st sl c p q n f, r = .writeChannel st sl c p q n f → applyOne ⟨h, r⟩ s = writeChannel h st sl c p q n f s)

/-! ## The Frequency Plan (R7 to R13, R19 to R22, R53, R54, R88, R124, R126, R140) -/

/-- A reservation, a DONE completion, a release and an adoption change the record of their channel as their rules say, the
flag computed again, and no other record. A reservation and an adoption increment the channel's group and take the
frequency out of its pool; a reservation ends the channel's waiting item and track note. -/
def Obligations.PlanOperationsChangeTheirRecord : Prop :=
  ∀ (c : Chan) (f : Nat) (s : State), let r := s.chan c
    let g := s.groupOf c
    let alone : State → ChanRec → Prop := fun t x =>
      t.chan c = { x with exclConflict := (t.conflictOf c).isSome } ∧ ∀ d, d ≠ c → t.chan d = s.chan d
    let grown : State → Prop := fun t => t.gens = s.gens.set g ((s.gens[g] + 1) % 65536) ∧ ∀ e ∈ t.pool g, e.freq ≠ f
    let forward : Option Nat → List Nat := fun v => match v, r.prior with
      | some _, some p => (p :: r.history).take 3
      | _, _ => r.history
    (alone (reserve c f s) { r with
        pending := some f, state := .moving, watch := if r.watch.st = .suspect then ⟨.armed, 0, 0, none⟩ else r.watch
        ret := match r.state with | .active => some .active | .held => some .held | .parked => some .parked | _ => none }
      ∧ grown (reserve c f s) ∧ (reserve c f s).itemOf c = none ∧ (reserve c f s).noteOf c = none)
    ∧ (alone (complete c f false s) { r with
        assigned := some f, pending := none, ret := none, darkFrom := none, heldCause := none, state := .active
        offPlan := false, moveCount := min (r.moveCount + 1) 255
        prior := if r.assigned.isSome = true then r.assigned else r.prior
        history := forward r.assigned }
      ∧ (complete c f false s).gens = s.gens)
    ∧ (alone (complete c f true s) { r with
        assigned := some f, pending := none, ret := none, darkFrom := none, heldCause := none, state := .active
        offPlan := false, moveCount := min (r.moveCount + 1) 255
        prior := r.history.head?, history := r.history.tail }
      ∧ (complete c f true s).gens = s.gens)
    ∧ (∀ x, r.state = .moving → r.ret = some x → alone (release c s) { r with
        pending := none, ret := none, state := x.state
        watch := if x = .parked then ⟨.off, 0, 0, none⟩ else r.watch })
    ∧ (r.state ≠ .moving → alone (release c s) { r with pending := none })
    ∧ (release c s).gens = s.gens
    ∧ (let w : Watch := ⟨if s.liveProfile r.profile = true then .armed else .off, 0, 0, none⟩
      alone (adopt c f .track s) { r with
        assigned := some f, pending := none, ret := none, state := .active, heldCause := none
        watch := w, returnWatch := none, settle := none
        prior := if r.assigned.isSome = true then r.assigned else r.prior
        history := forward r.assigned }
      ∧ alone (adopt c f .offPlan s) { r with assigned := some f, pending := none, offPlan := true, watch := w }
      ∧ alone (adopt c f .dark s) { r with
        assigned := some f, pending := none, darkFrom := none, offPlan := true, watch := w
        state := if r.darkFrom = some .held then .held else .active })
    ∧ ∀ k, grown (adopt c f k s)

/-- An increment takes a generation to the next of 65536 and the READY and BLOCKED entries of the group's pool, and of
the pools NEAR to it, to UNCHECKED. At the close of a change the running service, if a generation it recorded has changed
or the class of its subject has, restarts: its count rises by one, its groups, generations and inputs are read again, and
from the third restart its groups are held; if neither has changed it goes on. A check at the prior frequency takes the one
that then stands; where there is none, a REVERT is answered NOT_FOUND, or BUSY when its channel is removed (log 47), and a
return keeps its candidate. That a change restarts a service once, however often it increments, is the model's reading
(log 10). -/
def Obligations.IncrementsDemoteAndRestart : Prop :=
  (∀ (g : Group) (s : State), let t := bumpGen g s
    t.gens = s.gens.set g ((s.gens[g] + 1) % 65536)
    ∧ (∀ k : Group, t.pool k = if k = g ∨ s.near g k = true
      then (s.pool k).map (fun e => if e.state = .ready ∨ e.state = .blocked then { e with state := .unchecked } else e)
      else s.pool k)
    ∧ t = { s with gens := t.gens, pools := t.pools })
  ∧ ∀ (s : State) (r : Served) (v : Service), s.serving = some (r, v) →
    let i := s.inputs r.subject
    let gs := (List.finRange 4).filter fun k => k = i.group || s.near i.group k
    let stale : Prop := (∃ x ∈ v.watched, s.gens[x.1] ≠ x.2) ∨ i.high ≠ v.inputs.high
    let again : Option Nat → State := fun f => { s with engine := { s.engine with service := some { v with
      cand := f, inputs := i, watched := gs.map fun k => (k, s.gens[k]), restarts := v.restarts + 1
      hold := if 2 ≤ v.restarts then v.hold ||| groupSet gs else v.hold } } }
    (¬ stale → restartService s = s)
    ∧ (stale → r.readsPrior = false → restartService s = again v.cand)
    ∧ (stale → ∀ c, r.subject = .chan c → r.readsPrior = true →
      (∀ f, (s.chan c).prior = some f → restartService s = again (some f))
      ∧ ((s.chan c).prior = none → (∀ m, r = .move m → restartService s = again v.cand)
        ∧ ∀ o, r = .adm (.oper o) → restartService s = reply o.hdr o.code
          (if (s.chan c).state = .unused then .busy else .notFound) 0 []
          { s with engine := { s.engine with service := none, admQ := s.engine.admQ.tail } }))

/-! ## The Compatibility Engine's arithmetic (R24 to R40) -/

/-- The tests of a check stand in their order. It is CLEAR when the candidate passes the grid, range, alignment and
exclusion tests and no term of any evaluated stage conflicts; the margin is then the least slack of all terms, at most 15,
and every term is counted. Otherwise the verdict is that of the first test that fails, and in a term stage the first
conflicting term ends the check, is counted, and names the involved channels. -/
def Obligations.ChecksEndAtTheFirstConflict : Prop :=
  ∀ (i : Inputs) (c : Nat), let r := check i c
    let stages := termStages i c
    let passes : Prop := c ≤ 8191 ∧ (∃ lo hi k, i.range = some (lo, hi, k) ∧ lo ≤ c ∧ c ≤ hi ∧ c % k = 0)
      ∧ ∀ x ∈ i.excl, x.scope.has i.group = true → ¬ (x.first ≤ c + i.spacing.guard ∧ c ≤ x.last + i.spacing.guard)
    (8191 < c → r = ⟨.outOfGrid, none, none, none, 0⟩)
    ∧ (c ≤ 8191 → (∀ lo hi k, i.range = some (lo, hi, k) → c < lo ∨ hi < c) → r = ⟨.outOfRange, none, none, none, 0⟩)
    ∧ (∀ lo hi k, c ≤ 8191 → i.range = some (lo, hi, k) → lo ≤ c → c ≤ hi → c % k ≠ 0 →
      r = ⟨.misaligned, none, none, none, 0⟩)
    ∧ (∀ lo hi k x, c ≤ 8191 → i.range = some (lo, hi, k) → lo ≤ c → c ≤ hi → c % k = 0 → x ∈ i.excl →
      x.scope.has i.group = true → x.first ≤ c + i.spacing.guard → c ≤ x.last + i.spacing.guard →
      r = ⟨.excluded, none, none, none, 0⟩)
    ∧ (passes → (∀ st ∈ stages, ∀ t ∈ st.2, t.need ≤ t.dist) →
      ∃ m, r = ⟨.clear, some m, none, none, (stages.map fun st => st.2.length).sum⟩ ∧ m ≤ 15
        ∧ (∀ st ∈ stages, ∀ t ∈ st.2, m ≤ t.dist - t.need)
        ∧ (m = 15 ∨ ∃ st ∈ stages, ∃ t ∈ st.2, m = t.dist - t.need))
    ∧ ∀ before v xs t ys after, passes → stages = before ++ (v, xs ++ t :: ys) :: after →
      (∀ st ∈ before, ∀ x ∈ st.2, x.need ≤ x.dist) → (∀ x ∈ xs, x.need ≤ x.dist) → t.dist < t.need →
      r = ⟨v, none, some t.inv1, t.inv2, (before.map fun st => st.2.length).sum + xs.length + 1⟩

/-- The terms of the four stages in their order: each product or the candidate, what it is compared with, the channels it
names, and its required spacing, the stage's base raised by X_hi once when the subject or a member taking part is HIGH. The
carrier and third-order stages always stand, the fifth-order and three-transmitter ones when their option is on. For
members of different channels their numbers of terms are those of the rules. That the raise stands with S_near at 0 too is
the model's reading (log 49). -/
def Obligations.StagesFormTheirTerms : Prop :=
  ∀ (i : Inputs) (c : Nat),
    let C := i.members
    let term : Nat → Int → Int → Member → Member → List Member → Term := fun base p x a b parts =>
      { dist := (p - x).natAbs
        need := base + if (i.high || parts.any (·.high)) = true then i.spacing.xhi else 0
        inv1 := a.chan
        inv2 := if a.chan = b.chan then none else some b.chan }
    let others : Member → List Member := fun a => C.filter fun b => a.chan ≠ b.chan
    let two : Nat → (Int → Int → Int) → List Term := fun base mix =>
      (C.flatMap fun a => (others a).map fun b => term base (mix a.freq b.freq) c a b [a, b])
      ++ C.flatMap fun f => C.map (fun g => term base (mix c f.freq) g.freq f g [f, g])
        ++ C.map (fun g => term base (mix f.freq c) g.freq f g [f, g])
    let pairs : List (Member × Member) := C.tails.flatMap fun
      | [] => []
      | a :: rest => (rest.filter fun b => a.chan ≠ b.chan).map fun b => (a, b)
    carrierTerms i c = C.map (fun f => term i.spacing.scc c f.freq f f [f])
        ++ i.near.map (fun f => term i.spacing.snear c f.freq f f [f])
    ∧ (∀ base, pairTerms i base 2 c = two base fun x y => 2 * x - y)
    ∧ (∀ base, pairTerms i base 3 c = two base fun x y => 3 * x - 2 * y)
    ∧ (∀ base, tripleTerms i base c =
      (pairs.flatMap fun (a, b) => (C.filter fun d => d.chan ≠ a.chan ∧ d.chan ≠ b.chan).map fun d =>
        term base (a.freq + b.freq - d.freq) c a b [a, b, d])
      ++ C.flatMap fun f => (others f).flatMap fun h => C.map fun g => term base (c + f.freq - h.freq) g.freq f h [f, h, g])
    ∧ termStages i c = [(.carrier, carrierTerms i c), (.imd3, pairTerms i i.spacing.s3 2 c)]
        ++ (if i.fifth = true then [(.imd5, pairTerms i i.spacing.s5 3 c)] else [])
        ++ (if i.three = true then [(.imd3t, tripleTerms i i.spacing.s3t c)] else [])
    ∧ ((C.map (·.chan)).Nodup → ∀ (base : Nat) (k : Int), let m := C.length
      (carrierTerms i c).length = m + i.near.length
      ∧ (pairTerms i base k c).length = m * (m - 1) + 2 * m * m
      ∧ 2 * (tripleTerms i base c).length = m * (m - 1) * (m - 2) + 2 * (m * (m - 1) * m))

/-- A check that is CLEAR stays CLEAR, with no smaller margin, when members leave its two sets, exclusions leave its table,
product checks are turned off and spacings are lowered, the range and the class standing. -/
def Obligations.FewerMembersKeepClear : Prop :=
  ∀ (i j : Inputs) (c : Nat), j.group = i.group → j.high = i.high → j.range = i.range →
    j.members.Sublist i.members → j.near.Sublist i.near → j.excl.Sublist i.excl →
    (j.fifth = true → i.fifth = true) → (j.three = true → i.three = true) →
    Spacing.raised i.spacing j.spacing = false →
    ∀ m, (check i c).margin = some m → (check j c).verdict = .clear ∧ ∃ n, (check j c).margin = some n ∧ m ≤ n

/-- An open search checks the multiples of the step in the range but the frequencies the channel occupies. It returns the
lowest CLEAR candidate of margin 15 if there is one, otherwise the lowest of the largest margin among the CLEAR ones, with
that candidate's result, and none only when no candidate is CLEAR. -/
def Obligations.OpenSearchReturnsTheBest : Prop :=
  ∀ (i : Inputs) (lo hi k : Nat), i.range = some (lo, hi, k) → 1 ≤ k → hi ≤ 8191 →
    let candidate : Nat → Prop := fun f => lo ≤ f ∧ f ≤ hi ∧ f % k = 0 ∧ f ∉ i.own
    match openSearch i with
    | none => ∀ f, candidate f → (check i f).margin = none
    | some x => candidate x.freq ∧ x.result = check i x.freq ∧ ∃ m, x.result.margin = some m
      ∧ ∀ f n, candidate f → (check i f).margin = some n → n ≤ m ∧ (n = m → x.freq ≤ f)

/-! ## Searches and watches (R102 to R110, R131 to R133) -/

/-- A search takes the first eligible entry of the pool of its channel's group, marks it and remembers it; at the downshift
count, or with the pool exhausted, it turns to the open search or ends. A candidate's check clears the mark; CLEAR ends the
search if the pool still offers the frequency, and otherwise it chooses again, having counted a verdict other than CLEAR
and blocked the entry of one that names a conflict of carriers or products. That the choice after an unused CLEAR makes the
same tests as any other is the model's reading (log 46). -/
def Obligations.SearchesTakePoolThenOpen : Prop :=
  ∀ (c : Chan) (q : Search) (s : State), let g := s.groupOf c
    let fits : PoolEntry → Prop := fun e => e.state = .ready ∧ e.inSearch = false ∧ e.freq ∉ q.tried ∧ e.freq ∉ q.spoiled
      ∧ ∃ lo hi k, capRange (s.cap c) = some (lo, hi, k) ∧ lo ≤ e.freq ∧ e.freq ≤ hi ∧ e.freq % k = 0
    let turn : SearchStep := if (s.opts[g]).openSearch = true then .more .openSearch q else .empty q
    ((s.opts[g]).downshift ≤ q.attempts → searchNext c q s = (turn, s))
    ∧ (16 ≤ q.tried.length → searchNext c q s = (turn, s))
    ∧ ((∀ e ∈ s.pool g, ¬ fits e) → searchNext c q s = (turn, s))
    ∧ (∀ xs e ys, q.attempts < (s.opts[g]).downshift → q.tried.length < 16 → s.pool g = xs ++ e :: ys →
      (∀ x ∈ xs, ¬ fits x) → fits e →
      searchNext c q s = (.more (.pool g e.freq) { q with tried := q.tried ++ [e.freq] },
        { s with pools := s.pools.set g ((s.pool g).map fun y => if y.freq = e.freq then { y with inSearch := true } else y) }))
    ∧ ∀ f (r : Result),
      let t : State := { s with
        pools := s.pools.set g ((s.pool g).map fun y => if y.freq = f then { y with inSearch := false } else y) }
      let blocked : State := { s with pools := s.pools.set g ((s.pool g).map fun y => if y.freq = f
        then { y with inSearch := false, state := .blocked, run := 0 } else y) }
      (r.verdict = .clear → (∃ e ∈ s.pool g, e.freq = f ∧ e.state ≠ .dirty) →
        candidateDone c q g f r s = (.found f (r.margin.getD 0) true q, t))
      ∧ (r.verdict = .clear → (∀ e ∈ s.pool g, e.freq = f → e.state = .dirty) →
        candidateDone c q g f r s = searchNext c q t)
      ∧ (r.verdict ≠ .clear → candidateDone c q g f r s = searchNext c { q with attempts := min (q.attempts + 1) 8 }
        (if r.verdict = .carrier ∨ r.verdict = .imd3 ∨ r.verdict = .imd5 ∨ r.verdict = .imd3t then blocked else t))

/-- A watch counts the levels its state and combine setting name: a qualifying evaluation adds one to the run, another sets
it to 0. A single level, or either under EITHER, fires at its persistence; under SEQUENCE level 1 leads to SUSPECT with the
window deadline, and level 2 fires there, the same evidence counting at once. A report is evidence for FOREIGN and DROPOUT
levels, a standing sweep for SWEEP_HIT ones, and only the live watch of an ACTIVE or HELD channel is evaluated. A MOVE
response then takes the first case that holds. The bytes of the INTERFERENCE notice are the model's layout (log 15), and its
value where one evaluation completes both levels of EITHER is level 2's (log 45). -/
def Obligations.WatchesCountFireAndRespond : Prop :=
  (∀ (now : Nat) (p : Profile) (ev : Evidence) (w : Watch),
    let done : Cond → Nat → Option Nat := fun k run => match ev k with
      | some (true, v) => if k.persistence ≤ run + 1 then some v else none
      | _ => none
    let next : Cond → Nat → Nat := fun k run => match ev k with
      | some (true, _) => run + 1
      | some (false, _) => 0
      | none => run
    ((w.st = .off ∨ w.st = .fired) → watchStep now p ev w = (w, none))
    ∧ (w.st = .armed → p.level2.kind = .none → watchStep now p ev w = match done p.level1 w.run1 with
      | some v => (w, some ⟨true, false, v⟩)
      | none => ({ w with run1 := next p.level1 w.run1 }, none))
    ∧ (w.st = .armed → p.level2.kind ≠ .none → p.combine = .sequence →
      watchStep now p ev w = match done p.level1 w.run1 with
        | none => ({ w with run1 := next p.level1 w.run1 }, none)
        | some _ => watchStep now p ev ⟨.suspect, w.run1 + 1, 0, some (now + p.window)⟩)
    ∧ (w.st = .suspect → watchStep now p ev w = match done p.level2 w.run2 with
      | some v => (w, some ⟨true, true, v⟩)
      | none => ({ w with run2 := next p.level2 w.run2 }, none))
    ∧ (w.st = .armed → p.level2.kind ≠ .none → p.combine = .either →
      watchStep now p ev w = match done p.level1 w.run1, done p.level2 w.run2 with
        | none, none => ({ w with run1 := next p.level1 w.run1, run2 := next p.level2 w.run2 }, none)
        | some v, none => (w, some ⟨true, false, v⟩)
        | none, some v => (w, some ⟨false, true, v⟩)
        | some _, some v => (w, some ⟨true, true, v⟩)))
  ∧ (∀ (level dropouts : Nat) (pilot : Bool) (k : Cond), reportEvidence level dropouts pilot k = match k.kind with
    | .foreign => some (decide (k.threshold ≤ level ∧ pilot = false), level)
    | .dropout => some (decide (k.threshold ≤ dropouts), dropouts)
    | .sweepHit | .none => none)
  ∧ (∀ (xs : List (Nat × Nat)) (a : Nat) (last : Option LastReport) (k : Cond),
    let hit : Nat → Prop := fun l => ∃ f, (f, l) ∈ xs ∧ f ≤ a + k.reach ∧ a ≤ f + k.reach
    (k.kind ≠ .sweepHit ∨ (∀ l, ¬ hit l) → sweepEvidence xs a last k = none)
    ∧ ∀ l, k.kind = .sweepHit → hit l → (∀ m, hit m → m ≤ l) →
      sweepEvidence xs a last k = some (decide (k.threshold ≤ l ∧ ∃ r, last = some r ∧ r.pilot = false), l))
  ∧ (∀ (c : Chan) (ev : Evidence) (s : State), let r := s.chan c
    (∀ n, (r.state = .active ∨ r.state = .held) → r.profile = some n → (s.profiles[n]).level1.kind ≠ .none →
      evaluate c ev s = match watchStep s.now s.profiles[n] ev r.watch with
        | (w, none) => s.setChan c { r with watch := w }
        | (_, some f) => fire c n f s)
    ∧ (((r.state ≠ .active ∧ r.state ≠ .held) ∨ r.profile = none
      ∨ ∃ n, r.profile = some n ∧ (s.profiles[n]).level1.kind = .none) → evaluate c ev s = s)
    ∧ ∀ xs, sweepHit c xs s = match r.assigned with
      | some a => evaluate c (sweepEvidence xs a r.lastReport) s
      | none => s)
  ∧ (∀ (c : Chan) (n : Fin 8) (f : Fire) (s : State),
    let b : State := { s.setChan c { s.chan c with watch := ⟨.fired, 0, 0, none⟩ } with
      counters := s.counters.set c.stage { s.counters[c.stage] with fires := min ((s.counters[c.stage]).fires + 1) 255 } }
    let p := s.profiles[n]
    let kind : Bool → Cond → Byte := fun on k => byteOf (if on then k.kind.code else 255)
    let told : FireOutcome → State → State := fun o t => notifyChan .interference c
      (byteOf n.val :: o16 (s.chan c).assigned ++ [kind f.level1 p.level1, kind f.level2 p.level2, byteOf f.value,
        byteOf o.code]) t
    (p.response = .report → fire c n f s = told .reported b)
    ∧ (p.response = .freeze → fire c n f s = told .frozen (if (s.chan c).state = .active
      then notifyHeld c .freeze (b.setChan c { b.chan c with state := .held, heldCause := some .freeze }) else b))
    ∧ (p.response = .move → fire c n f s =
      if (s.chan c).pinned = true then told .reportedPinned b
      else if s.fitted c = false then told .reportedNoCapability b
      else if (s.chan c).state = .held then told .noActionHeld b
      else if (s.chan c).settle.isSome = true then told .secondFault (doubleFault c b)
      else if (s.entryOf c).isSome = true then told .alreadyPending b
      else match s.itemOf c with
        | none => told .queued { b with backlog := s.backlog ++ [⟨c, .search, s.now, false⟩] }
        | some i => if i.want ≠ .ret then told .alreadyPending b
          else told .queued { b with backlog := s.backlog.map fun j => if j.chan = c then { j with want := .search } else j }))

/-! ## The whole machine -/

/-- After reset every bound, place and shape holds. -/
def Obligations.ResetKeepsEveryPromise : Prop :=
  Bounded State.reset ∧ Fits State.reset ∧ Unique State.reset ∧ Placed State.reset ∧ PoolsClean State.reset

/-- No step takes a counter, a generation, a history, a move count, a table, a queue or a list out of its bounds, or the
exclusion table out of its order. Where the moves are owned and each step of a commit in the queue is its stage's current
one, and each stage whose commit runs or waits is UP, the MOVE, COMMIT and POOL queues keep to 12, 6 and 4 requests, and
every watch to runs of 0 to 8 below the persistences they are counted against. No step leaves a commit running or waiting
at a stage that is DOWN. After reset all of these hold. -/
def Obligations.StepKeepsBounds : Prop :=
  (∀ s t : State, Bounded s → Fits s → step s = .next t → Bounded t ∧ Fits t)
  ∧ (∀ s t : State, Linked s → step s = .next t → Linked t)
  ∧ (∀ s t : State, Placed s → Fits s → Queued s → Linked s → Watched s → step s = .next t →
    t.engine.moveQ.length ≤ 12 ∧ t.engine.comQ.length ≤ 6 ∧ t.engine.poolQ.length ≤ 4
    ∧ (∀ c : Chan, (t.chan c).watch.run1 ≤ 8 ∧ (t.chan c).watch.run2 ≤ 8) ∧ Queued t ∧ Watched t)
  ∧ Queued State.reset ∧ Linked State.reset ∧ Watched State.reset

/-- No step gives a channel two retune entries, two backlog items, or both, or makes a ninth entry PROPOSED. -/
def Obligations.StepKeepsOneMovePerChannel : Prop := ∀ s t : State, Unique s → step s = .next t → Unique t

/-- No step leaves a record out of the shape of its state, an entry or an item without its channel, a MOVING channel
without the owner of its move, or a MOVE request without its SEARCHING entry. -/
def Obligations.StepKeepsEveryMoveOwned : Prop := ∀ s t : State, Placed s → step s = .next t → Placed t

/-- No step puts into a pool a frequency it holds already, or leaves there one that a channel of its group occupies. -/
def Obligations.StepKeepsPoolsClean : Prop :=
  ∀ s t : State, Placed s → PoolsClean s → step s = .next t → PoolsClean t

/-- The gate modes, the lock, the confirm setting, the standing spans, the notice enables and the watch profiles each
change by their own request alone, given as a command or as the bytes of a REQUEST frame for the device that carry it, and
at power-on. -/
def Obligations.SettingsChangeOnlyByTheirRequests : Prop :=
  ∀ (i : Instr) (s t : State), exec i s = .next t → i ≠ .powerOn →
    let byIts : (Instr → Prop) → (Request → Prop) → Prop := fun own req => own i
      ∨ ∃ dt p bs f, i = .receiveFrame dt p bs ∧ parseFrame bs = some f ∧ f.kind = 0x30#8 ∧ f.dst = ⟨6#8, 1#8⟩
        ∧ req (parseRequest f.payload)
    (t.gate ≠ s.gate → byIts (fun j => ∃ h a b, j = .setGate h a b) fun r => ∃ a b, r = .setGate a b)
    ∧ (t.lock ≠ s.lock → byIts (fun j => ∃ h v, j = .setLock h v) fun r => ∃ v, r = .setLock v)
    ∧ (t.confirm ≠ s.confirm → byIts (fun j => ∃ h v, j = .setConfirm h v) fun r => ∃ v, r = .setConfirm v)
    ∧ (t.spans ≠ s.spans → byIts (fun j => ∃ h a b c d, j = .setSpan h a b c d) fun r => ∃ a b c d, r = .setSpan a b c d)
    ∧ (t.enables ≠ s.enables → byIts (fun j => ∃ h v, j = .setNotices h v) fun r => ∃ v, r = .setNotices v)
    ∧ (t.profiles ≠ s.profiles → byIts (fun j => ∃ h n o, j = .writeProfile h n o) fun r => ∃ n o, r = .writeProfile n o)

/-- What the close of a change does, and what it leaves alone. In this order (log 8): the deferred drops whose moves have
ended; the removal of the items whose channels no longer stand where their wants require; the arbiter, and those two again;
the restart of an overtaken service; a POOL request for each pool with an UNCHECKED entry that has none, in a free order
(log 5); an EXCLUSION_CONFLICT notice for each newly set flag, naming the first conflict (log 41); a POOL_LOW notice for
each READY count that fell below two, with the layouts of log 15; the end of the commits that are over. Then the deferred
requests apply (log 29) and the Engine takes its next request. The close moves no clock, no capability, no site setting, no
survey, no held frame and no link; and where nothing waits, no flag has been newly set and no READY count has fallen below
two, it changes nothing. -/
def Obligations.ClosesDoTheirWorkAndNoMore : Prop :=
  ∀ s0 s : State,
    (let drops : State → State := fun x => (List.finRange 6).foldl (fun x z => match x.commitRec z with
        | some r => r.deferred.foldl (fun x n => settleDrop z n x) x
        | none => x) x
      let stands : State → Item → Bool := fun x i => match i.want with
        | .push => (x.chan i.chan).state = .moving && (x.chan i.chan).pending.isSome && (x.entryOf i.chan).isNone
        | .search | .ret => (x.chan i.chan).state = .active && !(x.chan i.chan).pinned
          && (x.cap i.chan).any (·.fitted)
          && (i.want = .search || (x.chan i.chan).returnWatch.any fun w => w.run = w.dwell)
      let prune : State → State := fun x => { x with backlog := x.backlog.filter (stands x) }
      let b := prune (drops s)
      let r := restartService (prune (drops (arbiter b.backlog.length b)))
      let flagged := allChans.filter fun c => !(s0.chan c).exclConflict && (r.chan c).exclConflict
      let low := (List.finRange 4).filter fun g => decide (2 ≤ s0.readyCount g ∧ r.readyCount g < 2)
      ∃ (order : List Group) (k : Nat),
        order.Perm ((List.finRange 4).filter fun g =>
          (r.pool g).any (fun e => e.state = .unchecked) && !r.engine.poolQ.contains g)
        ∧ let q : State := { r with
            freeCount := k, engine := { r.engine with poolQ := r.engine.poolQ ++ order } }
          closeChange s0 s = (List.finRange 6).foldl (fun x z => endCommit z x)
            (low.foldl (fun x g => notify .poolLow 255 255
                [byteOf g.val, byteOf (r.readyCount g), byteOf (r.pool g).length] x)
              (flagged.foldl (fun x c => match r.conflictOf c with
                | some (f, y) => notifyChan .exclusionConflict c (be16 f ++ be16 y.first ++ be16 y.last) x
                | none => x) q)))
    ∧ (let u := applyDeferred (closeChange s0 s)
      finish s0 s = arbitrate (u.engine.moveQ.length + u.engine.admQ.length + u.engine.comQ.length
        + u.engine.poolQ.length + 16) u)
    ∧ ((finish s0 s).now = s.now ∧ (finish s0 s).caps = s.caps ∧ (finish s0 s).settings = s.settings
      ∧ (finish s0 s).surveys = s.surveys ∧ (finish s0 s).heldFrames = s.heldFrames
      ∧ ∀ p, ((finish s0 s).port p).up = (s.port p).up ∧ ((finish s0 s).port p).silence = (s.port p).silence
        ∧ ((finish s0 s).port p).sigdet = (s.port p).sigdet)
    ∧ (Calm s → (∀ c, (s.chan c).exclConflict = true → (s0.chan c).exclConflict = true) →
      (∀ g, 2 ≤ s0.readyCount g → 2 ≤ s.readyCount g) → finish s0 s = s)

end
end

