-- ==== Sys2Proof/Laws/State.lean ====
section
/-! SUPPORT. What each update of State leaves alone, one lemma per field, and what it changes: so that no proof unfolds a
record update. -/

namespace Sys2Proof.Machine

/-! ### setChan -/

@[simp] theorem setChan_pending (s : State) (c : Chan) (r : ChanRec) : (s.setChan c r).pending = s.pending := rfl
@[simp] theorem setChan_now (s : State) (c : Chan) (r : ChanRec) : (s.setChan c r).now = s.now := rfl
@[simp] theorem setChan_freeCount (s : State) (c : Chan) (r : ChanRec) : (s.setChan c r).freeCount = s.freeCount := rfl
@[simp] theorem setChan_trunk (s : State) (c : Chan) (r : ChanRec) : (s.setChan c r).trunk = s.trunk := rfl
@[simp] theorem setChan_stagePorts (s : State) (c : Chan) (r : ChanRec) : (s.setChan c r).stagePorts = s.stagePorts := rfl
@[simp] theorem setChan_originSeq (s : State) (c : Chan) (r : ChanRec) : (s.setChan c r).originSeq = s.originSeq := rfl
@[simp] theorem setChan_caps (s : State) (c : Chan) (r : ChanRec) : (s.setChan c r).caps = s.caps := rfl
@[simp] theorem setChan_couple (s : State) (c : Chan) (r : ChanRec) : (s.setChan c r).couple = s.couple := rfl
@[simp] theorem setChan_rels (s : State) (c : Chan) (r : ChanRec) : (s.setChan c r).rels = s.rels := rfl
@[simp] theorem setChan_excl (s : State) (c : Chan) (r : ChanRec) : (s.setChan c r).excl = s.excl := rfl
@[simp] theorem setChan_gens (s : State) (c : Chan) (r : ChanRec) : (s.setChan c r).gens = s.gens := rfl
@[simp] theorem setChan_spacing (s : State) (c : Chan) (r : ChanRec) : (s.setChan c r).spacing = s.spacing := rfl
@[simp] theorem setChan_opts (s : State) (c : Chan) (r : ChanRec) : (s.setChan c r).opts = s.opts := rfl
@[simp] theorem setChan_settlePeriod (s : State) (c : Chan) (r : ChanRec) : (s.setChan c r).settlePeriod = s.settlePeriod := rfl
@[simp] theorem setChan_proposalTimeout (s : State) (c : Chan) (r : ChanRec) : (s.setChan c r).proposalTimeout = s.proposalTimeout := rfl
@[simp] theorem setChan_profiles (s : State) (c : Chan) (r : ChanRec) : (s.setChan c r).profiles = s.profiles := rfl
@[simp] theorem setChan_pools (s : State) (c : Chan) (r : ChanRec) : (s.setChan c r).pools = s.pools := rfl
@[simp] theorem setChan_engine (s : State) (c : Chan) (r : ChanRec) : (s.setChan c r).engine = s.engine := rfl
@[simp] theorem setChan_gate (s : State) (c : Chan) (r : ChanRec) : (s.setChan c r).gate = s.gate := rfl
@[simp] theorem setChan_heldFrames (s : State) (c : Chan) (r : ChanRec) : (s.setChan c r).heldFrames = s.heldFrames := rfl
@[simp] theorem setChan_notes (s : State) (c : Chan) (r : ChanRec) : (s.setChan c r).notes = s.notes := rfl
@[simp] theorem setChan_table (s : State) (c : Chan) (r : ChanRec) : (s.setChan c r).table = s.table := rfl
@[simp] theorem setChan_backlog (s : State) (c : Chan) (r : ChanRec) : (s.setChan c r).backlog = s.backlog := rfl
@[simp] theorem setChan_staging (s : State) (c : Chan) (r : ChanRec) : (s.setChan c r).staging = s.staging := rfl
@[simp] theorem setChan_arm (s : State) (c : Chan) (r : ChanRec) : (s.setChan c r).arm = s.arm := rfl
@[simp] theorem setChan_commits (s : State) (c : Chan) (r : ChanRec) : (s.setChan c r).commits = s.commits := rfl
@[simp] theorem setChan_confirm (s : State) (c : Chan) (r : ChanRec) : (s.setChan c r).confirm = s.confirm := rfl
@[simp] theorem setChan_lock (s : State) (c : Chan) (r : ChanRec) : (s.setChan c r).lock = s.lock := rfl
@[simp] theorem setChan_spans (s : State) (c : Chan) (r : ChanRec) : (s.setChan c r).spans = s.spans := rfl
@[simp] theorem setChan_surveys (s : State) (c : Chan) (r : ChanRec) : (s.setChan c r).surveys = s.surveys := rfl
@[simp] theorem setChan_enables (s : State) (c : Chan) (r : ChanRec) : (s.setChan c r).enables = s.enables := rfl
@[simp] theorem setChan_latches (s : State) (c : Chan) (r : ChanRec) : (s.setChan c r).latches = s.latches := rfl
@[simp] theorem setChan_counters (s : State) (c : Chan) (r : ChanRec) : (s.setChan c r).counters = s.counters := rfl
@[simp] theorem setChan_trunkDiscards (s : State) (c : Chan) (r : ChanRec) : (s.setChan c r).trunkDiscards = s.trunkDiscards := rfl
@[simp] theorem setChan_heldDiscards (s : State) (c : Chan) (r : ChanRec) : (s.setChan c r).heldDiscards = s.heldDiscards := rfl

/-! ### modChan -/

@[simp] theorem modChan_pending (s : State) (c : Chan) (f : ChanRec → ChanRec) : (s.modChan c f).pending = s.pending := rfl
@[simp] theorem modChan_now (s : State) (c : Chan) (f : ChanRec → ChanRec) : (s.modChan c f).now = s.now := rfl
@[simp] theorem modChan_freeCount (s : State) (c : Chan) (f : ChanRec → ChanRec) : (s.modChan c f).freeCount = s.freeCount := rfl
@[simp] theorem modChan_trunk (s : State) (c : Chan) (f : ChanRec → ChanRec) : (s.modChan c f).trunk = s.trunk := rfl
@[simp] theorem modChan_stagePorts (s : State) (c : Chan) (f : ChanRec → ChanRec) : (s.modChan c f).stagePorts = s.stagePorts := rfl
@[simp] theorem modChan_originSeq (s : State) (c : Chan) (f : ChanRec → ChanRec) : (s.modChan c f).originSeq = s.originSeq := rfl
@[simp] theorem modChan_caps (s : State) (c : Chan) (f : ChanRec → ChanRec) : (s.modChan c f).caps = s.caps := rfl
@[simp] theorem modChan_couple (s : State) (c : Chan) (f : ChanRec → ChanRec) : (s.modChan c f).couple = s.couple := rfl
@[simp] theorem modChan_rels (s : State) (c : Chan) (f : ChanRec → ChanRec) : (s.modChan c f).rels = s.rels := rfl
@[simp] theorem modChan_excl (s : State) (c : Chan) (f : ChanRec → ChanRec) : (s.modChan c f).excl = s.excl := rfl
@[simp] theorem modChan_gens (s : State) (c : Chan) (f : ChanRec → ChanRec) : (s.modChan c f).gens = s.gens := rfl
@[simp] theorem modChan_spacing (s : State) (c : Chan) (f : ChanRec → ChanRec) : (s.modChan c f).spacing = s.spacing := rfl
@[simp] theorem modChan_opts (s : State) (c : Chan) (f : ChanRec → ChanRec) : (s.modChan c f).opts = s.opts := rfl
@[simp] theorem modChan_settlePeriod (s : State) (c : Chan) (f : ChanRec → ChanRec) : (s.modChan c f).settlePeriod = s.settlePeriod := rfl
@[simp] theorem modChan_proposalTimeout (s : State) (c : Chan) (f : ChanRec → ChanRec) : (s.modChan c f).proposalTimeout = s.proposalTimeout := rfl
@[simp] theorem modChan_profiles (s : State) (c : Chan) (f : ChanRec → ChanRec) : (s.modChan c f).profiles = s.profiles := rfl
@[simp] theorem modChan_pools (s : State) (c : Chan) (f : ChanRec → ChanRec) : (s.modChan c f).pools = s.pools := rfl
@[simp] theorem modChan_engine (s : State) (c : Chan) (f : ChanRec → ChanRec) : (s.modChan c f).engine = s.engine := rfl
@[simp] theorem modChan_gate (s : State) (c : Chan) (f : ChanRec → ChanRec) : (s.modChan c f).gate = s.gate := rfl
@[simp] theorem modChan_heldFrames (s : State) (c : Chan) (f : ChanRec → ChanRec) : (s.modChan c f).heldFrames = s.heldFrames := rfl
@[simp] theorem modChan_notes (s : State) (c : Chan) (f : ChanRec → ChanRec) : (s.modChan c f).notes = s.notes := rfl
@[simp] theorem modChan_table (s : State) (c : Chan) (f : ChanRec → ChanRec) : (s.modChan c f).table = s.table := rfl
@[simp] theorem modChan_backlog (s : State) (c : Chan) (f : ChanRec → ChanRec) : (s.modChan c f).backlog = s.backlog := rfl
@[simp] theorem modChan_staging (s : State) (c : Chan) (f : ChanRec → ChanRec) : (s.modChan c f).staging = s.staging := rfl
@[simp] theorem modChan_arm (s : State) (c : Chan) (f : ChanRec → ChanRec) : (s.modChan c f).arm = s.arm := rfl
@[simp] theorem modChan_commits (s : State) (c : Chan) (f : ChanRec → ChanRec) : (s.modChan c f).commits = s.commits := rfl
@[simp] theorem modChan_confirm (s : State) (c : Chan) (f : ChanRec → ChanRec) : (s.modChan c f).confirm = s.confirm := rfl
@[simp] theorem modChan_lock (s : State) (c : Chan) (f : ChanRec → ChanRec) : (s.modChan c f).lock = s.lock := rfl
@[simp] theorem modChan_spans (s : State) (c : Chan) (f : ChanRec → ChanRec) : (s.modChan c f).spans = s.spans := rfl
@[simp] theorem modChan_surveys (s : State) (c : Chan) (f : ChanRec → ChanRec) : (s.modChan c f).surveys = s.surveys := rfl
@[simp] theorem modChan_enables (s : State) (c : Chan) (f : ChanRec → ChanRec) : (s.modChan c f).enables = s.enables := rfl
@[simp] theorem modChan_latches (s : State) (c : Chan) (f : ChanRec → ChanRec) : (s.modChan c f).latches = s.latches := rfl
@[simp] theorem modChan_counters (s : State) (c : Chan) (f : ChanRec → ChanRec) : (s.modChan c f).counters = s.counters := rfl
@[simp] theorem modChan_trunkDiscards (s : State) (c : Chan) (f : ChanRec → ChanRec) : (s.modChan c f).trunkDiscards = s.trunkDiscards := rfl
@[simp] theorem modChan_heldDiscards (s : State) (c : Chan) (f : ChanRec → ChanRec) : (s.modChan c f).heldDiscards = s.heldDiscards := rfl

/-! ### setCap -/

@[simp] theorem setCap_pending (s : State) (c : Chan) (e : Option Cap) : (s.setCap c e).pending = s.pending := rfl
@[simp] theorem setCap_now (s : State) (c : Chan) (e : Option Cap) : (s.setCap c e).now = s.now := rfl
@[simp] theorem setCap_freeCount (s : State) (c : Chan) (e : Option Cap) : (s.setCap c e).freeCount = s.freeCount := rfl
@[simp] theorem setCap_trunk (s : State) (c : Chan) (e : Option Cap) : (s.setCap c e).trunk = s.trunk := rfl
@[simp] theorem setCap_stagePorts (s : State) (c : Chan) (e : Option Cap) : (s.setCap c e).stagePorts = s.stagePorts := rfl
@[simp] theorem setCap_originSeq (s : State) (c : Chan) (e : Option Cap) : (s.setCap c e).originSeq = s.originSeq := rfl
@[simp] theorem setCap_chans (s : State) (c : Chan) (e : Option Cap) : (s.setCap c e).chans = s.chans := rfl
@[simp] theorem setCap_couple (s : State) (c : Chan) (e : Option Cap) : (s.setCap c e).couple = s.couple := rfl
@[simp] theorem setCap_rels (s : State) (c : Chan) (e : Option Cap) : (s.setCap c e).rels = s.rels := rfl
@[simp] theorem setCap_excl (s : State) (c : Chan) (e : Option Cap) : (s.setCap c e).excl = s.excl := rfl
@[simp] theorem setCap_gens (s : State) (c : Chan) (e : Option Cap) : (s.setCap c e).gens = s.gens := rfl
@[simp] theorem setCap_spacing (s : State) (c : Chan) (e : Option Cap) : (s.setCap c e).spacing = s.spacing := rfl
@[simp] theorem setCap_opts (s : State) (c : Chan) (e : Option Cap) : (s.setCap c e).opts = s.opts := rfl
@[simp] theorem setCap_settlePeriod (s : State) (c : Chan) (e : Option Cap) : (s.setCap c e).settlePeriod = s.settlePeriod := rfl
@[simp] theorem setCap_proposalTimeout (s : State) (c : Chan) (e : Option Cap) : (s.setCap c e).proposalTimeout = s.proposalTimeout := rfl
@[simp] theorem setCap_profiles (s : State) (c : Chan) (e : Option Cap) : (s.setCap c e).profiles = s.profiles := rfl
@[simp] theorem setCap_pools (s : State) (c : Chan) (e : Option Cap) : (s.setCap c e).pools = s.pools := rfl
@[simp] theorem setCap_engine (s : State) (c : Chan) (e : Option Cap) : (s.setCap c e).engine = s.engine := rfl
@[simp] theorem setCap_gate (s : State) (c : Chan) (e : Option Cap) : (s.setCap c e).gate = s.gate := rfl
@[simp] theorem setCap_heldFrames (s : State) (c : Chan) (e : Option Cap) : (s.setCap c e).heldFrames = s.heldFrames := rfl
@[simp] theorem setCap_notes (s : State) (c : Chan) (e : Option Cap) : (s.setCap c e).notes = s.notes := rfl
@[simp] theorem setCap_table (s : State) (c : Chan) (e : Option Cap) : (s.setCap c e).table = s.table := rfl
@[simp] theorem setCap_backlog (s : State) (c : Chan) (e : Option Cap) : (s.setCap c e).backlog = s.backlog := rfl
@[simp] theorem setCap_staging (s : State) (c : Chan) (e : Option Cap) : (s.setCap c e).staging = s.staging := rfl
@[simp] theorem setCap_arm (s : State) (c : Chan) (e : Option Cap) : (s.setCap c e).arm = s.arm := rfl
@[simp] theorem setCap_commits (s : State) (c : Chan) (e : Option Cap) : (s.setCap c e).commits = s.commits := rfl
@[simp] theorem setCap_confirm (s : State) (c : Chan) (e : Option Cap) : (s.setCap c e).confirm = s.confirm := rfl
@[simp] theorem setCap_lock (s : State) (c : Chan) (e : Option Cap) : (s.setCap c e).lock = s.lock := rfl
@[simp] theorem setCap_spans (s : State) (c : Chan) (e : Option Cap) : (s.setCap c e).spans = s.spans := rfl
@[simp] theorem setCap_surveys (s : State) (c : Chan) (e : Option Cap) : (s.setCap c e).surveys = s.surveys := rfl
@[simp] theorem setCap_enables (s : State) (c : Chan) (e : Option Cap) : (s.setCap c e).enables = s.enables := rfl
@[simp] theorem setCap_latches (s : State) (c : Chan) (e : Option Cap) : (s.setCap c e).latches = s.latches := rfl
@[simp] theorem setCap_counters (s : State) (c : Chan) (e : Option Cap) : (s.setCap c e).counters = s.counters := rfl
@[simp] theorem setCap_trunkDiscards (s : State) (c : Chan) (e : Option Cap) : (s.setCap c e).trunkDiscards = s.trunkDiscards := rfl
@[simp] theorem setCap_heldDiscards (s : State) (c : Chan) (e : Option Cap) : (s.setCap c e).heldDiscards = s.heldDiscards := rfl

/-! ### setStaged -/

@[simp] theorem setStaged_pending (s : State) (c : Chan) (e : Staged) : (s.setStaged c e).pending = s.pending := rfl
@[simp] theorem setStaged_now (s : State) (c : Chan) (e : Staged) : (s.setStaged c e).now = s.now := rfl
@[simp] theorem setStaged_freeCount (s : State) (c : Chan) (e : Staged) : (s.setStaged c e).freeCount = s.freeCount := rfl
@[simp] theorem setStaged_trunk (s : State) (c : Chan) (e : Staged) : (s.setStaged c e).trunk = s.trunk := rfl
@[simp] theorem setStaged_stagePorts (s : State) (c : Chan) (e : Staged) : (s.setStaged c e).stagePorts = s.stagePorts := rfl
@[simp] theorem setStaged_originSeq (s : State) (c : Chan) (e : Staged) : (s.setStaged c e).originSeq = s.originSeq := rfl
@[simp] theorem setStaged_chans (s : State) (c : Chan) (e : Staged) : (s.setStaged c e).chans = s.chans := rfl
@[simp] theorem setStaged_caps (s : State) (c : Chan) (e : Staged) : (s.setStaged c e).caps = s.caps := rfl
@[simp] theorem setStaged_couple (s : State) (c : Chan) (e : Staged) : (s.setStaged c e).couple = s.couple := rfl
@[simp] theorem setStaged_rels (s : State) (c : Chan) (e : Staged) : (s.setStaged c e).rels = s.rels := rfl
@[simp] theorem setStaged_excl (s : State) (c : Chan) (e : Staged) : (s.setStaged c e).excl = s.excl := rfl
@[simp] theorem setStaged_gens (s : State) (c : Chan) (e : Staged) : (s.setStaged c e).gens = s.gens := rfl
@[simp] theorem setStaged_spacing (s : State) (c : Chan) (e : Staged) : (s.setStaged c e).spacing = s.spacing := rfl
@[simp] theorem setStaged_opts (s : State) (c : Chan) (e : Staged) : (s.setStaged c e).opts = s.opts := rfl
@[simp] theorem setStaged_settlePeriod (s : State) (c : Chan) (e : Staged) : (s.setStaged c e).settlePeriod = s.settlePeriod := rfl
@[simp] theorem setStaged_proposalTimeout (s : State) (c : Chan) (e : Staged) : (s.setStaged c e).proposalTimeout = s.proposalTimeout := rfl
@[simp] theorem setStaged_profiles (s : State) (c : Chan) (e : Staged) : (s.setStaged c e).profiles = s.profiles := rfl
@[simp] theorem setStaged_pools (s : State) (c : Chan) (e : Staged) : (s.setStaged c e).pools = s.pools := rfl
@[simp] theorem setStaged_engine (s : State) (c : Chan) (e : Staged) : (s.setStaged c e).engine = s.engine := rfl
@[simp] theorem setStaged_gate (s : State) (c : Chan) (e : Staged) : (s.setStaged c e).gate = s.gate := rfl
@[simp] theorem setStaged_heldFrames (s : State) (c : Chan) (e : Staged) : (s.setStaged c e).heldFrames = s.heldFrames := rfl
@[simp] theorem setStaged_notes (s : State) (c : Chan) (e : Staged) : (s.setStaged c e).notes = s.notes := rfl
@[simp] theorem setStaged_table (s : State) (c : Chan) (e : Staged) : (s.setStaged c e).table = s.table := rfl
@[simp] theorem setStaged_backlog (s : State) (c : Chan) (e : Staged) : (s.setStaged c e).backlog = s.backlog := rfl
@[simp] theorem setStaged_arm (s : State) (c : Chan) (e : Staged) : (s.setStaged c e).arm = s.arm := rfl
@[simp] theorem setStaged_commits (s : State) (c : Chan) (e : Staged) : (s.setStaged c e).commits = s.commits := rfl
@[simp] theorem setStaged_confirm (s : State) (c : Chan) (e : Staged) : (s.setStaged c e).confirm = s.confirm := rfl
@[simp] theorem setStaged_lock (s : State) (c : Chan) (e : Staged) : (s.setStaged c e).lock = s.lock := rfl
@[simp] theorem setStaged_spans (s : State) (c : Chan) (e : Staged) : (s.setStaged c e).spans = s.spans := rfl
@[simp] theorem setStaged_surveys (s : State) (c : Chan) (e : Staged) : (s.setStaged c e).surveys = s.surveys := rfl
@[simp] theorem setStaged_enables (s : State) (c : Chan) (e : Staged) : (s.setStaged c e).enables = s.enables := rfl
@[simp] theorem setStaged_latches (s : State) (c : Chan) (e : Staged) : (s.setStaged c e).latches = s.latches := rfl
@[simp] theorem setStaged_counters (s : State) (c : Chan) (e : Staged) : (s.setStaged c e).counters = s.counters := rfl
@[simp] theorem setStaged_trunkDiscards (s : State) (c : Chan) (e : Staged) : (s.setStaged c e).trunkDiscards = s.trunkDiscards := rfl
@[simp] theorem setStaged_heldDiscards (s : State) (c : Chan) (e : Staged) : (s.setStaged c e).heldDiscards = s.heldDiscards := rfl

/-! ### setPool -/

@[simp] theorem setPool_pending (s : State) (g : Group) (p : List PoolEntry) : (s.setPool g p).pending = s.pending := rfl
@[simp] theorem setPool_now (s : State) (g : Group) (p : List PoolEntry) : (s.setPool g p).now = s.now := rfl
@[simp] theorem setPool_freeCount (s : State) (g : Group) (p : List PoolEntry) : (s.setPool g p).freeCount = s.freeCount := rfl
@[simp] theorem setPool_trunk (s : State) (g : Group) (p : List PoolEntry) : (s.setPool g p).trunk = s.trunk := rfl
@[simp] theorem setPool_stagePorts (s : State) (g : Group) (p : List PoolEntry) : (s.setPool g p).stagePorts = s.stagePorts := rfl
@[simp] theorem setPool_originSeq (s : State) (g : Group) (p : List PoolEntry) : (s.setPool g p).originSeq = s.originSeq := rfl
@[simp] theorem setPool_chans (s : State) (g : Group) (p : List PoolEntry) : (s.setPool g p).chans = s.chans := rfl
@[simp] theorem setPool_caps (s : State) (g : Group) (p : List PoolEntry) : (s.setPool g p).caps = s.caps := rfl
@[simp] theorem setPool_couple (s : State) (g : Group) (p : List PoolEntry) : (s.setPool g p).couple = s.couple := rfl
@[simp] theorem setPool_rels (s : State) (g : Group) (p : List PoolEntry) : (s.setPool g p).rels = s.rels := rfl
@[simp] theorem setPool_excl (s : State) (g : Group) (p : List PoolEntry) : (s.setPool g p).excl = s.excl := rfl
@[simp] theorem setPool_gens (s : State) (g : Group) (p : List PoolEntry) : (s.setPool g p).gens = s.gens := rfl
@[simp] theorem setPool_spacing (s : State) (g : Group) (p : List PoolEntry) : (s.setPool g p).spacing = s.spacing := rfl
@[simp] theorem setPool_opts (s : State) (g : Group) (p : List PoolEntry) : (s.setPool g p).opts = s.opts := rfl
@[simp] theorem setPool_settlePeriod (s : State) (g : Group) (p : List PoolEntry) : (s.setPool g p).settlePeriod = s.settlePeriod := rfl
@[simp] theorem setPool_proposalTimeout (s : State) (g : Group) (p : List PoolEntry) : (s.setPool g p).proposalTimeout = s.proposalTimeout := rfl
@[simp] theorem setPool_profiles (s : State) (g : Group) (p : List PoolEntry) : (s.setPool g p).profiles = s.profiles := rfl
@[simp] theorem setPool_engine (s : State) (g : Group) (p : List PoolEntry) : (s.setPool g p).engine = s.engine := rfl
@[simp] theorem setPool_gate (s : State) (g : Group) (p : List PoolEntry) : (s.setPool g p).gate = s.gate := rfl
@[simp] theorem setPool_heldFrames (s : State) (g : Group) (p : List PoolEntry) : (s.setPool g p).heldFrames = s.heldFrames := rfl
@[simp] theorem setPool_notes (s : State) (g : Group) (p : List PoolEntry) : (s.setPool g p).notes = s.notes := rfl
@[simp] theorem setPool_table (s : State) (g : Group) (p : List PoolEntry) : (s.setPool g p).table = s.table := rfl
@[simp] theorem setPool_backlog (s : State) (g : Group) (p : List PoolEntry) : (s.setPool g p).backlog = s.backlog := rfl
@[simp] theorem setPool_staging (s : State) (g : Group) (p : List PoolEntry) : (s.setPool g p).staging = s.staging := rfl
@[simp] theorem setPool_arm (s : State) (g : Group) (p : List PoolEntry) : (s.setPool g p).arm = s.arm := rfl
@[simp] theorem setPool_commits (s : State) (g : Group) (p : List PoolEntry) : (s.setPool g p).commits = s.commits := rfl
@[simp] theorem setPool_confirm (s : State) (g : Group) (p : List PoolEntry) : (s.setPool g p).confirm = s.confirm := rfl
@[simp] theorem setPool_lock (s : State) (g : Group) (p : List PoolEntry) : (s.setPool g p).lock = s.lock := rfl
@[simp] theorem setPool_spans (s : State) (g : Group) (p : List PoolEntry) : (s.setPool g p).spans = s.spans := rfl
@[simp] theorem setPool_surveys (s : State) (g : Group) (p : List PoolEntry) : (s.setPool g p).surveys = s.surveys := rfl
@[simp] theorem setPool_enables (s : State) (g : Group) (p : List PoolEntry) : (s.setPool g p).enables = s.enables := rfl
@[simp] theorem setPool_latches (s : State) (g : Group) (p : List PoolEntry) : (s.setPool g p).latches = s.latches := rfl
@[simp] theorem setPool_counters (s : State) (g : Group) (p : List PoolEntry) : (s.setPool g p).counters = s.counters := rfl
@[simp] theorem setPool_trunkDiscards (s : State) (g : Group) (p : List PoolEntry) : (s.setPool g p).trunkDiscards = s.trunkDiscards := rfl
@[simp] theorem setPool_heldDiscards (s : State) (g : Group) (p : List PoolEntry) : (s.setPool g p).heldDiscards = s.heldDiscards := rfl

/-! ### setCommit -/

@[simp] theorem setCommit_pending (s : State) (z : Stage) (c : CommitState) : (s.setCommit z c).pending = s.pending := rfl
@[simp] theorem setCommit_now (s : State) (z : Stage) (c : CommitState) : (s.setCommit z c).now = s.now := rfl
@[simp] theorem setCommit_freeCount (s : State) (z : Stage) (c : CommitState) : (s.setCommit z c).freeCount = s.freeCount := rfl
@[simp] theorem setCommit_trunk (s : State) (z : Stage) (c : CommitState) : (s.setCommit z c).trunk = s.trunk := rfl
@[simp] theorem setCommit_stagePorts (s : State) (z : Stage) (c : CommitState) : (s.setCommit z c).stagePorts = s.stagePorts := rfl
@[simp] theorem setCommit_originSeq (s : State) (z : Stage) (c : CommitState) : (s.setCommit z c).originSeq = s.originSeq := rfl
@[simp] theorem setCommit_chans (s : State) (z : Stage) (c : CommitState) : (s.setCommit z c).chans = s.chans := rfl
@[simp] theorem setCommit_caps (s : State) (z : Stage) (c : CommitState) : (s.setCommit z c).caps = s.caps := rfl
@[simp] theorem setCommit_couple (s : State) (z : Stage) (c : CommitState) : (s.setCommit z c).couple = s.couple := rfl
@[simp] theorem setCommit_rels (s : State) (z : Stage) (c : CommitState) : (s.setCommit z c).rels = s.rels := rfl
@[simp] theorem setCommit_excl (s : State) (z : Stage) (c : CommitState) : (s.setCommit z c).excl = s.excl := rfl
@[simp] theorem setCommit_gens (s : State) (z : Stage) (c : CommitState) : (s.setCommit z c).gens = s.gens := rfl
@[simp] theorem setCommit_spacing (s : State) (z : Stage) (c : CommitState) : (s.setCommit z c).spacing = s.spacing := rfl
@[simp] theorem setCommit_opts (s : State) (z : Stage) (c : CommitState) : (s.setCommit z c).opts = s.opts := rfl
@[simp] theorem setCommit_settlePeriod (s : State) (z : Stage) (c : CommitState) : (s.setCommit z c).settlePeriod = s.settlePeriod := rfl
@[simp] theorem setCommit_proposalTimeout (s : State) (z : Stage) (c : CommitState) : (s.setCommit z c).proposalTimeout = s.proposalTimeout := rfl
@[simp] theorem setCommit_profiles (s : State) (z : Stage) (c : CommitState) : (s.setCommit z c).profiles = s.profiles := rfl
@[simp] theorem setCommit_pools (s : State) (z : Stage) (c : CommitState) : (s.setCommit z c).pools = s.pools := rfl
@[simp] theorem setCommit_engine (s : State) (z : Stage) (c : CommitState) : (s.setCommit z c).engine = s.engine := rfl
@[simp] theorem setCommit_gate (s : State) (z : Stage) (c : CommitState) : (s.setCommit z c).gate = s.gate := rfl
@[simp] theorem setCommit_heldFrames (s : State) (z : Stage) (c : CommitState) : (s.setCommit z c).heldFrames = s.heldFrames := rfl
@[simp] theorem setCommit_notes (s : State) (z : Stage) (c : CommitState) : (s.setCommit z c).notes = s.notes := rfl
@[simp] theorem setCommit_table (s : State) (z : Stage) (c : CommitState) : (s.setCommit z c).table = s.table := rfl
@[simp] theorem setCommit_backlog (s : State) (z : Stage) (c : CommitState) : (s.setCommit z c).backlog = s.backlog := rfl
@[simp] theorem setCommit_staging (s : State) (z : Stage) (c : CommitState) : (s.setCommit z c).staging = s.staging := rfl
@[simp] theorem setCommit_arm (s : State) (z : Stage) (c : CommitState) : (s.setCommit z c).arm = s.arm := rfl
@[simp] theorem setCommit_confirm (s : State) (z : Stage) (c : CommitState) : (s.setCommit z c).confirm = s.confirm := rfl
@[simp] theorem setCommit_lock (s : State) (z : Stage) (c : CommitState) : (s.setCommit z c).lock = s.lock := rfl
@[simp] theorem setCommit_spans (s : State) (z : Stage) (c : CommitState) : (s.setCommit z c).spans = s.spans := rfl
@[simp] theorem setCommit_surveys (s : State) (z : Stage) (c : CommitState) : (s.setCommit z c).surveys = s.surveys := rfl
@[simp] theorem setCommit_enables (s : State) (z : Stage) (c : CommitState) : (s.setCommit z c).enables = s.enables := rfl
@[simp] theorem setCommit_latches (s : State) (z : Stage) (c : CommitState) : (s.setCommit z c).latches = s.latches := rfl
@[simp] theorem setCommit_counters (s : State) (z : Stage) (c : CommitState) : (s.setCommit z c).counters = s.counters := rfl
@[simp] theorem setCommit_trunkDiscards (s : State) (z : Stage) (c : CommitState) : (s.setCommit z c).trunkDiscards = s.trunkDiscards := rfl
@[simp] theorem setCommit_heldDiscards (s : State) (z : Stage) (c : CommitState) : (s.setCommit z c).heldDiscards = s.heldDiscards := rfl

/-! ### setService -/

@[simp] theorem setService_pending (s : State) (v : Option Service) : (s.setService v).pending = s.pending := rfl
@[simp] theorem setService_now (s : State) (v : Option Service) : (s.setService v).now = s.now := rfl
@[simp] theorem setService_freeCount (s : State) (v : Option Service) : (s.setService v).freeCount = s.freeCount := rfl
@[simp] theorem setService_trunk (s : State) (v : Option Service) : (s.setService v).trunk = s.trunk := rfl
@[simp] theorem setService_stagePorts (s : State) (v : Option Service) : (s.setService v).stagePorts = s.stagePorts := rfl
@[simp] theorem setService_originSeq (s : State) (v : Option Service) : (s.setService v).originSeq = s.originSeq := rfl
@[simp] theorem setService_chans (s : State) (v : Option Service) : (s.setService v).chans = s.chans := rfl
@[simp] theorem setService_caps (s : State) (v : Option Service) : (s.setService v).caps = s.caps := rfl
@[simp] theorem setService_couple (s : State) (v : Option Service) : (s.setService v).couple = s.couple := rfl
@[simp] theorem setService_rels (s : State) (v : Option Service) : (s.setService v).rels = s.rels := rfl
@[simp] theorem setService_excl (s : State) (v : Option Service) : (s.setService v).excl = s.excl := rfl
@[simp] theorem setService_gens (s : State) (v : Option Service) : (s.setService v).gens = s.gens := rfl
@[simp] theorem setService_spacing (s : State) (v : Option Service) : (s.setService v).spacing = s.spacing := rfl
@[simp] theorem setService_opts (s : State) (v : Option Service) : (s.setService v).opts = s.opts := rfl
@[simp] theorem setService_settlePeriod (s : State) (v : Option Service) : (s.setService v).settlePeriod = s.settlePeriod := rfl
@[simp] theorem setService_proposalTimeout (s : State) (v : Option Service) : (s.setService v).proposalTimeout = s.proposalTimeout := rfl
@[simp] theorem setService_profiles (s : State) (v : Option Service) : (s.setService v).profiles = s.profiles := rfl
@[simp] theorem setService_pools (s : State) (v : Option Service) : (s.setService v).pools = s.pools := rfl
@[simp] theorem setService_gate (s : State) (v : Option Service) : (s.setService v).gate = s.gate := rfl
@[simp] theorem setService_heldFrames (s : State) (v : Option Service) : (s.setService v).heldFrames = s.heldFrames := rfl
@[simp] theorem setService_notes (s : State) (v : Option Service) : (s.setService v).notes = s.notes := rfl
@[simp] theorem setService_table (s : State) (v : Option Service) : (s.setService v).table = s.table := rfl
@[simp] theorem setService_backlog (s : State) (v : Option Service) : (s.setService v).backlog = s.backlog := rfl
@[simp] theorem setService_staging (s : State) (v : Option Service) : (s.setService v).staging = s.staging := rfl
@[simp] theorem setService_arm (s : State) (v : Option Service) : (s.setService v).arm = s.arm := rfl
@[simp] theorem setService_commits (s : State) (v : Option Service) : (s.setService v).commits = s.commits := rfl
@[simp] theorem setService_confirm (s : State) (v : Option Service) : (s.setService v).confirm = s.confirm := rfl
@[simp] theorem setService_lock (s : State) (v : Option Service) : (s.setService v).lock = s.lock := rfl
@[simp] theorem setService_spans (s : State) (v : Option Service) : (s.setService v).spans = s.spans := rfl
@[simp] theorem setService_surveys (s : State) (v : Option Service) : (s.setService v).surveys = s.surveys := rfl
@[simp] theorem setService_enables (s : State) (v : Option Service) : (s.setService v).enables = s.enables := rfl
@[simp] theorem setService_latches (s : State) (v : Option Service) : (s.setService v).latches = s.latches := rfl
@[simp] theorem setService_counters (s : State) (v : Option Service) : (s.setService v).counters = s.counters := rfl
@[simp] theorem setService_trunkDiscards (s : State) (v : Option Service) : (s.setService v).trunkDiscards = s.trunkDiscards := rfl
@[simp] theorem setService_heldDiscards (s : State) (v : Option Service) : (s.setService v).heldDiscards = s.heldDiscards := rfl

/-! ### putEntry -/

@[simp] theorem putEntry_pending (s : State) (e : Entry) : (s.putEntry e).pending = s.pending := rfl
@[simp] theorem putEntry_now (s : State) (e : Entry) : (s.putEntry e).now = s.now := rfl
@[simp] theorem putEntry_freeCount (s : State) (e : Entry) : (s.putEntry e).freeCount = s.freeCount := rfl
@[simp] theorem putEntry_trunk (s : State) (e : Entry) : (s.putEntry e).trunk = s.trunk := rfl
@[simp] theorem putEntry_stagePorts (s : State) (e : Entry) : (s.putEntry e).stagePorts = s.stagePorts := rfl
@[simp] theorem putEntry_originSeq (s : State) (e : Entry) : (s.putEntry e).originSeq = s.originSeq := rfl
@[simp] theorem putEntry_chans (s : State) (e : Entry) : (s.putEntry e).chans = s.chans := rfl
@[simp] theorem putEntry_caps (s : State) (e : Entry) : (s.putEntry e).caps = s.caps := rfl
@[simp] theorem putEntry_couple (s : State) (e : Entry) : (s.putEntry e).couple = s.couple := rfl
@[simp] theorem putEntry_rels (s : State) (e : Entry) : (s.putEntry e).rels = s.rels := rfl
@[simp] theorem putEntry_excl (s : State) (e : Entry) : (s.putEntry e).excl = s.excl := rfl
@[simp] theorem putEntry_gens (s : State) (e : Entry) : (s.putEntry e).gens = s.gens := rfl
@[simp] theorem putEntry_spacing (s : State) (e : Entry) : (s.putEntry e).spacing = s.spacing := rfl
@[simp] theorem putEntry_opts (s : State) (e : Entry) : (s.putEntry e).opts = s.opts := rfl
@[simp] theorem putEntry_settlePeriod (s : State) (e : Entry) : (s.putEntry e).settlePeriod = s.settlePeriod := rfl
@[simp] theorem putEntry_proposalTimeout (s : State) (e : Entry) : (s.putEntry e).proposalTimeout = s.proposalTimeout := rfl
@[simp] theorem putEntry_profiles (s : State) (e : Entry) : (s.putEntry e).profiles = s.profiles := rfl
@[simp] theorem putEntry_pools (s : State) (e : Entry) : (s.putEntry e).pools = s.pools := rfl
@[simp] theorem putEntry_engine (s : State) (e : Entry) : (s.putEntry e).engine = s.engine := rfl
@[simp] theorem putEntry_gate (s : State) (e : Entry) : (s.putEntry e).gate = s.gate := rfl
@[simp] theorem putEntry_heldFrames (s : State) (e : Entry) : (s.putEntry e).heldFrames = s.heldFrames := rfl
@[simp] theorem putEntry_notes (s : State) (e : Entry) : (s.putEntry e).notes = s.notes := rfl
@[simp] theorem putEntry_backlog (s : State) (e : Entry) : (s.putEntry e).backlog = s.backlog := rfl
@[simp] theorem putEntry_staging (s : State) (e : Entry) : (s.putEntry e).staging = s.staging := rfl
@[simp] theorem putEntry_arm (s : State) (e : Entry) : (s.putEntry e).arm = s.arm := rfl
@[simp] theorem putEntry_commits (s : State) (e : Entry) : (s.putEntry e).commits = s.commits := rfl
@[simp] theorem putEntry_confirm (s : State) (e : Entry) : (s.putEntry e).confirm = s.confirm := rfl
@[simp] theorem putEntry_lock (s : State) (e : Entry) : (s.putEntry e).lock = s.lock := rfl
@[simp] theorem putEntry_spans (s : State) (e : Entry) : (s.putEntry e).spans = s.spans := rfl
@[simp] theorem putEntry_surveys (s : State) (e : Entry) : (s.putEntry e).surveys = s.surveys := rfl
@[simp] theorem putEntry_enables (s : State) (e : Entry) : (s.putEntry e).enables = s.enables := rfl
@[simp] theorem putEntry_latches (s : State) (e : Entry) : (s.putEntry e).latches = s.latches := rfl
@[simp] theorem putEntry_counters (s : State) (e : Entry) : (s.putEntry e).counters = s.counters := rfl
@[simp] theorem putEntry_trunkDiscards (s : State) (e : Entry) : (s.putEntry e).trunkDiscards = s.trunkDiscards := rfl
@[simp] theorem putEntry_heldDiscards (s : State) (e : Entry) : (s.putEntry e).heldDiscards = s.heldDiscards := rfl

/-! ### dropEntry -/

@[simp] theorem dropEntry_pending (s : State) (c : Chan) : (s.dropEntry c).pending = s.pending := rfl
@[simp] theorem dropEntry_now (s : State) (c : Chan) : (s.dropEntry c).now = s.now := rfl
@[simp] theorem dropEntry_freeCount (s : State) (c : Chan) : (s.dropEntry c).freeCount = s.freeCount := rfl
@[simp] theorem dropEntry_trunk (s : State) (c : Chan) : (s.dropEntry c).trunk = s.trunk := rfl
@[simp] theorem dropEntry_stagePorts (s : State) (c : Chan) : (s.dropEntry c).stagePorts = s.stagePorts := rfl
@[simp] theorem dropEntry_originSeq (s : State) (c : Chan) : (s.dropEntry c).originSeq = s.originSeq := rfl
@[simp] theorem dropEntry_chans (s : State) (c : Chan) : (s.dropEntry c).chans = s.chans := rfl
@[simp] theorem dropEntry_caps (s : State) (c : Chan) : (s.dropEntry c).caps = s.caps := rfl
@[simp] theorem dropEntry_couple (s : State) (c : Chan) : (s.dropEntry c).couple = s.couple := rfl
@[simp] theorem dropEntry_rels (s : State) (c : Chan) : (s.dropEntry c).rels = s.rels := rfl
@[simp] theorem dropEntry_excl (s : State) (c : Chan) : (s.dropEntry c).excl = s.excl := rfl
@[simp] theorem dropEntry_gens (s : State) (c : Chan) : (s.dropEntry c).gens = s.gens := rfl
@[simp] theorem dropEntry_spacing (s : State) (c : Chan) : (s.dropEntry c).spacing = s.spacing := rfl
@[simp] theorem dropEntry_opts (s : State) (c : Chan) : (s.dropEntry c).opts = s.opts := rfl
@[simp] theorem dropEntry_settlePeriod (s : State) (c : Chan) : (s.dropEntry c).settlePeriod = s.settlePeriod := rfl
@[simp] theorem dropEntry_proposalTimeout (s : State) (c : Chan) : (s.dropEntry c).proposalTimeout = s.proposalTimeout := rfl
@[simp] theorem dropEntry_profiles (s : State) (c : Chan) : (s.dropEntry c).profiles = s.profiles := rfl
@[simp] theorem dropEntry_pools (s : State) (c : Chan) : (s.dropEntry c).pools = s.pools := rfl
@[simp] theorem dropEntry_engine (s : State) (c : Chan) : (s.dropEntry c).engine = s.engine := rfl
@[simp] theorem dropEntry_gate (s : State) (c : Chan) : (s.dropEntry c).gate = s.gate := rfl
@[simp] theorem dropEntry_heldFrames (s : State) (c : Chan) : (s.dropEntry c).heldFrames = s.heldFrames := rfl
@[simp] theorem dropEntry_notes (s : State) (c : Chan) : (s.dropEntry c).notes = s.notes := rfl
@[simp] theorem dropEntry_backlog (s : State) (c : Chan) : (s.dropEntry c).backlog = s.backlog := rfl
@[simp] theorem dropEntry_staging (s : State) (c : Chan) : (s.dropEntry c).staging = s.staging := rfl
@[simp] theorem dropEntry_arm (s : State) (c : Chan) : (s.dropEntry c).arm = s.arm := rfl
@[simp] theorem dropEntry_commits (s : State) (c : Chan) : (s.dropEntry c).commits = s.commits := rfl
@[simp] theorem dropEntry_confirm (s : State) (c : Chan) : (s.dropEntry c).confirm = s.confirm := rfl
@[simp] theorem dropEntry_lock (s : State) (c : Chan) : (s.dropEntry c).lock = s.lock := rfl
@[simp] theorem dropEntry_spans (s : State) (c : Chan) : (s.dropEntry c).spans = s.spans := rfl
@[simp] theorem dropEntry_surveys (s : State) (c : Chan) : (s.dropEntry c).surveys = s.surveys := rfl
@[simp] theorem dropEntry_enables (s : State) (c : Chan) : (s.dropEntry c).enables = s.enables := rfl
@[simp] theorem dropEntry_latches (s : State) (c : Chan) : (s.dropEntry c).latches = s.latches := rfl
@[simp] theorem dropEntry_counters (s : State) (c : Chan) : (s.dropEntry c).counters = s.counters := rfl
@[simp] theorem dropEntry_trunkDiscards (s : State) (c : Chan) : (s.dropEntry c).trunkDiscards = s.trunkDiscards := rfl
@[simp] theorem dropEntry_heldDiscards (s : State) (c : Chan) : (s.dropEntry c).heldDiscards = s.heldDiscards := rfl

/-! ### dropItem -/

@[simp] theorem dropItem_pending (s : State) (c : Chan) : (s.dropItem c).pending = s.pending := rfl
@[simp] theorem dropItem_now (s : State) (c : Chan) : (s.dropItem c).now = s.now := rfl
@[simp] theorem dropItem_freeCount (s : State) (c : Chan) : (s.dropItem c).freeCount = s.freeCount := rfl
@[simp] theorem dropItem_trunk (s : State) (c : Chan) : (s.dropItem c).trunk = s.trunk := rfl
@[simp] theorem dropItem_stagePorts (s : State) (c : Chan) : (s.dropItem c).stagePorts = s.stagePorts := rfl
@[simp] theorem dropItem_originSeq (s : State) (c : Chan) : (s.dropItem c).originSeq = s.originSeq := rfl
@[simp] theorem dropItem_chans (s : State) (c : Chan) : (s.dropItem c).chans = s.chans := rfl
@[simp] theorem dropItem_caps (s : State) (c : Chan) : (s.dropItem c).caps = s.caps := rfl
@[simp] theorem dropItem_couple (s : State) (c : Chan) : (s.dropItem c).couple = s.couple := rfl
@[simp] theorem dropItem_rels (s : State) (c : Chan) : (s.dropItem c).rels = s.rels := rfl
@[simp] theorem dropItem_excl (s : State) (c : Chan) : (s.dropItem c).excl = s.excl := rfl
@[simp] theorem dropItem_gens (s : State) (c : Chan) : (s.dropItem c).gens = s.gens := rfl
@[simp] theorem dropItem_spacing (s : State) (c : Chan) : (s.dropItem c).spacing = s.spacing := rfl
@[simp] theorem dropItem_opts (s : State) (c : Chan) : (s.dropItem c).opts = s.opts := rfl
@[simp] theorem dropItem_settlePeriod (s : State) (c : Chan) : (s.dropItem c).settlePeriod = s.settlePeriod := rfl
@[simp] theorem dropItem_proposalTimeout (s : State) (c : Chan) : (s.dropItem c).proposalTimeout = s.proposalTimeout := rfl
@[simp] theorem dropItem_profiles (s : State) (c : Chan) : (s.dropItem c).profiles = s.profiles := rfl
@[simp] theorem dropItem_pools (s : State) (c : Chan) : (s.dropItem c).pools = s.pools := rfl
@[simp] theorem dropItem_engine (s : State) (c : Chan) : (s.dropItem c).engine = s.engine := rfl
@[simp] theorem dropItem_gate (s : State) (c : Chan) : (s.dropItem c).gate = s.gate := rfl
@[simp] theorem dropItem_heldFrames (s : State) (c : Chan) : (s.dropItem c).heldFrames = s.heldFrames := rfl
@[simp] theorem dropItem_notes (s : State) (c : Chan) : (s.dropItem c).notes = s.notes := rfl
@[simp] theorem dropItem_table (s : State) (c : Chan) : (s.dropItem c).table = s.table := rfl
@[simp] theorem dropItem_staging (s : State) (c : Chan) : (s.dropItem c).staging = s.staging := rfl
@[simp] theorem dropItem_arm (s : State) (c : Chan) : (s.dropItem c).arm = s.arm := rfl
@[simp] theorem dropItem_commits (s : State) (c : Chan) : (s.dropItem c).commits = s.commits := rfl
@[simp] theorem dropItem_confirm (s : State) (c : Chan) : (s.dropItem c).confirm = s.confirm := rfl
@[simp] theorem dropItem_lock (s : State) (c : Chan) : (s.dropItem c).lock = s.lock := rfl
@[simp] theorem dropItem_spans (s : State) (c : Chan) : (s.dropItem c).spans = s.spans := rfl
@[simp] theorem dropItem_surveys (s : State) (c : Chan) : (s.dropItem c).surveys = s.surveys := rfl
@[simp] theorem dropItem_enables (s : State) (c : Chan) : (s.dropItem c).enables = s.enables := rfl
@[simp] theorem dropItem_latches (s : State) (c : Chan) : (s.dropItem c).latches = s.latches := rfl
@[simp] theorem dropItem_counters (s : State) (c : Chan) : (s.dropItem c).counters = s.counters := rfl
@[simp] theorem dropItem_trunkDiscards (s : State) (c : Chan) : (s.dropItem c).trunkDiscards = s.trunkDiscards := rfl
@[simp] theorem dropItem_heldDiscards (s : State) (c : Chan) : (s.dropItem c).heldDiscards = s.heldDiscards := rfl

/-! ### dropNote -/

@[simp] theorem dropNote_pending (s : State) (c : Chan) : (s.dropNote c).pending = s.pending := rfl
@[simp] theorem dropNote_now (s : State) (c : Chan) : (s.dropNote c).now = s.now := rfl
@[simp] theorem dropNote_freeCount (s : State) (c : Chan) : (s.dropNote c).freeCount = s.freeCount := rfl
@[simp] theorem dropNote_trunk (s : State) (c : Chan) : (s.dropNote c).trunk = s.trunk := rfl
@[simp] theorem dropNote_stagePorts (s : State) (c : Chan) : (s.dropNote c).stagePorts = s.stagePorts := rfl
@[simp] theorem dropNote_originSeq (s : State) (c : Chan) : (s.dropNote c).originSeq = s.originSeq := rfl
@[simp] theorem dropNote_chans (s : State) (c : Chan) : (s.dropNote c).chans = s.chans := rfl
@[simp] theorem dropNote_caps (s : State) (c : Chan) : (s.dropNote c).caps = s.caps := rfl
@[simp] theorem dropNote_couple (s : State) (c : Chan) : (s.dropNote c).couple = s.couple := rfl
@[simp] theorem dropNote_rels (s : State) (c : Chan) : (s.dropNote c).rels = s.rels := rfl
@[simp] theorem dropNote_excl (s : State) (c : Chan) : (s.dropNote c).excl = s.excl := rfl
@[simp] theorem dropNote_gens (s : State) (c : Chan) : (s.dropNote c).gens = s.gens := rfl
@[simp] theorem dropNote_spacing (s : State) (c : Chan) : (s.dropNote c).spacing = s.spacing := rfl
@[simp] theorem dropNote_opts (s : State) (c : Chan) : (s.dropNote c).opts = s.opts := rfl
@[simp] theorem dropNote_settlePeriod (s : State) (c : Chan) : (s.dropNote c).settlePeriod = s.settlePeriod := rfl
@[simp] theorem dropNote_proposalTimeout (s : State) (c : Chan) : (s.dropNote c).proposalTimeout = s.proposalTimeout := rfl
@[simp] theorem dropNote_profiles (s : State) (c : Chan) : (s.dropNote c).profiles = s.profiles := rfl
@[simp] theorem dropNote_pools (s : State) (c : Chan) : (s.dropNote c).pools = s.pools := rfl
@[simp] theorem dropNote_engine (s : State) (c : Chan) : (s.dropNote c).engine = s.engine := rfl
@[simp] theorem dropNote_gate (s : State) (c : Chan) : (s.dropNote c).gate = s.gate := rfl
@[simp] theorem dropNote_heldFrames (s : State) (c : Chan) : (s.dropNote c).heldFrames = s.heldFrames := rfl
@[simp] theorem dropNote_table (s : State) (c : Chan) : (s.dropNote c).table = s.table := rfl
@[simp] theorem dropNote_backlog (s : State) (c : Chan) : (s.dropNote c).backlog = s.backlog := rfl
@[simp] theorem dropNote_staging (s : State) (c : Chan) : (s.dropNote c).staging = s.staging := rfl
@[simp] theorem dropNote_arm (s : State) (c : Chan) : (s.dropNote c).arm = s.arm := rfl
@[simp] theorem dropNote_commits (s : State) (c : Chan) : (s.dropNote c).commits = s.commits := rfl
@[simp] theorem dropNote_confirm (s : State) (c : Chan) : (s.dropNote c).confirm = s.confirm := rfl
@[simp] theorem dropNote_lock (s : State) (c : Chan) : (s.dropNote c).lock = s.lock := rfl
@[simp] theorem dropNote_spans (s : State) (c : Chan) : (s.dropNote c).spans = s.spans := rfl
@[simp] theorem dropNote_surveys (s : State) (c : Chan) : (s.dropNote c).surveys = s.surveys := rfl
@[simp] theorem dropNote_enables (s : State) (c : Chan) : (s.dropNote c).enables = s.enables := rfl
@[simp] theorem dropNote_latches (s : State) (c : Chan) : (s.dropNote c).latches = s.latches := rfl
@[simp] theorem dropNote_counters (s : State) (c : Chan) : (s.dropNote c).counters = s.counters := rfl
@[simp] theorem dropNote_trunkDiscards (s : State) (c : Chan) : (s.dropNote c).trunkDiscards = s.trunkDiscards := rfl
@[simp] theorem dropNote_heldDiscards (s : State) (c : Chan) : (s.dropNote c).heldDiscards = s.heldDiscards := rfl

/-! ### bumpStage -/

@[simp] theorem bumpStage_pending (z : Stage) (k : Ctr) (s : State) : (bumpStage z k s).pending = s.pending := rfl
@[simp] theorem bumpStage_now (z : Stage) (k : Ctr) (s : State) : (bumpStage z k s).now = s.now := rfl
@[simp] theorem bumpStage_freeCount (z : Stage) (k : Ctr) (s : State) : (bumpStage z k s).freeCount = s.freeCount := rfl
@[simp] theorem bumpStage_trunk (z : Stage) (k : Ctr) (s : State) : (bumpStage z k s).trunk = s.trunk := rfl
@[simp] theorem bumpStage_stagePorts (z : Stage) (k : Ctr) (s : State) : (bumpStage z k s).stagePorts = s.stagePorts := rfl
@[simp] theorem bumpStage_originSeq (z : Stage) (k : Ctr) (s : State) : (bumpStage z k s).originSeq = s.originSeq := rfl
@[simp] theorem bumpStage_chans (z : Stage) (k : Ctr) (s : State) : (bumpStage z k s).chans = s.chans := rfl
@[simp] theorem bumpStage_caps (z : Stage) (k : Ctr) (s : State) : (bumpStage z k s).caps = s.caps := rfl
@[simp] theorem bumpStage_couple (z : Stage) (k : Ctr) (s : State) : (bumpStage z k s).couple = s.couple := rfl
@[simp] theorem bumpStage_rels (z : Stage) (k : Ctr) (s : State) : (bumpStage z k s).rels = s.rels := rfl
@[simp] theorem bumpStage_excl (z : Stage) (k : Ctr) (s : State) : (bumpStage z k s).excl = s.excl := rfl
@[simp] theorem bumpStage_gens (z : Stage) (k : Ctr) (s : State) : (bumpStage z k s).gens = s.gens := rfl
@[simp] theorem bumpStage_spacing (z : Stage) (k : Ctr) (s : State) : (bumpStage z k s).spacing = s.spacing := rfl
@[simp] theorem bumpStage_opts (z : Stage) (k : Ctr) (s : State) : (bumpStage z k s).opts = s.opts := rfl
@[simp] theorem bumpStage_settlePeriod (z : Stage) (k : Ctr) (s : State) : (bumpStage z k s).settlePeriod = s.settlePeriod := rfl
@[simp] theorem bumpStage_proposalTimeout (z : Stage) (k : Ctr) (s : State) : (bumpStage z k s).proposalTimeout = s.proposalTimeout := rfl
@[simp] theorem bumpStage_profiles (z : Stage) (k : Ctr) (s : State) : (bumpStage z k s).profiles = s.profiles := rfl
@[simp] theorem bumpStage_pools (z : Stage) (k : Ctr) (s : State) : (bumpStage z k s).pools = s.pools := rfl
@[simp] theorem bumpStage_engine (z : Stage) (k : Ctr) (s : State) : (bumpStage z k s).engine = s.engine := rfl
@[simp] theorem bumpStage_gate (z : Stage) (k : Ctr) (s : State) : (bumpStage z k s).gate = s.gate := rfl
@[simp] theorem bumpStage_heldFrames (z : Stage) (k : Ctr) (s : State) : (bumpStage z k s).heldFrames = s.heldFrames := rfl
@[simp] theorem bumpStage_notes (z : Stage) (k : Ctr) (s : State) : (bumpStage z k s).notes = s.notes := rfl
@[simp] theorem bumpStage_table (z : Stage) (k : Ctr) (s : State) : (bumpStage z k s).table = s.table := rfl
@[simp] theorem bumpStage_backlog (z : Stage) (k : Ctr) (s : State) : (bumpStage z k s).backlog = s.backlog := rfl
@[simp] theorem bumpStage_staging (z : Stage) (k : Ctr) (s : State) : (bumpStage z k s).staging = s.staging := rfl
@[simp] theorem bumpStage_arm (z : Stage) (k : Ctr) (s : State) : (bumpStage z k s).arm = s.arm := rfl
@[simp] theorem bumpStage_commits (z : Stage) (k : Ctr) (s : State) : (bumpStage z k s).commits = s.commits := rfl
@[simp] theorem bumpStage_confirm (z : Stage) (k : Ctr) (s : State) : (bumpStage z k s).confirm = s.confirm := rfl
@[simp] theorem bumpStage_lock (z : Stage) (k : Ctr) (s : State) : (bumpStage z k s).lock = s.lock := rfl
@[simp] theorem bumpStage_spans (z : Stage) (k : Ctr) (s : State) : (bumpStage z k s).spans = s.spans := rfl
@[simp] theorem bumpStage_surveys (z : Stage) (k : Ctr) (s : State) : (bumpStage z k s).surveys = s.surveys := rfl
@[simp] theorem bumpStage_enables (z : Stage) (k : Ctr) (s : State) : (bumpStage z k s).enables = s.enables := rfl
@[simp] theorem bumpStage_latches (z : Stage) (k : Ctr) (s : State) : (bumpStage z k s).latches = s.latches := rfl
@[simp] theorem bumpStage_trunkDiscards (z : Stage) (k : Ctr) (s : State) : (bumpStage z k s).trunkDiscards = s.trunkDiscards := rfl
@[simp] theorem bumpStage_heldDiscards (z : Stage) (k : Ctr) (s : State) : (bumpStage z k s).heldDiscards = s.heldDiscards := rfl

/-! ### bumpTrunk -/

@[simp] theorem bumpTrunk_pending (s : State) : (bumpTrunk s).pending = s.pending := rfl
@[simp] theorem bumpTrunk_now (s : State) : (bumpTrunk s).now = s.now := rfl
@[simp] theorem bumpTrunk_freeCount (s : State) : (bumpTrunk s).freeCount = s.freeCount := rfl
@[simp] theorem bumpTrunk_trunk (s : State) : (bumpTrunk s).trunk = s.trunk := rfl
@[simp] theorem bumpTrunk_stagePorts (s : State) : (bumpTrunk s).stagePorts = s.stagePorts := rfl
@[simp] theorem bumpTrunk_originSeq (s : State) : (bumpTrunk s).originSeq = s.originSeq := rfl
@[simp] theorem bumpTrunk_chans (s : State) : (bumpTrunk s).chans = s.chans := rfl
@[simp] theorem bumpTrunk_caps (s : State) : (bumpTrunk s).caps = s.caps := rfl
@[simp] theorem bumpTrunk_couple (s : State) : (bumpTrunk s).couple = s.couple := rfl
@[simp] theorem bumpTrunk_rels (s : State) : (bumpTrunk s).rels = s.rels := rfl
@[simp] theorem bumpTrunk_excl (s : State) : (bumpTrunk s).excl = s.excl := rfl
@[simp] theorem bumpTrunk_gens (s : State) : (bumpTrunk s).gens = s.gens := rfl
@[simp] theorem bumpTrunk_spacing (s : State) : (bumpTrunk s).spacing = s.spacing := rfl
@[simp] theorem bumpTrunk_opts (s : State) : (bumpTrunk s).opts = s.opts := rfl
@[simp] theorem bumpTrunk_settlePeriod (s : State) : (bumpTrunk s).settlePeriod = s.settlePeriod := rfl
@[simp] theorem bumpTrunk_proposalTimeout (s : State) : (bumpTrunk s).proposalTimeout = s.proposalTimeout := rfl
@[simp] theorem bumpTrunk_profiles (s : State) : (bumpTrunk s).profiles = s.profiles := rfl
@[simp] theorem bumpTrunk_pools (s : State) : (bumpTrunk s).pools = s.pools := rfl
@[simp] theorem bumpTrunk_engine (s : State) : (bumpTrunk s).engine = s.engine := rfl
@[simp] theorem bumpTrunk_gate (s : State) : (bumpTrunk s).gate = s.gate := rfl
@[simp] theorem bumpTrunk_heldFrames (s : State) : (bumpTrunk s).heldFrames = s.heldFrames := rfl
@[simp] theorem bumpTrunk_notes (s : State) : (bumpTrunk s).notes = s.notes := rfl
@[simp] theorem bumpTrunk_table (s : State) : (bumpTrunk s).table = s.table := rfl
@[simp] theorem bumpTrunk_backlog (s : State) : (bumpTrunk s).backlog = s.backlog := rfl
@[simp] theorem bumpTrunk_staging (s : State) : (bumpTrunk s).staging = s.staging := rfl
@[simp] theorem bumpTrunk_arm (s : State) : (bumpTrunk s).arm = s.arm := rfl
@[simp] theorem bumpTrunk_commits (s : State) : (bumpTrunk s).commits = s.commits := rfl
@[simp] theorem bumpTrunk_confirm (s : State) : (bumpTrunk s).confirm = s.confirm := rfl
@[simp] theorem bumpTrunk_lock (s : State) : (bumpTrunk s).lock = s.lock := rfl
@[simp] theorem bumpTrunk_spans (s : State) : (bumpTrunk s).spans = s.spans := rfl
@[simp] theorem bumpTrunk_surveys (s : State) : (bumpTrunk s).surveys = s.surveys := rfl
@[simp] theorem bumpTrunk_enables (s : State) : (bumpTrunk s).enables = s.enables := rfl
@[simp] theorem bumpTrunk_latches (s : State) : (bumpTrunk s).latches = s.latches := rfl
@[simp] theorem bumpTrunk_counters (s : State) : (bumpTrunk s).counters = s.counters := rfl
@[simp] theorem bumpTrunk_heldDiscards (s : State) : (bumpTrunk s).heldDiscards = s.heldDiscards := rfl

/-! ### setLatch -/

@[simp] theorem setLatch_pending (i : Fin 16) (s : State) : (setLatch i s).pending = s.pending := rfl
@[simp] theorem setLatch_now (i : Fin 16) (s : State) : (setLatch i s).now = s.now := rfl
@[simp] theorem setLatch_freeCount (i : Fin 16) (s : State) : (setLatch i s).freeCount = s.freeCount := rfl
@[simp] theorem setLatch_trunk (i : Fin 16) (s : State) : (setLatch i s).trunk = s.trunk := rfl
@[simp] theorem setLatch_stagePorts (i : Fin 16) (s : State) : (setLatch i s).stagePorts = s.stagePorts := rfl
@[simp] theorem setLatch_originSeq (i : Fin 16) (s : State) : (setLatch i s).originSeq = s.originSeq := rfl
@[simp] theorem setLatch_chans (i : Fin 16) (s : State) : (setLatch i s).chans = s.chans := rfl
@[simp] theorem setLatch_caps (i : Fin 16) (s : State) : (setLatch i s).caps = s.caps := rfl
@[simp] theorem setLatch_couple (i : Fin 16) (s : State) : (setLatch i s).couple = s.couple := rfl
@[simp] theorem setLatch_rels (i : Fin 16) (s : State) : (setLatch i s).rels = s.rels := rfl
@[simp] theorem setLatch_excl (i : Fin 16) (s : State) : (setLatch i s).excl = s.excl := rfl
@[simp] theorem setLatch_gens (i : Fin 16) (s : State) : (setLatch i s).gens = s.gens := rfl
@[simp] theorem setLatch_spacing (i : Fin 16) (s : State) : (setLatch i s).spacing = s.spacing := rfl
@[simp] theorem setLatch_opts (i : Fin 16) (s : State) : (setLatch i s).opts = s.opts := rfl
@[simp] theorem setLatch_settlePeriod (i : Fin 16) (s : State) : (setLatch i s).settlePeriod = s.settlePeriod := rfl
@[simp] theorem setLatch_proposalTimeout (i : Fin 16) (s : State) : (setLatch i s).proposalTimeout = s.proposalTimeout := rfl
@[simp] theorem setLatch_profiles (i : Fin 16) (s : State) : (setLatch i s).profiles = s.profiles := rfl
@[simp] theorem setLatch_pools (i : Fin 16) (s : State) : (setLatch i s).pools = s.pools := rfl
@[simp] theorem setLatch_engine (i : Fin 16) (s : State) : (setLatch i s).engine = s.engine := rfl
@[simp] theorem setLatch_gate (i : Fin 16) (s : State) : (setLatch i s).gate = s.gate := rfl
@[simp] theorem setLatch_heldFrames (i : Fin 16) (s : State) : (setLatch i s).heldFrames = s.heldFrames := rfl
@[simp] theorem setLatch_notes (i : Fin 16) (s : State) : (setLatch i s).notes = s.notes := rfl
@[simp] theorem setLatch_table (i : Fin 16) (s : State) : (setLatch i s).table = s.table := rfl
@[simp] theorem setLatch_backlog (i : Fin 16) (s : State) : (setLatch i s).backlog = s.backlog := rfl
@[simp] theorem setLatch_staging (i : Fin 16) (s : State) : (setLatch i s).staging = s.staging := rfl
@[simp] theorem setLatch_arm (i : Fin 16) (s : State) : (setLatch i s).arm = s.arm := rfl
@[simp] theorem setLatch_commits (i : Fin 16) (s : State) : (setLatch i s).commits = s.commits := rfl
@[simp] theorem setLatch_confirm (i : Fin 16) (s : State) : (setLatch i s).confirm = s.confirm := rfl
@[simp] theorem setLatch_lock (i : Fin 16) (s : State) : (setLatch i s).lock = s.lock := rfl
@[simp] theorem setLatch_spans (i : Fin 16) (s : State) : (setLatch i s).spans = s.spans := rfl
@[simp] theorem setLatch_surveys (i : Fin 16) (s : State) : (setLatch i s).surveys = s.surveys := rfl
@[simp] theorem setLatch_enables (i : Fin 16) (s : State) : (setLatch i s).enables = s.enables := rfl
@[simp] theorem setLatch_counters (i : Fin 16) (s : State) : (setLatch i s).counters = s.counters := rfl
@[simp] theorem setLatch_trunkDiscards (i : Fin 16) (s : State) : (setLatch i s).trunkDiscards = s.trunkDiscards := rfl
@[simp] theorem setLatch_heldDiscards (i : Fin 16) (s : State) : (setLatch i s).heldDiscards = s.heldDiscards := rfl

/-! ### setPort -/

@[simp] theorem setPort_pending (s : State) (p : Port) (x : PortState) : (s.setPort p x).pending = s.pending := by cases p <;> rfl
@[simp] theorem setPort_now (s : State) (p : Port) (x : PortState) : (s.setPort p x).now = s.now := by cases p <;> rfl
@[simp] theorem setPort_freeCount (s : State) (p : Port) (x : PortState) : (s.setPort p x).freeCount = s.freeCount := by cases p <;> rfl
@[simp] theorem setPort_originSeq (s : State) (p : Port) (x : PortState) : (s.setPort p x).originSeq = s.originSeq := by cases p <;> rfl
@[simp] theorem setPort_chans (s : State) (p : Port) (x : PortState) : (s.setPort p x).chans = s.chans := by cases p <;> rfl
@[simp] theorem setPort_caps (s : State) (p : Port) (x : PortState) : (s.setPort p x).caps = s.caps := by cases p <;> rfl
@[simp] theorem setPort_couple (s : State) (p : Port) (x : PortState) : (s.setPort p x).couple = s.couple := by cases p <;> rfl
@[simp] theorem setPort_rels (s : State) (p : Port) (x : PortState) : (s.setPort p x).rels = s.rels := by cases p <;> rfl
@[simp] theorem setPort_excl (s : State) (p : Port) (x : PortState) : (s.setPort p x).excl = s.excl := by cases p <;> rfl
@[simp] theorem setPort_gens (s : State) (p : Port) (x : PortState) : (s.setPort p x).gens = s.gens := by cases p <;> rfl
@[simp] theorem setPort_spacing (s : State) (p : Port) (x : PortState) : (s.setPort p x).spacing = s.spacing := by cases p <;> rfl
@[simp] theorem setPort_opts (s : State) (p : Port) (x : PortState) : (s.setPort p x).opts = s.opts := by cases p <;> rfl
@[simp] theorem setPort_settlePeriod (s : State) (p : Port) (x : PortState) : (s.setPort p x).settlePeriod = s.settlePeriod := by cases p <;> rfl
@[simp] theorem setPort_proposalTimeout (s : State) (p : Port) (x : PortState) : (s.setPort p x).proposalTimeout = s.proposalTimeout := by cases p <;> rfl
@[simp] theorem setPort_profiles (s : State) (p : Port) (x : PortState) : (s.setPort p x).profiles = s.profiles := by cases p <;> rfl
@[simp] theorem setPort_pools (s : State) (p : Port) (x : PortState) : (s.setPort p x).pools = s.pools := by cases p <;> rfl
@[simp] theorem setPort_engine (s : State) (p : Port) (x : PortState) : (s.setPort p x).engine = s.engine := by cases p <;> rfl
@[simp] theorem setPort_gate (s : State) (p : Port) (x : PortState) : (s.setPort p x).gate = s.gate := by cases p <;> rfl
@[simp] theorem setPort_heldFrames (s : State) (p : Port) (x : PortState) : (s.setPort p x).heldFrames = s.heldFrames := by cases p <;> rfl
@[simp] theorem setPort_notes (s : State) (p : Port) (x : PortState) : (s.setPort p x).notes = s.notes := by cases p <;> rfl
@[simp] theorem setPort_table (s : State) (p : Port) (x : PortState) : (s.setPort p x).table = s.table := by cases p <;> rfl
@[simp] theorem setPort_backlog (s : State) (p : Port) (x : PortState) : (s.setPort p x).backlog = s.backlog := by cases p <;> rfl
@[simp] theorem setPort_staging (s : State) (p : Port) (x : PortState) : (s.setPort p x).staging = s.staging := by cases p <;> rfl
@[simp] theorem setPort_arm (s : State) (p : Port) (x : PortState) : (s.setPort p x).arm = s.arm := by cases p <;> rfl
@[simp] theorem setPort_commits (s : State) (p : Port) (x : PortState) : (s.setPort p x).commits = s.commits := by cases p <;> rfl
@[simp] theorem setPort_confirm (s : State) (p : Port) (x : PortState) : (s.setPort p x).confirm = s.confirm := by cases p <;> rfl
@[simp] theorem setPort_lock (s : State) (p : Port) (x : PortState) : (s.setPort p x).lock = s.lock := by cases p <;> rfl
@[simp] theorem setPort_spans (s : State) (p : Port) (x : PortState) : (s.setPort p x).spans = s.spans := by cases p <;> rfl
@[simp] theorem setPort_surveys (s : State) (p : Port) (x : PortState) : (s.setPort p x).surveys = s.surveys := by cases p <;> rfl
@[simp] theorem setPort_enables (s : State) (p : Port) (x : PortState) : (s.setPort p x).enables = s.enables := by cases p <;> rfl
@[simp] theorem setPort_latches (s : State) (p : Port) (x : PortState) : (s.setPort p x).latches = s.latches := by cases p <;> rfl
@[simp] theorem setPort_counters (s : State) (p : Port) (x : PortState) : (s.setPort p x).counters = s.counters := by cases p <;> rfl
@[simp] theorem setPort_trunkDiscards (s : State) (p : Port) (x : PortState) : (s.setPort p x).trunkDiscards = s.trunkDiscards := by cases p <;> rfl
@[simp] theorem setPort_heldDiscards (s : State) (p : Port) (x : PortState) : (s.setPort p x).heldDiscards = s.heldDiscards := by cases p <;> rfl

/-! ### countDiscard -/

@[simp] theorem countDiscard_pending (p : Port) (k : Ctr) (s : State) : (countDiscard p k s).pending = s.pending := by cases p <;> rfl
@[simp] theorem countDiscard_now (p : Port) (k : Ctr) (s : State) : (countDiscard p k s).now = s.now := by cases p <;> rfl
@[simp] theorem countDiscard_freeCount (p : Port) (k : Ctr) (s : State) : (countDiscard p k s).freeCount = s.freeCount := by cases p <;> rfl
@[simp] theorem countDiscard_trunk (p : Port) (k : Ctr) (s : State) : (countDiscard p k s).trunk = s.trunk := by cases p <;> rfl
@[simp] theorem countDiscard_stagePorts (p : Port) (k : Ctr) (s : State) : (countDiscard p k s).stagePorts = s.stagePorts := by cases p <;> rfl
@[simp] theorem countDiscard_originSeq (p : Port) (k : Ctr) (s : State) : (countDiscard p k s).originSeq = s.originSeq := by cases p <;> rfl
@[simp] theorem countDiscard_chans (p : Port) (k : Ctr) (s : State) : (countDiscard p k s).chans = s.chans := by cases p <;> rfl
@[simp] theorem countDiscard_caps (p : Port) (k : Ctr) (s : State) : (countDiscard p k s).caps = s.caps := by cases p <;> rfl
@[simp] theorem countDiscard_couple (p : Port) (k : Ctr) (s : State) : (countDiscard p k s).couple = s.couple := by cases p <;> rfl
@[simp] theorem countDiscard_rels (p : Port) (k : Ctr) (s : State) : (countDiscard p k s).rels = s.rels := by cases p <;> rfl
@[simp] theorem countDiscard_excl (p : Port) (k : Ctr) (s : State) : (countDiscard p k s).excl = s.excl := by cases p <;> rfl
@[simp] theorem countDiscard_gens (p : Port) (k : Ctr) (s : State) : (countDiscard p k s).gens = s.gens := by cases p <;> rfl
@[simp] theorem countDiscard_spacing (p : Port) (k : Ctr) (s : State) : (countDiscard p k s).spacing = s.spacing := by cases p <;> rfl
@[simp] theorem countDiscard_opts (p : Port) (k : Ctr) (s : State) : (countDiscard p k s).opts = s.opts := by cases p <;> rfl
@[simp] theorem countDiscard_settlePeriod (p : Port) (k : Ctr) (s : State) : (countDiscard p k s).settlePeriod = s.settlePeriod := by cases p <;> rfl
@[simp] theorem countDiscard_proposalTimeout (p : Port) (k : Ctr) (s : State) : (countDiscard p k s).proposalTimeout = s.proposalTimeout := by cases p <;> rfl
@[simp] theorem countDiscard_profiles (p : Port) (k : Ctr) (s : State) : (countDiscard p k s).profiles = s.profiles := by cases p <;> rfl
@[simp] theorem countDiscard_pools (p : Port) (k : Ctr) (s : State) : (countDiscard p k s).pools = s.pools := by cases p <;> rfl
@[simp] theorem countDiscard_engine (p : Port) (k : Ctr) (s : State) : (countDiscard p k s).engine = s.engine := by cases p <;> rfl
@[simp] theorem countDiscard_gate (p : Port) (k : Ctr) (s : State) : (countDiscard p k s).gate = s.gate := by cases p <;> rfl
@[simp] theorem countDiscard_heldFrames (p : Port) (k : Ctr) (s : State) : (countDiscard p k s).heldFrames = s.heldFrames := by cases p <;> rfl
@[simp] theorem countDiscard_notes (p : Port) (k : Ctr) (s : State) : (countDiscard p k s).notes = s.notes := by cases p <;> rfl
@[simp] theorem countDiscard_table (p : Port) (k : Ctr) (s : State) : (countDiscard p k s).table = s.table := by cases p <;> rfl
@[simp] theorem countDiscard_backlog (p : Port) (k : Ctr) (s : State) : (countDiscard p k s).backlog = s.backlog := by cases p <;> rfl
@[simp] theorem countDiscard_staging (p : Port) (k : Ctr) (s : State) : (countDiscard p k s).staging = s.staging := by cases p <;> rfl
@[simp] theorem countDiscard_arm (p : Port) (k : Ctr) (s : State) : (countDiscard p k s).arm = s.arm := by cases p <;> rfl
@[simp] theorem countDiscard_commits (p : Port) (k : Ctr) (s : State) : (countDiscard p k s).commits = s.commits := by cases p <;> rfl
@[simp] theorem countDiscard_confirm (p : Port) (k : Ctr) (s : State) : (countDiscard p k s).confirm = s.confirm := by cases p <;> rfl
@[simp] theorem countDiscard_lock (p : Port) (k : Ctr) (s : State) : (countDiscard p k s).lock = s.lock := by cases p <;> rfl
@[simp] theorem countDiscard_spans (p : Port) (k : Ctr) (s : State) : (countDiscard p k s).spans = s.spans := by cases p <;> rfl
@[simp] theorem countDiscard_surveys (p : Port) (k : Ctr) (s : State) : (countDiscard p k s).surveys = s.surveys := by cases p <;> rfl
@[simp] theorem countDiscard_enables (p : Port) (k : Ctr) (s : State) : (countDiscard p k s).enables = s.enables := by cases p <;> rfl
@[simp] theorem countDiscard_latches (p : Port) (k : Ctr) (s : State) : (countDiscard p k s).latches = s.latches := by cases p <;> rfl
@[simp] theorem countDiscard_heldDiscards (p : Port) (k : Ctr) (s : State) : (countDiscard p k s).heldDiscards = s.heldDiscards := by cases p <;> rfl

/-! ### handTo -/

@[simp] theorem handTo_pending (p : Port) (f : Frame) (s : State) : (handTo p f s).pending = s.pending := by unfold handTo; split <;> (cases p <;> rfl)
@[simp] theorem handTo_now (p : Port) (f : Frame) (s : State) : (handTo p f s).now = s.now := by unfold handTo; split <;> (cases p <;> rfl)
@[simp] theorem handTo_freeCount (p : Port) (f : Frame) (s : State) : (handTo p f s).freeCount = s.freeCount := by unfold handTo; split <;> (cases p <;> rfl)
@[simp] theorem handTo_originSeq (p : Port) (f : Frame) (s : State) : (handTo p f s).originSeq = s.originSeq := by unfold handTo; split <;> (cases p <;> rfl)
@[simp] theorem handTo_chans (p : Port) (f : Frame) (s : State) : (handTo p f s).chans = s.chans := by unfold handTo; split <;> (cases p <;> rfl)
@[simp] theorem handTo_caps (p : Port) (f : Frame) (s : State) : (handTo p f s).caps = s.caps := by unfold handTo; split <;> (cases p <;> rfl)
@[simp] theorem handTo_couple (p : Port) (f : Frame) (s : State) : (handTo p f s).couple = s.couple := by unfold handTo; split <;> (cases p <;> rfl)
@[simp] theorem handTo_rels (p : Port) (f : Frame) (s : State) : (handTo p f s).rels = s.rels := by unfold handTo; split <;> (cases p <;> rfl)
@[simp] theorem handTo_excl (p : Port) (f : Frame) (s : State) : (handTo p f s).excl = s.excl := by unfold handTo; split <;> (cases p <;> rfl)
@[simp] theorem handTo_gens (p : Port) (f : Frame) (s : State) : (handTo p f s).gens = s.gens := by unfold handTo; split <;> (cases p <;> rfl)
@[simp] theorem handTo_spacing (p : Port) (f : Frame) (s : State) : (handTo p f s).spacing = s.spacing := by unfold handTo; split <;> (cases p <;> rfl)
@[simp] theorem handTo_opts (p : Port) (f : Frame) (s : State) : (handTo p f s).opts = s.opts := by unfold handTo; split <;> (cases p <;> rfl)
@[simp] theorem handTo_settlePeriod (p : Port) (f : Frame) (s : State) : (handTo p f s).settlePeriod = s.settlePeriod := by unfold handTo; split <;> (cases p <;> rfl)
@[simp] theorem handTo_proposalTimeout (p : Port) (f : Frame) (s : State) : (handTo p f s).proposalTimeout = s.proposalTimeout := by unfold handTo; split <;> (cases p <;> rfl)
@[simp] theorem handTo_profiles (p : Port) (f : Frame) (s : State) : (handTo p f s).profiles = s.profiles := by unfold handTo; split <;> (cases p <;> rfl)
@[simp] theorem handTo_pools (p : Port) (f : Frame) (s : State) : (handTo p f s).pools = s.pools := by unfold handTo; split <;> (cases p <;> rfl)
@[simp] theorem handTo_engine (p : Port) (f : Frame) (s : State) : (handTo p f s).engine = s.engine := by unfold handTo; split <;> (cases p <;> rfl)
@[simp] theorem handTo_gate (p : Port) (f : Frame) (s : State) : (handTo p f s).gate = s.gate := by unfold handTo; split <;> (cases p <;> rfl)
@[simp] theorem handTo_heldFrames (p : Port) (f : Frame) (s : State) : (handTo p f s).heldFrames = s.heldFrames := by unfold handTo; split <;> (cases p <;> rfl)
@[simp] theorem handTo_notes (p : Port) (f : Frame) (s : State) : (handTo p f s).notes = s.notes := by unfold handTo; split <;> (cases p <;> rfl)
@[simp] theorem handTo_table (p : Port) (f : Frame) (s : State) : (handTo p f s).table = s.table := by unfold handTo; split <;> (cases p <;> rfl)
@[simp] theorem handTo_backlog (p : Port) (f : Frame) (s : State) : (handTo p f s).backlog = s.backlog := by unfold handTo; split <;> (cases p <;> rfl)
@[simp] theorem handTo_staging (p : Port) (f : Frame) (s : State) : (handTo p f s).staging = s.staging := by unfold handTo; split <;> (cases p <;> rfl)
@[simp] theorem handTo_arm (p : Port) (f : Frame) (s : State) : (handTo p f s).arm = s.arm := by unfold handTo; split <;> (cases p <;> rfl)
@[simp] theorem handTo_commits (p : Port) (f : Frame) (s : State) : (handTo p f s).commits = s.commits := by unfold handTo; split <;> (cases p <;> rfl)
@[simp] theorem handTo_confirm (p : Port) (f : Frame) (s : State) : (handTo p f s).confirm = s.confirm := by unfold handTo; split <;> (cases p <;> rfl)
@[simp] theorem handTo_lock (p : Port) (f : Frame) (s : State) : (handTo p f s).lock = s.lock := by unfold handTo; split <;> (cases p <;> rfl)
@[simp] theorem handTo_spans (p : Port) (f : Frame) (s : State) : (handTo p f s).spans = s.spans := by unfold handTo; split <;> (cases p <;> rfl)
@[simp] theorem handTo_surveys (p : Port) (f : Frame) (s : State) : (handTo p f s).surveys = s.surveys := by unfold handTo; split <;> (cases p <;> rfl)
@[simp] theorem handTo_enables (p : Port) (f : Frame) (s : State) : (handTo p f s).enables = s.enables := by unfold handTo; split <;> (cases p <;> rfl)
@[simp] theorem handTo_latches (p : Port) (f : Frame) (s : State) : (handTo p f s).latches = s.latches := by unfold handTo; split <;> (cases p <;> rfl)
@[simp] theorem handTo_counters (p : Port) (f : Frame) (s : State) : (handTo p f s).counters = s.counters := by unfold handTo; split <;> (cases p <;> rfl)
@[simp] theorem handTo_heldDiscards (p : Port) (f : Frame) (s : State) : (handTo p f s).heldDiscards = s.heldDiscards := by unfold handTo; split <;> (cases p <;> rfl)

/-! ### route -/

@[simp] theorem route_pending (f : Frame) (s : State) : (route f s).pending = s.pending := by unfold route; split <;> simp
@[simp] theorem route_now (f : Frame) (s : State) : (route f s).now = s.now := by unfold route; split <;> simp
@[simp] theorem route_freeCount (f : Frame) (s : State) : (route f s).freeCount = s.freeCount := by unfold route; split <;> simp
@[simp] theorem route_originSeq (f : Frame) (s : State) : (route f s).originSeq = s.originSeq := by unfold route; split <;> simp
@[simp] theorem route_chans (f : Frame) (s : State) : (route f s).chans = s.chans := by unfold route; split <;> simp
@[simp] theorem route_caps (f : Frame) (s : State) : (route f s).caps = s.caps := by unfold route; split <;> simp
@[simp] theorem route_couple (f : Frame) (s : State) : (route f s).couple = s.couple := by unfold route; split <;> simp
@[simp] theorem route_rels (f : Frame) (s : State) : (route f s).rels = s.rels := by unfold route; split <;> simp
@[simp] theorem route_excl (f : Frame) (s : State) : (route f s).excl = s.excl := by unfold route; split <;> simp
@[simp] theorem route_gens (f : Frame) (s : State) : (route f s).gens = s.gens := by unfold route; split <;> simp
@[simp] theorem route_spacing (f : Frame) (s : State) : (route f s).spacing = s.spacing := by unfold route; split <;> simp
@[simp] theorem route_opts (f : Frame) (s : State) : (route f s).opts = s.opts := by unfold route; split <;> simp
@[simp] theorem route_settlePeriod (f : Frame) (s : State) : (route f s).settlePeriod = s.settlePeriod := by unfold route; split <;> simp
@[simp] theorem route_proposalTimeout (f : Frame) (s : State) : (route f s).proposalTimeout = s.proposalTimeout := by unfold route; split <;> simp
@[simp] theorem route_profiles (f : Frame) (s : State) : (route f s).profiles = s.profiles := by unfold route; split <;> simp
@[simp] theorem route_pools (f : Frame) (s : State) : (route f s).pools = s.pools := by unfold route; split <;> simp
@[simp] theorem route_engine (f : Frame) (s : State) : (route f s).engine = s.engine := by unfold route; split <;> simp
@[simp] theorem route_gate (f : Frame) (s : State) : (route f s).gate = s.gate := by unfold route; split <;> simp
@[simp] theorem route_heldFrames (f : Frame) (s : State) : (route f s).heldFrames = s.heldFrames := by unfold route; split <;> simp
@[simp] theorem route_notes (f : Frame) (s : State) : (route f s).notes = s.notes := by unfold route; split <;> simp
@[simp] theorem route_table (f : Frame) (s : State) : (route f s).table = s.table := by unfold route; split <;> simp
@[simp] theorem route_backlog (f : Frame) (s : State) : (route f s).backlog = s.backlog := by unfold route; split <;> simp
@[simp] theorem route_staging (f : Frame) (s : State) : (route f s).staging = s.staging := by unfold route; split <;> simp
@[simp] theorem route_arm (f : Frame) (s : State) : (route f s).arm = s.arm := by unfold route; split <;> simp
@[simp] theorem route_commits (f : Frame) (s : State) : (route f s).commits = s.commits := by unfold route; split <;> simp
@[simp] theorem route_confirm (f : Frame) (s : State) : (route f s).confirm = s.confirm := by unfold route; split <;> simp
@[simp] theorem route_lock (f : Frame) (s : State) : (route f s).lock = s.lock := by unfold route; split <;> simp
@[simp] theorem route_spans (f : Frame) (s : State) : (route f s).spans = s.spans := by unfold route; split <;> simp
@[simp] theorem route_surveys (f : Frame) (s : State) : (route f s).surveys = s.surveys := by unfold route; split <;> simp
@[simp] theorem route_enables (f : Frame) (s : State) : (route f s).enables = s.enables := by unfold route; split <;> simp
@[simp] theorem route_latches (f : Frame) (s : State) : (route f s).latches = s.latches := by unfold route; split <;> simp
@[simp] theorem route_counters (f : Frame) (s : State) : (route f s).counters = s.counters := by unfold route; split <;> simp
@[simp] theorem route_heldDiscards (f : Frame) (s : State) : (route f s).heldDiscards = s.heldDiscards := by unfold route; split <;> simp

/-! ### originate -/

@[simp] theorem originate_pending (d : Addr) (k : Byte) (p : List Byte) (s : State) : (originate d k p s).pending = s.pending := by simp [originate]
@[simp] theorem originate_now (d : Addr) (k : Byte) (p : List Byte) (s : State) : (originate d k p s).now = s.now := by simp [originate]
@[simp] theorem originate_freeCount (d : Addr) (k : Byte) (p : List Byte) (s : State) : (originate d k p s).freeCount = s.freeCount := by simp [originate]
@[simp] theorem originate_chans (d : Addr) (k : Byte) (p : List Byte) (s : State) : (originate d k p s).chans = s.chans := by simp [originate]
@[simp] theorem originate_caps (d : Addr) (k : Byte) (p : List Byte) (s : State) : (originate d k p s).caps = s.caps := by simp [originate]
@[simp] theorem originate_couple (d : Addr) (k : Byte) (p : List Byte) (s : State) : (originate d k p s).couple = s.couple := by simp [originate]
@[simp] theorem originate_rels (d : Addr) (k : Byte) (p : List Byte) (s : State) : (originate d k p s).rels = s.rels := by simp [originate]
@[simp] theorem originate_excl (d : Addr) (k : Byte) (p : List Byte) (s : State) : (originate d k p s).excl = s.excl := by simp [originate]
@[simp] theorem originate_gens (d : Addr) (k : Byte) (p : List Byte) (s : State) : (originate d k p s).gens = s.gens := by simp [originate]
@[simp] theorem originate_spacing (d : Addr) (k : Byte) (p : List Byte) (s : State) : (originate d k p s).spacing = s.spacing := by simp [originate]
@[simp] theorem originate_opts (d : Addr) (k : Byte) (p : List Byte) (s : State) : (originate d k p s).opts = s.opts := by simp [originate]
@[simp] theorem originate_settlePeriod (d : Addr) (k : Byte) (p : List Byte) (s : State) : (originate d k p s).settlePeriod = s.settlePeriod := by simp [originate]
@[simp] theorem originate_proposalTimeout (d : Addr) (k : Byte) (p : List Byte) (s : State) : (originate d k p s).proposalTimeout = s.proposalTimeout := by simp [originate]
@[simp] theorem originate_profiles (d : Addr) (k : Byte) (p : List Byte) (s : State) : (originate d k p s).profiles = s.profiles := by simp [originate]
@[simp] theorem originate_pools (d : Addr) (k : Byte) (p : List Byte) (s : State) : (originate d k p s).pools = s.pools := by simp [originate]
@[simp] theorem originate_engine (d : Addr) (k : Byte) (p : List Byte) (s : State) : (originate d k p s).engine = s.engine := by simp [originate]
@[simp] theorem originate_gate (d : Addr) (k : Byte) (p : List Byte) (s : State) : (originate d k p s).gate = s.gate := by simp [originate]
@[simp] theorem originate_heldFrames (d : Addr) (k : Byte) (p : List Byte) (s : State) : (originate d k p s).heldFrames = s.heldFrames := by simp [originate]
@[simp] theorem originate_notes (d : Addr) (k : Byte) (p : List Byte) (s : State) : (originate d k p s).notes = s.notes := by simp [originate]
@[simp] theorem originate_table (d : Addr) (k : Byte) (p : List Byte) (s : State) : (originate d k p s).table = s.table := by simp [originate]
@[simp] theorem originate_backlog (d : Addr) (k : Byte) (p : List Byte) (s : State) : (originate d k p s).backlog = s.backlog := by simp [originate]
@[simp] theorem originate_staging (d : Addr) (k : Byte) (p : List Byte) (s : State) : (originate d k p s).staging = s.staging := by simp [originate]
@[simp] theorem originate_arm (d : Addr) (k : Byte) (p : List Byte) (s : State) : (originate d k p s).arm = s.arm := by simp [originate]
@[simp] theorem originate_commits (d : Addr) (k : Byte) (p : List Byte) (s : State) : (originate d k p s).commits = s.commits := by simp [originate]
@[simp] theorem originate_confirm (d : Addr) (k : Byte) (p : List Byte) (s : State) : (originate d k p s).confirm = s.confirm := by simp [originate]
@[simp] theorem originate_lock (d : Addr) (k : Byte) (p : List Byte) (s : State) : (originate d k p s).lock = s.lock := by simp [originate]
@[simp] theorem originate_spans (d : Addr) (k : Byte) (p : List Byte) (s : State) : (originate d k p s).spans = s.spans := by simp [originate]
@[simp] theorem originate_surveys (d : Addr) (k : Byte) (p : List Byte) (s : State) : (originate d k p s).surveys = s.surveys := by simp [originate]
@[simp] theorem originate_enables (d : Addr) (k : Byte) (p : List Byte) (s : State) : (originate d k p s).enables = s.enables := by simp [originate]
@[simp] theorem originate_latches (d : Addr) (k : Byte) (p : List Byte) (s : State) : (originate d k p s).latches = s.latches := by simp [originate]
@[simp] theorem originate_counters (d : Addr) (k : Byte) (p : List Byte) (s : State) : (originate d k p s).counters = s.counters := by simp [originate]
@[simp] theorem originate_heldDiscards (d : Addr) (k : Byte) (p : List Byte) (s : State) : (originate d k p s).heldDiscards = s.heldDiscards := by simp [originate]

/-! ### reply -/

@[simp] theorem reply_pending (h : ReqHdr) (code : Nat) (st : Status) (k : Nat) (r : List Byte) (s : State) : (reply h code st k r s).pending = s.pending := by simp [reply]
@[simp] theorem reply_now (h : ReqHdr) (code : Nat) (st : Status) (k : Nat) (r : List Byte) (s : State) : (reply h code st k r s).now = s.now := by simp [reply]
@[simp] theorem reply_freeCount (h : ReqHdr) (code : Nat) (st : Status) (k : Nat) (r : List Byte) (s : State) : (reply h code st k r s).freeCount = s.freeCount := by simp [reply]
@[simp] theorem reply_originSeq (h : ReqHdr) (code : Nat) (st : Status) (k : Nat) (r : List Byte) (s : State) : (reply h code st k r s).originSeq = s.originSeq := by simp [reply]
@[simp] theorem reply_chans (h : ReqHdr) (code : Nat) (st : Status) (k : Nat) (r : List Byte) (s : State) : (reply h code st k r s).chans = s.chans := by simp [reply]
@[simp] theorem reply_caps (h : ReqHdr) (code : Nat) (st : Status) (k : Nat) (r : List Byte) (s : State) : (reply h code st k r s).caps = s.caps := by simp [reply]
@[simp] theorem reply_couple (h : ReqHdr) (code : Nat) (st : Status) (k : Nat) (r : List Byte) (s : State) : (reply h code st k r s).couple = s.couple := by simp [reply]
@[simp] theorem reply_rels (h : ReqHdr) (code : Nat) (st : Status) (k : Nat) (r : List Byte) (s : State) : (reply h code st k r s).rels = s.rels := by simp [reply]
@[simp] theorem reply_excl (h : ReqHdr) (code : Nat) (st : Status) (k : Nat) (r : List Byte) (s : State) : (reply h code st k r s).excl = s.excl := by simp [reply]
@[simp] theorem reply_gens (h : ReqHdr) (code : Nat) (st : Status) (k : Nat) (r : List Byte) (s : State) : (reply h code st k r s).gens = s.gens := by simp [reply]
@[simp] theorem reply_spacing (h : ReqHdr) (code : Nat) (st : Status) (k : Nat) (r : List Byte) (s : State) : (reply h code st k r s).spacing = s.spacing := by simp [reply]
@[simp] theorem reply_opts (h : ReqHdr) (code : Nat) (st : Status) (k : Nat) (r : List Byte) (s : State) : (reply h code st k r s).opts = s.opts := by simp [reply]
@[simp] theorem reply_settlePeriod (h : ReqHdr) (code : Nat) (st : Status) (k : Nat) (r : List Byte) (s : State) : (reply h code st k r s).settlePeriod = s.settlePeriod := by simp [reply]
@[simp] theorem reply_proposalTimeout (h : ReqHdr) (code : Nat) (st : Status) (k : Nat) (r : List Byte) (s : State) : (reply h code st k r s).proposalTimeout = s.proposalTimeout := by simp [reply]
@[simp] theorem reply_profiles (h : ReqHdr) (code : Nat) (st : Status) (k : Nat) (r : List Byte) (s : State) : (reply h code st k r s).profiles = s.profiles := by simp [reply]
@[simp] theorem reply_pools (h : ReqHdr) (code : Nat) (st : Status) (k : Nat) (r : List Byte) (s : State) : (reply h code st k r s).pools = s.pools := by simp [reply]
@[simp] theorem reply_engine (h : ReqHdr) (code : Nat) (st : Status) (k : Nat) (r : List Byte) (s : State) : (reply h code st k r s).engine = s.engine := by simp [reply]
@[simp] theorem reply_gate (h : ReqHdr) (code : Nat) (st : Status) (k : Nat) (r : List Byte) (s : State) : (reply h code st k r s).gate = s.gate := by simp [reply]
@[simp] theorem reply_heldFrames (h : ReqHdr) (code : Nat) (st : Status) (k : Nat) (r : List Byte) (s : State) : (reply h code st k r s).heldFrames = s.heldFrames := by simp [reply]
@[simp] theorem reply_notes (h : ReqHdr) (code : Nat) (st : Status) (k : Nat) (r : List Byte) (s : State) : (reply h code st k r s).notes = s.notes := by simp [reply]
@[simp] theorem reply_table (h : ReqHdr) (code : Nat) (st : Status) (k : Nat) (r : List Byte) (s : State) : (reply h code st k r s).table = s.table := by simp [reply]
@[simp] theorem reply_backlog (h : ReqHdr) (code : Nat) (st : Status) (k : Nat) (r : List Byte) (s : State) : (reply h code st k r s).backlog = s.backlog := by simp [reply]
@[simp] theorem reply_staging (h : ReqHdr) (code : Nat) (st : Status) (k : Nat) (r : List Byte) (s : State) : (reply h code st k r s).staging = s.staging := by simp [reply]
@[simp] theorem reply_arm (h : ReqHdr) (code : Nat) (st : Status) (k : Nat) (r : List Byte) (s : State) : (reply h code st k r s).arm = s.arm := by simp [reply]
@[simp] theorem reply_commits (h : ReqHdr) (code : Nat) (st : Status) (k : Nat) (r : List Byte) (s : State) : (reply h code st k r s).commits = s.commits := by simp [reply]
@[simp] theorem reply_confirm (h : ReqHdr) (code : Nat) (st : Status) (k : Nat) (r : List Byte) (s : State) : (reply h code st k r s).confirm = s.confirm := by simp [reply]
@[simp] theorem reply_lock (h : ReqHdr) (code : Nat) (st : Status) (k : Nat) (r : List Byte) (s : State) : (reply h code st k r s).lock = s.lock := by simp [reply]
@[simp] theorem reply_spans (h : ReqHdr) (code : Nat) (st : Status) (k : Nat) (r : List Byte) (s : State) : (reply h code st k r s).spans = s.spans := by simp [reply]
@[simp] theorem reply_surveys (h : ReqHdr) (code : Nat) (st : Status) (k : Nat) (r : List Byte) (s : State) : (reply h code st k r s).surveys = s.surveys := by simp [reply]
@[simp] theorem reply_enables (h : ReqHdr) (code : Nat) (st : Status) (k : Nat) (r : List Byte) (s : State) : (reply h code st k r s).enables = s.enables := by simp [reply]
@[simp] theorem reply_latches (h : ReqHdr) (code : Nat) (st : Status) (k : Nat) (r : List Byte) (s : State) : (reply h code st k r s).latches = s.latches := by simp [reply]
@[simp] theorem reply_counters (h : ReqHdr) (code : Nat) (st : Status) (k : Nat) (r : List Byte) (s : State) : (reply h code st k r s).counters = s.counters := by simp [reply]
@[simp] theorem reply_heldDiscards (h : ReqHdr) (code : Nat) (st : Status) (k : Nat) (r : List Byte) (s : State) : (reply h code st k r s).heldDiscards = s.heldDiscards := by simp [reply]

/-! ### notify -/

@[simp] theorem notify_pending (k : NoticeKind) (st sl : Nat) (d : List Byte) (s : State) : (notify k st sl d s).pending = s.pending := by unfold notify; dsimp only; split <;> simp
@[simp] theorem notify_now (k : NoticeKind) (st sl : Nat) (d : List Byte) (s : State) : (notify k st sl d s).now = s.now := by unfold notify; dsimp only; split <;> simp
@[simp] theorem notify_freeCount (k : NoticeKind) (st sl : Nat) (d : List Byte) (s : State) : (notify k st sl d s).freeCount = s.freeCount := by unfold notify; dsimp only; split <;> simp
@[simp] theorem notify_chans (k : NoticeKind) (st sl : Nat) (d : List Byte) (s : State) : (notify k st sl d s).chans = s.chans := by unfold notify; dsimp only; split <;> simp
@[simp] theorem notify_caps (k : NoticeKind) (st sl : Nat) (d : List Byte) (s : State) : (notify k st sl d s).caps = s.caps := by unfold notify; dsimp only; split <;> simp
@[simp] theorem notify_couple (k : NoticeKind) (st sl : Nat) (d : List Byte) (s : State) : (notify k st sl d s).couple = s.couple := by unfold notify; dsimp only; split <;> simp
@[simp] theorem notify_rels (k : NoticeKind) (st sl : Nat) (d : List Byte) (s : State) : (notify k st sl d s).rels = s.rels := by unfold notify; dsimp only; split <;> simp
@[simp] theorem notify_excl (k : NoticeKind) (st sl : Nat) (d : List Byte) (s : State) : (notify k st sl d s).excl = s.excl := by unfold notify; dsimp only; split <;> simp
@[simp] theorem notify_gens (k : NoticeKind) (st sl : Nat) (d : List Byte) (s : State) : (notify k st sl d s).gens = s.gens := by unfold notify; dsimp only; split <;> simp
@[simp] theorem notify_spacing (k : NoticeKind) (st sl : Nat) (d : List Byte) (s : State) : (notify k st sl d s).spacing = s.spacing := by unfold notify; dsimp only; split <;> simp
@[simp] theorem notify_opts (k : NoticeKind) (st sl : Nat) (d : List Byte) (s : State) : (notify k st sl d s).opts = s.opts := by unfold notify; dsimp only; split <;> simp
@[simp] theorem notify_settlePeriod (k : NoticeKind) (st sl : Nat) (d : List Byte) (s : State) : (notify k st sl d s).settlePeriod = s.settlePeriod := by unfold notify; dsimp only; split <;> simp
@[simp] theorem notify_proposalTimeout (k : NoticeKind) (st sl : Nat) (d : List Byte) (s : State) : (notify k st sl d s).proposalTimeout = s.proposalTimeout := by unfold notify; dsimp only; split <;> simp
@[simp] theorem notify_profiles (k : NoticeKind) (st sl : Nat) (d : List Byte) (s : State) : (notify k st sl d s).profiles = s.profiles := by unfold notify; dsimp only; split <;> simp
@[simp] theorem notify_pools (k : NoticeKind) (st sl : Nat) (d : List Byte) (s : State) : (notify k st sl d s).pools = s.pools := by unfold notify; dsimp only; split <;> simp
@[simp] theorem notify_engine (k : NoticeKind) (st sl : Nat) (d : List Byte) (s : State) : (notify k st sl d s).engine = s.engine := by unfold notify; dsimp only; split <;> simp
@[simp] theorem notify_gate (k : NoticeKind) (st sl : Nat) (d : List Byte) (s : State) : (notify k st sl d s).gate = s.gate := by unfold notify; dsimp only; split <;> simp
@[simp] theorem notify_heldFrames (k : NoticeKind) (st sl : Nat) (d : List Byte) (s : State) : (notify k st sl d s).heldFrames = s.heldFrames := by unfold notify; dsimp only; split <;> simp
@[simp] theorem notify_notes (k : NoticeKind) (st sl : Nat) (d : List Byte) (s : State) : (notify k st sl d s).notes = s.notes := by unfold notify; dsimp only; split <;> simp
@[simp] theorem notify_table (k : NoticeKind) (st sl : Nat) (d : List Byte) (s : State) : (notify k st sl d s).table = s.table := by unfold notify; dsimp only; split <;> simp
@[simp] theorem notify_backlog (k : NoticeKind) (st sl : Nat) (d : List Byte) (s : State) : (notify k st sl d s).backlog = s.backlog := by unfold notify; dsimp only; split <;> simp
@[simp] theorem notify_staging (k : NoticeKind) (st sl : Nat) (d : List Byte) (s : State) : (notify k st sl d s).staging = s.staging := by unfold notify; dsimp only; split <;> simp
@[simp] theorem notify_arm (k : NoticeKind) (st sl : Nat) (d : List Byte) (s : State) : (notify k st sl d s).arm = s.arm := by unfold notify; dsimp only; split <;> simp
@[simp] theorem notify_commits (k : NoticeKind) (st sl : Nat) (d : List Byte) (s : State) : (notify k st sl d s).commits = s.commits := by unfold notify; dsimp only; split <;> simp
@[simp] theorem notify_confirm (k : NoticeKind) (st sl : Nat) (d : List Byte) (s : State) : (notify k st sl d s).confirm = s.confirm := by unfold notify; dsimp only; split <;> simp
@[simp] theorem notify_lock (k : NoticeKind) (st sl : Nat) (d : List Byte) (s : State) : (notify k st sl d s).lock = s.lock := by unfold notify; dsimp only; split <;> simp
@[simp] theorem notify_spans (k : NoticeKind) (st sl : Nat) (d : List Byte) (s : State) : (notify k st sl d s).spans = s.spans := by unfold notify; dsimp only; split <;> simp
@[simp] theorem notify_surveys (k : NoticeKind) (st sl : Nat) (d : List Byte) (s : State) : (notify k st sl d s).surveys = s.surveys := by unfold notify; dsimp only; split <;> simp
@[simp] theorem notify_enables (k : NoticeKind) (st sl : Nat) (d : List Byte) (s : State) : (notify k st sl d s).enables = s.enables := by unfold notify; dsimp only; split <;> simp
@[simp] theorem notify_counters (k : NoticeKind) (st sl : Nat) (d : List Byte) (s : State) : (notify k st sl d s).counters = s.counters := by unfold notify; dsimp only; split <;> simp
@[simp] theorem notify_heldDiscards (k : NoticeKind) (st sl : Nat) (d : List Byte) (s : State) : (notify k st sl d s).heldDiscards = s.heldDiscards := by unfold notify; dsimp only; split <;> simp

/-! ### notifyChan -/

@[simp] theorem notifyChan_pending (k : NoticeKind) (c : Chan) (d : List Byte) (s : State) : (notifyChan k c d s).pending = s.pending := by simp [notifyChan]
@[simp] theorem notifyChan_now (k : NoticeKind) (c : Chan) (d : List Byte) (s : State) : (notifyChan k c d s).now = s.now := by simp [notifyChan]
@[simp] theorem notifyChan_freeCount (k : NoticeKind) (c : Chan) (d : List Byte) (s : State) : (notifyChan k c d s).freeCount = s.freeCount := by simp [notifyChan]
@[simp] theorem notifyChan_chans (k : NoticeKind) (c : Chan) (d : List Byte) (s : State) : (notifyChan k c d s).chans = s.chans := by simp [notifyChan]
@[simp] theorem notifyChan_caps (k : NoticeKind) (c : Chan) (d : List Byte) (s : State) : (notifyChan k c d s).caps = s.caps := by simp [notifyChan]
@[simp] theorem notifyChan_couple (k : NoticeKind) (c : Chan) (d : List Byte) (s : State) : (notifyChan k c d s).couple = s.couple := by simp [notifyChan]
@[simp] theorem notifyChan_rels (k : NoticeKind) (c : Chan) (d : List Byte) (s : State) : (notifyChan k c d s).rels = s.rels := by simp [notifyChan]
@[simp] theorem notifyChan_excl (k : NoticeKind) (c : Chan) (d : List Byte) (s : State) : (notifyChan k c d s).excl = s.excl := by simp [notifyChan]
@[simp] theorem notifyChan_gens (k : NoticeKind) (c : Chan) (d : List Byte) (s : State) : (notifyChan k c d s).gens = s.gens := by simp [notifyChan]
@[simp] theorem notifyChan_spacing (k : NoticeKind) (c : Chan) (d : List Byte) (s : State) : (notifyChan k c d s).spacing = s.spacing := by simp [notifyChan]
@[simp] theorem notifyChan_opts (k : NoticeKind) (c : Chan) (d : List Byte) (s : State) : (notifyChan k c d s).opts = s.opts := by simp [notifyChan]
@[simp] theorem notifyChan_settlePeriod (k : NoticeKind) (c : Chan) (d : List Byte) (s : State) : (notifyChan k c d s).settlePeriod = s.settlePeriod := by simp [notifyChan]
@[simp] theorem notifyChan_proposalTimeout (k : NoticeKind) (c : Chan) (d : List Byte) (s : State) : (notifyChan k c d s).proposalTimeout = s.proposalTimeout := by simp [notifyChan]
@[simp] theorem notifyChan_profiles (k : NoticeKind) (c : Chan) (d : List Byte) (s : State) : (notifyChan k c d s).profiles = s.profiles := by simp [notifyChan]
@[simp] theorem notifyChan_pools (k : NoticeKind) (c : Chan) (d : List Byte) (s : State) : (notifyChan k c d s).pools = s.pools := by simp [notifyChan]
@[simp] theorem notifyChan_engine (k : NoticeKind) (c : Chan) (d : List Byte) (s : State) : (notifyChan k c d s).engine = s.engine := by simp [notifyChan]
@[simp] theorem notifyChan_gate (k : NoticeKind) (c : Chan) (d : List Byte) (s : State) : (notifyChan k c d s).gate = s.gate := by simp [notifyChan]
@[simp] theorem notifyChan_heldFrames (k : NoticeKind) (c : Chan) (d : List Byte) (s : State) : (notifyChan k c d s).heldFrames = s.heldFrames := by simp [notifyChan]
@[simp] theorem notifyChan_notes (k : NoticeKind) (c : Chan) (d : List Byte) (s : State) : (notifyChan k c d s).notes = s.notes := by simp [notifyChan]
@[simp] theorem notifyChan_table (k : NoticeKind) (c : Chan) (d : List Byte) (s : State) : (notifyChan k c d s).table = s.table := by simp [notifyChan]
@[simp] theorem notifyChan_backlog (k : NoticeKind) (c : Chan) (d : List Byte) (s : State) : (notifyChan k c d s).backlog = s.backlog := by simp [notifyChan]
@[simp] theorem notifyChan_staging (k : NoticeKind) (c : Chan) (d : List Byte) (s : State) : (notifyChan k c d s).staging = s.staging := by simp [notifyChan]
@[simp] theorem notifyChan_arm (k : NoticeKind) (c : Chan) (d : List Byte) (s : State) : (notifyChan k c d s).arm = s.arm := by simp [notifyChan]
@[simp] theorem notifyChan_commits (k : NoticeKind) (c : Chan) (d : List Byte) (s : State) : (notifyChan k c d s).commits = s.commits := by simp [notifyChan]
@[simp] theorem notifyChan_confirm (k : NoticeKind) (c : Chan) (d : List Byte) (s : State) : (notifyChan k c d s).confirm = s.confirm := by simp [notifyChan]
@[simp] theorem notifyChan_lock (k : NoticeKind) (c : Chan) (d : List Byte) (s : State) : (notifyChan k c d s).lock = s.lock := by simp [notifyChan]
@[simp] theorem notifyChan_spans (k : NoticeKind) (c : Chan) (d : List Byte) (s : State) : (notifyChan k c d s).spans = s.spans := by simp [notifyChan]
@[simp] theorem notifyChan_surveys (k : NoticeKind) (c : Chan) (d : List Byte) (s : State) : (notifyChan k c d s).surveys = s.surveys := by simp [notifyChan]
@[simp] theorem notifyChan_enables (k : NoticeKind) (c : Chan) (d : List Byte) (s : State) : (notifyChan k c d s).enables = s.enables := by simp [notifyChan]
@[simp] theorem notifyChan_counters (k : NoticeKind) (c : Chan) (d : List Byte) (s : State) : (notifyChan k c d s).counters = s.counters := by simp [notifyChan]
@[simp] theorem notifyChan_heldDiscards (k : NoticeKind) (c : Chan) (d : List Byte) (s : State) : (notifyChan k c d s).heldDiscards = s.heldDiscards := by simp [notifyChan]

/-! ### passTime -/

@[simp] theorem passTime_pending (dt : Nat) (s : State) : (passTime dt s).pending = s.pending := by unfold passTime; split <;> rfl
@[simp] theorem passTime_freeCount (dt : Nat) (s : State) : (passTime dt s).freeCount = s.freeCount := by unfold passTime; split <;> rfl
@[simp] theorem passTime_originSeq (dt : Nat) (s : State) : (passTime dt s).originSeq = s.originSeq := by unfold passTime; split <;> rfl
@[simp] theorem passTime_chans (dt : Nat) (s : State) : (passTime dt s).chans = s.chans := by unfold passTime; split <;> rfl
@[simp] theorem passTime_caps (dt : Nat) (s : State) : (passTime dt s).caps = s.caps := by unfold passTime; split <;> rfl
@[simp] theorem passTime_couple (dt : Nat) (s : State) : (passTime dt s).couple = s.couple := by unfold passTime; split <;> rfl
@[simp] theorem passTime_rels (dt : Nat) (s : State) : (passTime dt s).rels = s.rels := by unfold passTime; split <;> rfl
@[simp] theorem passTime_excl (dt : Nat) (s : State) : (passTime dt s).excl = s.excl := by unfold passTime; split <;> rfl
@[simp] theorem passTime_gens (dt : Nat) (s : State) : (passTime dt s).gens = s.gens := by unfold passTime; split <;> rfl
@[simp] theorem passTime_spacing (dt : Nat) (s : State) : (passTime dt s).spacing = s.spacing := by unfold passTime; split <;> rfl
@[simp] theorem passTime_opts (dt : Nat) (s : State) : (passTime dt s).opts = s.opts := by unfold passTime; split <;> rfl
@[simp] theorem passTime_settlePeriod (dt : Nat) (s : State) : (passTime dt s).settlePeriod = s.settlePeriod := by unfold passTime; split <;> rfl
@[simp] theorem passTime_proposalTimeout (dt : Nat) (s : State) : (passTime dt s).proposalTimeout = s.proposalTimeout := by unfold passTime; split <;> rfl
@[simp] theorem passTime_profiles (dt : Nat) (s : State) : (passTime dt s).profiles = s.profiles := by unfold passTime; split <;> rfl
@[simp] theorem passTime_pools (dt : Nat) (s : State) : (passTime dt s).pools = s.pools := by unfold passTime; split <;> rfl
@[simp] theorem passTime_engine (dt : Nat) (s : State) : (passTime dt s).engine = s.engine := by unfold passTime; split <;> rfl
@[simp] theorem passTime_gate (dt : Nat) (s : State) : (passTime dt s).gate = s.gate := by unfold passTime; split <;> rfl
@[simp] theorem passTime_heldFrames (dt : Nat) (s : State) : (passTime dt s).heldFrames = s.heldFrames := by unfold passTime; split <;> rfl
@[simp] theorem passTime_notes (dt : Nat) (s : State) : (passTime dt s).notes = s.notes := by unfold passTime; split <;> rfl
@[simp] theorem passTime_table (dt : Nat) (s : State) : (passTime dt s).table = s.table := by unfold passTime; split <;> rfl
@[simp] theorem passTime_backlog (dt : Nat) (s : State) : (passTime dt s).backlog = s.backlog := by unfold passTime; split <;> rfl
@[simp] theorem passTime_staging (dt : Nat) (s : State) : (passTime dt s).staging = s.staging := by unfold passTime; split <;> rfl
@[simp] theorem passTime_arm (dt : Nat) (s : State) : (passTime dt s).arm = s.arm := by unfold passTime; split <;> rfl
@[simp] theorem passTime_commits (dt : Nat) (s : State) : (passTime dt s).commits = s.commits := by unfold passTime; split <;> rfl
@[simp] theorem passTime_confirm (dt : Nat) (s : State) : (passTime dt s).confirm = s.confirm := by unfold passTime; split <;> rfl
@[simp] theorem passTime_lock (dt : Nat) (s : State) : (passTime dt s).lock = s.lock := by unfold passTime; split <;> rfl
@[simp] theorem passTime_spans (dt : Nat) (s : State) : (passTime dt s).spans = s.spans := by unfold passTime; split <;> rfl
@[simp] theorem passTime_surveys (dt : Nat) (s : State) : (passTime dt s).surveys = s.surveys := by unfold passTime; split <;> rfl
@[simp] theorem passTime_enables (dt : Nat) (s : State) : (passTime dt s).enables = s.enables := by unfold passTime; split <;> rfl
@[simp] theorem passTime_latches (dt : Nat) (s : State) : (passTime dt s).latches = s.latches := by unfold passTime; split <;> rfl
@[simp] theorem passTime_counters (dt : Nat) (s : State) : (passTime dt s).counters = s.counters := by unfold passTime; split <;> rfl
@[simp] theorem passTime_trunkDiscards (dt : Nat) (s : State) : (passTime dt s).trunkDiscards = s.trunkDiscards := by unfold passTime; split <;> rfl
@[simp] theorem passTime_heldDiscards (dt : Nat) (s : State) : (passTime dt s).heldDiscards = s.heldDiscards := by unfold passTime; split <;> rfl

/-! ### Reading what an update wrote -/

@[simp] theorem chan_setChan_same (s : State) (c : Chan) (r : ChanRec) : (s.setChan c r).chan c = r := by
  simp [State.chan, State.setChan]
@[simp] theorem chan_modChan_same (s : State) (c : Chan) (f : ChanRec → ChanRec) :
    (s.modChan c f).chan c = f (s.chan c) := by
  simp [State.modChan]

/-- Two channels with one position are one channel (R2). -/
theorem Chan.idx_inj {c d : Chan} (h : c.idx = d.idx) : c = d := by
  obtain ⟨z, n⟩ := c
  obtain ⟨y, m⟩ := d
  have h1 : 32 * z.val + n.val = 32 * y.val + m.val := congrArg Fin.val h
  have hz : z = y := Fin.ext (by omega)
  have hn : n = m := Fin.ext (by omega)
  subst hz hn
  rfl

theorem chan_setChan_other (s : State) {c d : Chan} (r : ChanRec) (h : d ≠ c) : (s.setChan c r).chan d = s.chan d := by
  have hne : c.idx.val ≠ d.idx.val := fun e => h (Chan.idx_inj (Fin.ext e)).symm
  simp [State.chan, State.setChan, Vector.getElem_set_ne _ _ hne]
theorem chan_modChan_other (s : State) {c d : Chan} (f : ChanRec → ChanRec) (h : d ≠ c) :
    (s.modChan c f).chan d = s.chan d := chan_setChan_other s _ h

@[simp] theorem pool_setPool_same (s : State) (g : Group) (p : List PoolEntry) : (s.setPool g p).pool g = p := by
  simp [State.pool, State.setPool]
theorem pool_setPool_other (s : State) {g h : Group} (p : List PoolEntry) (ne : h ≠ g) :
    (s.setPool g p).pool h = s.pool h := by
  have hne : g.val ≠ h.val := fun e => ne (Fin.ext e.symm)
  simp [State.pool, State.setPool, Vector.getElem_set_ne _ _ hne]

@[simp] theorem port_setPort_same (s : State) (p : Port) (x : PortState) : (s.setPort p x).port p = x := by
  cases p <;> simp [State.port, State.setPort]
theorem port_setPort_other (s : State) {p q : Port} (x : PortState) (ne : q ≠ p) : (s.setPort p x).port q = s.port q := by
  cases p with
  | trunk => cases q with
    | trunk => exact absurd rfl ne
    | stage z => rfl
  | stage y => cases q with
    | trunk => rfl
    | stage z =>
      have hne : y.val ≠ z.val := fun e => ne (by rw [Fin.ext e])
      simp [State.port, State.setPort, Vector.getElem_set_ne _ _ hne]

/-! ### Counters (R193) -/

theorem satInc_le (n : Nat) : satInc n ≤ 255 := Nat.min_le_right _ _
theorem satInc_of_lt {n : Nat} (h : n < 255) : satInc n = n + 1 := by unfold satInc; omega
theorem satInc_full : satInc 255 = 255 := rfl

end Sys2Proof.Machine
end

