-- ==== Sys2Proof/Laws/Arrival.lean ====
section
/-! SUPPORT. The arrival of a frame, said once: what it leaves alone, and what a command does from there. A proof about a
request that is accepted starts with `exec_request` and goes on from `handle`. -/

namespace Sys2Proof.Machine

set_option Elab.async false

/-! ## What an arrival leaves alone -/

@[simp] theorem arrived_pending (dt : Nat) (p : Port) (s : State) : (arrived dt p s).pending = s.pending := by simp [arrived, restartSilence]
@[simp] theorem arrived_freeCount (dt : Nat) (p : Port) (s : State) : (arrived dt p s).freeCount = s.freeCount := by simp [arrived, restartSilence]
@[simp] theorem arrived_originSeq (dt : Nat) (p : Port) (s : State) : (arrived dt p s).originSeq = s.originSeq := by simp [arrived, restartSilence]
@[simp] theorem arrived_chans (dt : Nat) (p : Port) (s : State) : (arrived dt p s).chans = s.chans := by simp [arrived, restartSilence]
@[simp] theorem arrived_caps (dt : Nat) (p : Port) (s : State) : (arrived dt p s).caps = s.caps := by simp [arrived, restartSilence]
@[simp] theorem arrived_couple (dt : Nat) (p : Port) (s : State) : (arrived dt p s).couple = s.couple := by simp [arrived, restartSilence]
@[simp] theorem arrived_rels (dt : Nat) (p : Port) (s : State) : (arrived dt p s).rels = s.rels := by simp [arrived, restartSilence]
@[simp] theorem arrived_excl (dt : Nat) (p : Port) (s : State) : (arrived dt p s).excl = s.excl := by simp [arrived, restartSilence]
@[simp] theorem arrived_gens (dt : Nat) (p : Port) (s : State) : (arrived dt p s).gens = s.gens := by simp [arrived, restartSilence]
@[simp] theorem arrived_spacing (dt : Nat) (p : Port) (s : State) : (arrived dt p s).spacing = s.spacing := by simp [arrived, restartSilence]
@[simp] theorem arrived_opts (dt : Nat) (p : Port) (s : State) : (arrived dt p s).opts = s.opts := by simp [arrived, restartSilence]
@[simp] theorem arrived_settlePeriod (dt : Nat) (p : Port) (s : State) : (arrived dt p s).settlePeriod = s.settlePeriod := by simp [arrived, restartSilence]
@[simp] theorem arrived_proposalTimeout (dt : Nat) (p : Port) (s : State) : (arrived dt p s).proposalTimeout = s.proposalTimeout := by simp [arrived, restartSilence]
@[simp] theorem arrived_profiles (dt : Nat) (p : Port) (s : State) : (arrived dt p s).profiles = s.profiles := by simp [arrived, restartSilence]
@[simp] theorem arrived_pools (dt : Nat) (p : Port) (s : State) : (arrived dt p s).pools = s.pools := by simp [arrived, restartSilence]
@[simp] theorem arrived_engine (dt : Nat) (p : Port) (s : State) : (arrived dt p s).engine = s.engine := by simp [arrived, restartSilence]
@[simp] theorem arrived_gate (dt : Nat) (p : Port) (s : State) : (arrived dt p s).gate = s.gate := by simp [arrived, restartSilence]
@[simp] theorem arrived_heldFrames (dt : Nat) (p : Port) (s : State) : (arrived dt p s).heldFrames = s.heldFrames := by simp [arrived, restartSilence]
@[simp] theorem arrived_notes (dt : Nat) (p : Port) (s : State) : (arrived dt p s).notes = s.notes := by simp [arrived, restartSilence]
@[simp] theorem arrived_table (dt : Nat) (p : Port) (s : State) : (arrived dt p s).table = s.table := by simp [arrived, restartSilence]
@[simp] theorem arrived_backlog (dt : Nat) (p : Port) (s : State) : (arrived dt p s).backlog = s.backlog := by simp [arrived, restartSilence]
@[simp] theorem arrived_staging (dt : Nat) (p : Port) (s : State) : (arrived dt p s).staging = s.staging := by simp [arrived, restartSilence]
@[simp] theorem arrived_arm (dt : Nat) (p : Port) (s : State) : (arrived dt p s).arm = s.arm := by simp [arrived, restartSilence]
@[simp] theorem arrived_commits (dt : Nat) (p : Port) (s : State) : (arrived dt p s).commits = s.commits := by simp [arrived, restartSilence]
@[simp] theorem arrived_confirm (dt : Nat) (p : Port) (s : State) : (arrived dt p s).confirm = s.confirm := by simp [arrived, restartSilence]
@[simp] theorem arrived_lock (dt : Nat) (p : Port) (s : State) : (arrived dt p s).lock = s.lock := by simp [arrived, restartSilence]
@[simp] theorem arrived_spans (dt : Nat) (p : Port) (s : State) : (arrived dt p s).spans = s.spans := by simp [arrived, restartSilence]
@[simp] theorem arrived_surveys (dt : Nat) (p : Port) (s : State) : (arrived dt p s).surveys = s.surveys := by simp [arrived, restartSilence]
@[simp] theorem arrived_enables (dt : Nat) (p : Port) (s : State) : (arrived dt p s).enables = s.enables := by simp [arrived, restartSilence]
@[simp] theorem arrived_latches (dt : Nat) (p : Port) (s : State) : (arrived dt p s).latches = s.latches := by simp [arrived, restartSilence]
@[simp] theorem arrived_counters (dt : Nat) (p : Port) (s : State) : (arrived dt p s).counters = s.counters := by simp [arrived, restartSilence]
@[simp] theorem arrived_trunkDiscards (dt : Nat) (p : Port) (s : State) : (arrived dt p s).trunkDiscards = s.trunkDiscards := by simp [arrived, restartSilence]
@[simp] theorem arrived_heldDiscards (dt : Nat) (p : Port) (s : State) : (arrived dt p s).heldDiscards = s.heldDiscards := by simp [arrived, restartSilence]

@[simp] theorem passTime_up (dt : Nat) (p : Port) (s : State) : ((passTime dt s).port p).up = (s.port p).up := by
  unfold passTime; split
  · rfl
  · cases p <;> simp [State.port, PortState.drain]
@[simp] theorem passTime_silence (dt : Nat) (p : Port) (s : State) :
    ((passTime dt s).port p).silence = (s.port p).silence := by
  unfold passTime; split
  · rfl
  · cases p <;> simp [State.port, PortState.drain]
@[simp] theorem passTime_sigdet (dt : Nat) (p : Port) (s : State) :
    ((passTime dt s).port p).sigdet = (s.port p).sigdet := by
  unfold passTime; split
  · rfl
  · cases p <;> simp [State.port, PortState.drain]
@[simp] theorem passTime_now (dt : Nat) (s : State) : (passTime dt s).now = s.now + dt := by
  unfold passTime; split
  · omega
  · rfl
@[simp] theorem arrived_now (dt : Nat) (p : Port) (s : State) : (arrived dt p s).now = s.now + dt := by
  cases p <;> simp [arrived, restartSilence]
@[simp] theorem chan_arrived (dt : Nat) (p : Port) (s : State) (c : Chan) : (arrived dt p s).chan c = s.chan c := by simp [State.chan]
@[simp] theorem chan_passTime (dt : Nat) (s : State) (c : Chan) : (passTime dt s).chan c = s.chan c := by simp [State.chan]
@[simp] theorem cap_arrived (dt : Nat) (p : Port) (s : State) (c : Chan) : (arrived dt p s).cap c = s.cap c := by simp [State.cap]
@[simp] theorem cap_passTime (dt : Nat) (s : State) (c : Chan) : (passTime dt s).cap c = s.cap c := by simp [State.cap]
@[simp] theorem staged_arrived (dt : Nat) (p : Port) (s : State) (c : Chan) : (arrived dt p s).staged c = s.staged c := by simp [State.staged]
@[simp] theorem staged_passTime (dt : Nat) (s : State) (c : Chan) : (passTime dt s).staged c = s.staged c := by simp [State.staged]
@[simp] theorem groupOf_arrived (dt : Nat) (p : Port) (s : State) (c : Chan) : (arrived dt p s).groupOf c = s.groupOf c := by simp [State.groupOf]
@[simp] theorem groupOf_passTime (dt : Nat) (s : State) (c : Chan) : (passTime dt s).groupOf c = s.groupOf c := by simp [State.groupOf]
@[simp] theorem opt_arrived (dt : Nat) (p : Port) (s : State) (g : Group) : (arrived dt p s).opt g = s.opt g := by simp [State.opt]
@[simp] theorem opt_passTime (dt : Nat) (s : State) (g : Group) : (passTime dt s).opt g = s.opt g := by simp [State.opt]
@[simp] theorem pool_arrived (dt : Nat) (p : Port) (s : State) (g : Group) : (arrived dt p s).pool g = s.pool g := by simp [State.pool]
@[simp] theorem pool_passTime (dt : Nat) (s : State) (g : Group) : (passTime dt s).pool g = s.pool g := by simp [State.pool]
@[simp] theorem commitRec_arrived (dt : Nat) (p : Port) (s : State) (z : Stage) : (arrived dt p s).commitRec z = s.commitRec z := by simp [State.commitRec]
@[simp] theorem commitRec_passTime (dt : Nat) (s : State) (z : Stage) : (passTime dt s).commitRec z = s.commitRec z := by simp [State.commitRec]
@[simp] theorem entryOf_arrived (dt : Nat) (p : Port) (s : State) (c : Chan) : (arrived dt p s).entryOf c = s.entryOf c := by simp [State.entryOf]
@[simp] theorem entryOf_passTime (dt : Nat) (s : State) (c : Chan) : (passTime dt s).entryOf c = s.entryOf c := by simp [State.entryOf]
@[simp] theorem itemOf_arrived (dt : Nat) (p : Port) (s : State) (c : Chan) : (arrived dt p s).itemOf c = s.itemOf c := by simp [State.itemOf]
@[simp] theorem itemOf_passTime (dt : Nat) (s : State) (c : Chan) : (passTime dt s).itemOf c = s.itemOf c := by simp [State.itemOf]
@[simp] theorem noteOf_arrived (dt : Nat) (p : Port) (s : State) (c : Chan) : (arrived dt p s).noteOf c = s.noteOf c := by simp [State.noteOf]
@[simp] theorem noteOf_passTime (dt : Nat) (s : State) (c : Chan) : (passTime dt s).noteOf c = s.noteOf c := by simp [State.noteOf]
@[simp] theorem heldOf_arrived (dt : Nat) (p : Port) (s : State) (c : Chan) : (arrived dt p s).heldOf c = s.heldOf c := by simp [State.heldOf]
@[simp] theorem heldOf_passTime (dt : Nat) (s : State) (c : Chan) : (passTime dt s).heldOf c = s.heldOf c := by simp [State.heldOf]
@[simp] theorem recs_arrived (dt : Nat) (p : Port) (s : State) : (arrived dt p s).recs = s.recs := by simp [State.recs]
@[simp] theorem near_arrived (dt : Nat) (p : Port) (s : State) (g h : Group) : (arrived dt p s).near g h = s.near g h := by
  simp [State.near]
@[simp] theorem fitted_arrived (dt : Nat) (p : Port) (s : State) (c : Chan) : (arrived dt p s).fitted c = s.fitted c := by
  simp [State.fitted]
@[simp] theorem readyCount_arrived (dt : Nat) (p : Port) (s : State) (g : Group) :
    (arrived dt p s).readyCount g = s.readyCount g := by simp [State.readyCount]
@[simp] theorem occupiedIn_arrived (dt : Nat) (p : Port) (s : State) (g : Group) (f : Nat) :
    (arrived dt p s).occupiedIn g f = s.occupiedIn g f := by simp [State.occupiedIn]
@[simp] theorem liveProfile_arrived (dt : Nat) (p : Port) (s : State) (q : Option (Fin 8)) :
    (arrived dt p s).liveProfile q = s.liveProfile q := by simp [State.liveProfile]
@[simp] theorem freshWatch_arrived (dt : Nat) (p : Port) (s : State) (q : Option (Fin 8)) :
    (arrived dt p s).freshWatch q = s.freshWatch q := by simp [State.freshWatch]
@[simp] theorem rules_arrived (dt : Nat) (p : Port) (s : State) : (arrived dt p s).rules = s.rules := by simp [State.rules]
@[simp] theorem held_arrived (dt : Nat) (p : Port) (s : State) (gs : List Group) : (arrived dt p s).held gs = s.held gs := by
  simp [State.held]
/-- The port a frame arrives at is UP from then on. -/
@[simp] theorem arrived_up (dt : Nat) (p : Port) (s : State) : ((arrived dt p s).port p).up = true := by
  cases p <;> simp [arrived, restartSilence, State.port, State.setPort]

/-! ## From an arrival to its handling -/

/-- On a port that is UP an arrival is the passing of time and a fresh silence timer. -/
theorem arrive_of_up {dt : Nat} {p : Port} {s : State} (h : (s.port p).up = true) : arrive dt p s = arrived dt p s := by
  simp [arrive, arrived, h]
/-- A request that is accepted is handled in the state its arrival leaves. -/
theorem request_of_accepted {h : ReqHdr} {r : Request} {s : State} (a : Accepted h r s) :
    request h r s = handle h r (arrived h.dt h.port s) := by
  obtain ⟨up, src, none⟩ := a
  simp [request, serve, arrive_of_up up, src, permit, none]
/-- A request the tests of R183 refuse is answered and changes nothing else. -/
theorem request_of_refused {h : ReqHdr} {r : Request} {s : State} {st : Status} (up : (s.port h.port).up = true)
    (src : sourceOk h.port h.src = true) (no : refusalOf h r s.lock = some st) :
    request h r s = refuse h r.code st (arrived h.dt h.port s) := by
  simp [request, serve, arrive_of_up up, src, permit, no]
/-- A command that carries a request is the service of that request. -/
theorem exec_request {i : Instr} {h : ReqHdr} {r : Request} (e : requestOf i = some (h, r)) (s : State) :
    exec i s = .next (request h r s) := by
  cases i <;> simp only [requestOf, Option.some.injEq, Prod.mk.injEq, reduceCtorEq] at e <;>
    (obtain ⟨rfl, rfl⟩ := e; rfl)
/-- A command that carries a chain payload is the arrival of its frame. -/
theorem exec_chain {i : Instr} {h : FrameHdr} {p : Payload} (e : chainOf i = some (h, p)) (s : State) :
    exec i s = .next (chainArrival h p s) := by
  cases i <;> simp only [chainOf, Option.some.injEq, Prod.mk.injEq, reduceCtorEq] at e <;>
    (obtain ⟨rfl, rfl⟩ := e; rfl)

end Sys2Proof.Machine
end

