-- ==== Sys2Proof/Laws/PerInstr.lean ====
section
/-! SUPPORT. Statements made for every command, one lemma per constructor of `Instr`: the payload of the frame whose
arrival a well-formed command is fits a frame (R78). -/

namespace Sys2Proof.Laws.PayloadFits

set_option Elab.async false

/-- A well-formed command carried by a frame has a payload of at most 120 bytes (R78). -/
def Statement (i : Instr) : Prop := i.wf = true → ∀ p, payloadOf i = some p → p.length ≤ 120

theorem flatMap_length {α : Type} (f : α → List Byte) (k : Nat) (h : ∀ x, (f x).length = k) (xs : List α) :
    (xs.flatMap f).length = k * xs.length := by
  induction xs with
  | nil => simp
  | cons x xs ih => simp [List.flatMap_cons, h, ih, Nat.mul_succ]; omega
theorem be16_length (n : Nat) : (be16 n).length = 2 := rfl
theorem be32_length (n : Nat) : (be32 n).length = 4 := rfl
theorem encodeReport_length (r : Report) : (encodeReport r).length = 6 := rfl
theorem encodeCap_length (e : CapReport) : (encodeCap e).length = 7 := rfl
theorem settings_length (xs : List Setting) : (xs.flatMap encodeSetting).length = (xs.map Setting.size).sum := by
  induction xs with
  | nil => rfl
  | cons x xs ih =>
    simp only [List.flatMap_cons, List.length_append, ih, List.map_cons, List.sum_cons]
    congr 1
    unfold encodeSetting Setting.size
    split <;> simp [be32_length]

/-- A request that can arrive fits a frame: its code and its operands are at most 120 bytes (R78, R80). -/
theorem request_fits (r : Request) (w : r.wf = true) : (encodeRequest r).length ≤ 120 := by
  cases r with
  | loadPool g n fs =>
    simp [Request.wf] at w
    simp [encodeRequest, encodeOps, flatMap_length be16 2 be16_length]
    omega
  | setGroups gs rs =>
    simp [Request.wf] at w
    simp [encodeRequest, encodeOps]
    omega
  | setRules xs =>
    simp [Request.wf] at w
    simp only [encodeRequest, encodeOps, List.length_cons, settings_length]
    omega
  | setNotices vs =>
    simp [Request.wf] at w
    simp [encodeRequest, encodeOps]
    omega
  | stageChannel st sl k ops =>
    cases ops <;> simp [encodeRequest, encodeOps, encodeStaged, be16_length]
  | _ => simp [encodeRequest, encodeOps, encodeCond, be16_length, be32_length]

theorem powerOn : Statement (.powerOn) :=
  fun _ _ e => nomatch e
theorem lineSignalLoss (dt : Nat) (port : Port) : Statement (.lineSignalLoss dt port) :=
  fun _ _ e => nomatch e
theorem silenceTimerExpiry (port : Port) : Statement (.silenceTimerExpiry port) :=
  fun _ _ e => nomatch e
theorem receiveFrame (dt : Nat) (port : Port) (bytes : List Byte) : Statement (.receiveFrame dt port bytes) :=
  fun _ _ e => nomatch e
theorem telemetry (h : FrameHdr) (rs : List Report) : Statement (.telemetry h rs) := by
  intro w p e
  obtain rfl : _ = p := Option.some.inj e
  simp [Instr.wf, telemetryWf] at w
  simp only [encodePayload, List.length_cons, flatMap_length encodeReport 6 encodeReport_length]
  omega
theorem sweep (h : FrameHdr) (d : SweepData) : Statement (.sweep h d) := by
  intro w p e
  obtain rfl : _ = p := Option.some.inj e
  simp [Instr.wf, SweepData.wf] at w
  simp [encodePayload, be16_length]
  omega
theorem capability (h : FrameHdr) (es : List CapReport) : Statement (.capability h es) := by
  intro w p e
  obtain rfl : _ = p := Option.some.inj e
  simp [Instr.wf, capabilityWf] at w
  simp only [encodePayload, List.length_cons, flatMap_length encodeCap 7 encodeCap_length]
  omega
theorem tune (h : FrameHdr) (data : TuneData) : Statement (.tune h data) := by
  intro _ p e
  obtain rfl : _ = p := Option.some.inj e
  simp [encodePayload, be16_length]
theorem tuneReport (h : FrameHdr) (data : TuneReportData) : Statement (.tuneReport h data) := by
  intro _ p e
  obtain rfl : _ = p := Option.some.inj e
  simp [encodePayload, be16_length]
theorem unknownRequest (h : ReqHdr) (code : Nat) : Statement (.unknownRequest h code) :=
  fun w _ e => Option.some.inj e ▸ request_fits _ w
theorem readChannel (h : ReqHdr) (stage : Nat) (slot : Nat) : Statement (.readChannel h stage slot) :=
  fun w _ e => Option.some.inj e ▸ request_fits _ w
theorem defineChannel (h : ReqHdr) (stage : Nat) (slot : Nat) (cls : Nat) (priority : Nat) (profile : Nat) (pinned : Nat) : Statement (.defineChannel h stage slot cls priority profile pinned) :=
  fun w _ e => Option.some.inj e ▸ request_fits _ w
theorem removeChannel (h : ReqHdr) (stage : Nat) (slot : Nat) : Statement (.removeChannel h stage slot) :=
  fun w _ e => Option.some.inj e ▸ request_fits _ w
theorem writeChannel (h : ReqHdr) (stage : Nat) (slot : Nat) (cls : Nat) (priority : Nat) (profile : Nat) (pinned : Nat) (freq : Nat) : Statement (.writeChannel h stage slot cls priority profile pinned freq) :=
  fun w _ e => Option.some.inj e ▸ request_fits _ w
theorem move (h : ReqHdr) (stage : Nat) (slot : Nat) (form : Nat) (operand : Nat) (roc : Nat) : Statement (.move h stage slot form operand roc) :=
  fun w _ e => Option.some.inj e ▸ request_fits _ w
theorem revert (h : ReqHdr) (stage : Nat) (slot : Nat) : Statement (.revert h stage slot) :=
  fun w _ e => Option.some.inj e ▸ request_fits _ w
theorem release (h : ReqHdr) (stage : Nat) (slot : Nat) : Statement (.release h stage slot) :=
  fun w _ e => Option.some.inj e ▸ request_fits _ w
theorem ackWatch (h : ReqHdr) (stage : Nat) (slot : Nat) : Statement (.ackWatch h stage slot) :=
  fun w _ e => Option.some.inj e ▸ request_fits _ w
theorem check (h : ReqHdr) (ops : CheckOps) : Statement (.check h ops) :=
  fun w _ e => Option.some.inj e ▸ request_fits _ w
theorem stageChannel (h : ReqHdr) (st sl k : Nat) (ops : StagedOps) : Statement (.stageChannel h st sl k ops) :=
  fun w _ e => Option.some.inj e ▸ request_fits _ w
theorem commitStage (h : ReqHdr) (stage : Nat) : Statement (.commitStage h stage) :=
  fun w _ e => Option.some.inj e ▸ request_fits _ w
theorem armStage (h : ReqHdr) (stage : Nat) (on : Nat) : Statement (.armStage h stage on) :=
  fun w _ e => Option.some.inj e ▸ request_fits _ w
theorem addExclusion (h : ReqHdr) (first : Nat) (last : Nat) (scope : Nat) : Statement (.addExclusion h first last scope) :=
  fun w _ e => Option.some.inj e ▸ request_fits _ w
theorem removeExclusion (h : ReqHdr) (first : Nat) (last : Nat) : Statement (.removeExclusion h first last) :=
  fun w _ e => Option.some.inj e ▸ request_fits _ w
theorem readExclusions (h : ReqHdr) (start : Nat) : Statement (.readExclusions h start) :=
  fun w _ e => Option.some.inj e ▸ request_fits _ w
theorem addPool (h : ReqHdr) (group : Nat) (freq : Nat) : Statement (.addPool h group freq) :=
  fun w _ e => Option.some.inj e ▸ request_fits _ w
theorem removePool (h : ReqHdr) (group : Nat) (freq : Nat) : Statement (.removePool h group freq) :=
  fun w _ e => Option.some.inj e ▸ request_fits _ w
theorem loadPool (h : ReqHdr) (g n : Nat) (fs : List Nat) : Statement (.loadPool h g n fs) :=
  fun w _ e => Option.some.inj e ▸ request_fits _ w
theorem readPool (h : ReqHdr) (group : Nat) : Statement (.readPool h group) :=
  fun w _ e => Option.some.inj e ▸ request_fits _ w
theorem writeProfile (h : ReqHdr) (number : Nat) (ops : ProfileOps) : Statement (.writeProfile h number ops) :=
  fun w _ e => Option.some.inj e ▸ request_fits _ w
theorem readProfile (h : ReqHdr) (number : Nat) : Statement (.readProfile h number) :=
  fun w _ e => Option.some.inj e ▸ request_fits _ w
theorem setGroups (h : ReqHdr) (gs rs : List Nat) : Statement (.setGroups h gs rs) :=
  fun w _ e => Option.some.inj e ▸ request_fits _ w
theorem setRules (h : ReqHdr) (xs : List Setting) : Statement (.setRules h xs) :=
  fun w _ e => Option.some.inj e ▸ request_fits _ w
theorem setGate (h : ReqHdr) (stage : Nat) (mode : Nat) : Statement (.setGate h stage mode) :=
  fun w _ e => Option.some.inj e ▸ request_fits _ w
theorem setLock (h : ReqHdr) (value : Nat) : Statement (.setLock h value) :=
  fun w _ e => Option.some.inj e ▸ request_fits _ w
theorem setConfirm (h : ReqHdr) (value : Nat) : Statement (.setConfirm h value) :=
  fun w _ e => Option.some.inj e ▸ request_fits _ w
theorem setSpan (h : ReqHdr) (stage : Nat) (start : Nat) (step : Nat) (size : Nat) : Statement (.setSpan h stage start step size) :=
  fun w _ e => Option.some.inj e ▸ request_fits _ w
theorem setNotices (h : ReqHdr) (vs : List Nat) : Statement (.setNotices h vs) :=
  fun w _ e => Option.some.inj e ▸ request_fits _ w
theorem go (h : ReqHdr) (stage : Nat) (slot : Nat) : Statement (.go h stage slot) :=
  fun w _ e => Option.some.inj e ▸ request_fits _ w
theorem drop (h : ReqHdr) (stage : Nat) (slot : Nat) : Statement (.drop h stage slot) :=
  fun w _ e => Option.some.inj e ▸ request_fits _ w
theorem goAll (h : ReqHdr) : Statement (.goAll h) :=
  fun w _ e => Option.some.inj e ▸ request_fits _ w
theorem survey (h : ReqHdr) (stage : Nat) (start : Nat) (step : Nat) (count : Nat) (passes : Nat) (timeout : Nat) : Statement (.survey h stage start step count passes timeout) :=
  fun w _ e => Option.some.inj e ▸ request_fits _ w
theorem readEvents (h : ReqHdr) (clear : Nat) : Statement (.readEvents h clear) :=
  fun w _ e => Option.some.inj e ▸ request_fits _ w
theorem readCounters (h : ReqHdr) (clear : Nat) (start : Nat) : Statement (.readCounters h clear start) :=
  fun w _ e => Option.some.inj e ▸ request_fits _ w
theorem identify (h : ReqHdr) : Statement (.identify h) :=
  fun w _ e => Option.some.inj e ▸ request_fits _ w
theorem restart (h : ReqHdr) : Statement (.restart h) :=
  fun w _ e => Option.some.inj e ▸ request_fits _ w
theorem windowDeadlineExpiry (stage : Fin 6) (slot : Fin 32) : Statement (.windowDeadlineExpiry stage slot) :=
  fun _ _ e => nomatch e
theorem settleDeadlineExpiry (stage : Fin 6) (slot : Fin 32) : Statement (.settleDeadlineExpiry stage slot) :=
  fun _ _ e => nomatch e
theorem proposalDeadlineExpiry (stage : Fin 6) (slot : Fin 32) : Statement (.proposalDeadlineExpiry stage slot) :=
  fun _ _ e => nomatch e
theorem replyDeadlineExpiry (stage : Fin 6) (slot : Fin 32) : Statement (.replyDeadlineExpiry stage slot) :=
  fun _ _ e => nomatch e
theorem lockDeadlineExpiry (stage : Fin 6) (slot : Fin 32) : Statement (.lockDeadlineExpiry stage slot) :=
  fun _ _ e => nomatch e
theorem waitDeadlineExpiry (stage : Fin 6) : Statement (.waitDeadlineExpiry stage) :=
  fun _ _ e => nomatch e
theorem surveyDeadlineExpiry (stage : Fin 6) : Statement (.surveyDeadlineExpiry stage) :=
  fun _ _ e => nomatch e
theorem guardCheckCompletion (dt : Nat) : Statement (.guardCheckCompletion dt) :=
  fun _ _ e => nomatch e
theorem postCheckCompletion (dt : Nat) : Statement (.postCheckCompletion dt) :=
  fun _ _ e => nomatch e
theorem checkCompletion (dt : Nat) : Statement (.checkCompletion dt) :=
  fun _ _ e => nomatch e
theorem operatorCheckCompletion (dt : Nat) : Statement (.operatorCheckCompletion dt) :=
  fun _ _ e => nomatch e
theorem candidateCheckCompletion (dt : Nat) : Statement (.candidateCheckCompletion dt) :=
  fun _ _ e => nomatch e
theorem openSearchCompletion (dt : Nat) : Statement (.openSearchCompletion dt) :=
  fun _ _ e => nomatch e
theorem returnCheckCompletion (dt : Nat) : Statement (.returnCheckCompletion dt) :=
  fun _ _ e => nomatch e
theorem commitStepCompletion (dt : Nat) : Statement (.commitStepCompletion dt) :=
  fun _ _ e => nomatch e
theorem poolCheckCompletion (dt : Nat) : Statement (.poolCheckCompletion dt) :=
  fun _ _ e => nomatch e
theorem lineSignalReturn (dt : Nat) (port : Port) : Statement (.lineSignalReturn dt port) :=
  fun _ _ e => nomatch e

end Sys2Proof.Laws.PayloadFits
end

