-- ==== Sys2Proof/Laws/Plan.lean ====
section
/-! SUPPORT. What each operation of the Plan, of the Engine's queues and of the retune table can change at all: all else in State is as it was.
A proof rewrites with these and reads the other fields by `rfl`. -/

namespace Sys2Proof.Machine

/-! ## The Plan -/

theorem reflag_changes_chans (c : Chan) (s : State) : reflag c s = { s with chans := (reflag c s).chans } := rfl
theorem reflagAll_changes_chans (cs : List Chan) (s : State) :
    reflagAll cs s = { s with chans := (reflagAll cs s).chans } := by
  induction cs generalizing s with
  | nil => rfl
  | cons c cs ih => exact ih (reflag c s)
theorem demotePools_changes_pools (g : Group) (s : State) : demotePools g s = { s with pools := (demotePools g s).pools } := by
  unfold demotePools
  generalize s.watchedOf g = gs
  induction gs generalizing s with
  | nil => rfl
  | cons k gs ih => exact ih (s.setPool k ((s.pool k).map PoolEntry.demote))
theorem unpool_changes_pools (g : Group) (f : Nat) (s : State) : unpool g f s = { s with pools := (unpool g f s).pools } := rfl
theorem appendPool_changes_pools (g : Group) (f : Nat) (x : PoolState) (l : Option Nat) (s : State) :
    appendPool g f x l s = { s with pools := (appendPool g f x l s).pools } := by
  unfold appendPool; split <;> rfl
/-- A reservation changes records, generations, pools, items and track notes alone. -/
theorem reserve_changes (c : Chan) (f : Nat) (s : State) : reserve c f s =
    { s with chans := (reserve c f s).chans, gens := (reserve c f s).gens, pools := (reserve c f s).pools
             backlog := (reserve c f s).backlog, notes := (reserve c f s).notes } := by
  unfold reserve bumpGen
  rw [reflag_changes_chans, unpool_changes_pools, demotePools_changes_pools]; rfl
theorem complete_changes_chans (c : Chan) (f : Nat) (b : Bool) (s : State) :
    complete c f b s = { s with chans := (complete c f b s).chans } := rfl
theorem release_changes_chans (c : Chan) (s : State) : release c s = { s with chans := (release c s).chans } := rfl
/-- An adoption changes records, generations, pools and items alone. -/
theorem adopt_changes (c : Chan) (f : Nat) (k : AdoptKind) (s : State) : adopt c f k s =
    { s with chans := (adopt c f k s).chans, gens := (adopt c f k s).gens, pools := (adopt c f k s).pools
             backlog := (adopt c f k s).backlog } := by
  unfold adopt bumpGen
  rw [reflag_changes_chans, unpool_changes_pools, demotePools_changes_pools]; rfl
theorem pruneBacklog_changes_backlog (s : State) : pruneBacklog s = { s with backlog := (pruneBacklog s).backlog } := rfl

/-! ## The Engine's queues -/

theorem joinMove_changes_engine (m : MoveReq) (s : State) : joinMove m s = { s with engine := (joinMove m s).engine } := rfl
theorem joinAdm_changes_engine (a : AdmReq) (s : State) : joinAdm a s = { s with engine := (joinAdm a s).engine } := rfl
theorem joinCom_changes_engine (r : ComReq) (s : State) : joinCom r s = { s with engine := (joinCom r s).engine } := rfl
theorem joinPool_changes_engine (g : Group) (s : State) : joinPool g s = { s with engine := (joinPool g s).engine } := rfl
theorem beginService_changes_engine (k : ReqClass) (r : Served) (f : Option Nat) (s : State) :
    beginService k r f s = { s with engine := (beginService k r f s).engine } := rfl
theorem endService_changes_engine (s : State) : endService s = { s with engine := (endService s).engine } := rfl
theorem leaveHead_changes_engine (k : ReqClass) (s : State) : leaveHead k s = { s with engine := (leaveHead k s).engine } := by
  cases k <;> rfl
theorem discardIf_changes_engine (b : Bool) (s : State) : discardIf b s = { s with engine := (discardIf b s).engine } := by
  cases b <;> rfl
theorem markEntry_changes_pools (g : Group) (f : Nat) (on : Bool) (s : State) :
    markEntry g f on s = { s with pools := (markEntry g f on s).pools } := rfl

/-! ## The retune table -/

theorem addEntry_changes (e : Entry) (s : State) :
    addEntry e s = { s with table := s.table ++ [e], notes := s.notes.filter fun n => n.chan ≠ e.chan } := rfl
theorem joinBacklog_changes_backlog (i : Item) (s : State) : joinBacklog i s = { s with backlog := s.backlog ++ [i] } := rfl
theorem setHeld_changes_chans (c : Chan) (k : HeldCause) (s : State) :
    setHeld c k s = { s with chans := (setHeld c k s).chans } := rfl
theorem dropReturn_changes_backlog (c : Chan) (s : State) : dropReturn c s = { s with backlog := (dropReturn c s).backlog } := rfl
/-- The item a return watch loses is a RETURN item of its channel, and it loses every one. -/
theorem mem_dropReturn_backlog (c : Chan) (s : State) (i : Item) :
    i ∈ (dropReturn c s).backlog ↔ i ∈ s.backlog ∧ ¬ (i.chan = c ∧ i.want = .ret) := by
  simp [dropReturn, imp_iff_not_or]
/-- A change of a receiver's fitting takes SEARCH and RETURN items alone, those of that receiver, and only when it is not
fitted. -/
theorem mem_dropUnfitted_backlog (c : Chan) (s : State) (i : Item) :
    i ∈ (dropUnfitted c s).backlog ↔ i ∈ s.backlog ∧ (s.fitted c = true ∨ i.chan ≠ c ∨ i.want = .push) := by
  unfold dropUnfitted; split <;> simp_all
theorem dropUnfitted_changes_backlog (c : Chan) (s : State) :
    dropUnfitted c s = { s with backlog := (dropUnfitted c s).backlog } := by
  unfold dropUnfitted; split <;> rfl
theorem blockEntry_changes_pools (g : Group) (f : Nat) (s : State) :
    blockEntry g f s = { s with pools := (blockEntry g f s).pools } := rfl

/-! ## The start of a waiting commit after an adoption -/

/-- What `startAdopted` does is `tryStart`, on the state as it is or with the notice of the flag before it. -/
theorem startAdopted_cases (c : Chan) (s0 s : State) :
    startAdopted c s0 s = tryStart c.stage s ∨ startAdopted c s0 s = tryStart c.stage (notifyConflict c s) := by
  simp only [startAdopted]; split
  · exact .inr rfl
  · exact .inl rfl

end Sys2Proof.Machine
end

