-- ==== Sys2Proof/Tests/Slice0.lean ====
section
/-! SUPPORT. Tests: the well-formedness smoke, the worked cases of section 2.6, one step of each family, and for every
statement with hypotheses a witness that meets them. Each expected result stands in the manual or was counted by hand
from it. -/

namespace Sys2Proof.Tests

set_option Elab.async false

open Sys2Proof Sys2Proof.Machine

/-! ## Small states -/

/-- Every port UP, everything else at reset. -/
def base : State := { State.reset with
  trunk := ⟨true, some 3000, true, []⟩, stagePorts := Vector.replicate 6 ⟨true, some 3000, true, []⟩ }
def hT : ReqHdr := ⟨0, .trunk, ⟨6#8, 0#8⟩, 1#8⟩
/-- A console of stage A. -/
def hS : ReqHdr := ⟨0, .stage 0, ⟨0#8, 5#8⟩, 1#8⟩
/-- A frame of rack 0 of stage A for the coordination station. -/
def hF : FrameHdr := ⟨0, .stage 0, ⟨6#8, 0#8⟩, ⟨0#8, 0#8⟩, 1#8⟩
def c0 : Chan := ⟨0, 0⟩
def parked : ChanRec := { ChanRec.reset with state := .parked }
def active (f : Nat) : ChanRec := { ChanRec.reset with state := .active, assigned := some f }
def moving (a t : Nat) : ChanRec := { ChanRec.reset with
  state := .moving, assigned := some a, pending := some t, ret := some .active }
def on (r : ChanRec) (s : State) : State := s.setChan c0 r
def entry (x : EntryState) (t : Nat) : Entry := ⟨c0, .auto, false, x, some 400, some t, 1, ⟨[], 0, []⟩, false, false, none,
  false, none, some 300, some 2000, some 20000⟩
def withEntry (e : Entry) (s : State) : State := { s with table := [e] }
def withCommit (s : State) : State := s.setCommit 0 (.committing ⟨.request, .draining, [], [], 0, 0, 0, 0, []⟩)
def fits : Cap := ⟨true, 0, 8191, 1⟩
def nextOf (o : Host.Outcome State Fault Refusal) : State :=
  match o with
  | .next t => t
  | _ => State.reset
def after (i : Instr) (s : State) : State := nextOf (exec i s)

/-! ## WellFormed refuses an ill-formed command, check by check -/

theorem test_wf_report : (Instr.telemetry hF [⟨256, 0, 0, false, false, false, 0⟩]).wf = false
    ∧ (Instr.telemetry hF [⟨0, 65536, 0, false, false, false, 0⟩]).wf = false
    ∧ (Instr.telemetry hF [⟨0, 0, 256, false, false, false, 0⟩]).wf = false
    ∧ (Instr.telemetry hF [⟨0, 0, 0, false, false, false, 256⟩]).wf = false
    ∧ (Instr.telemetry hF []).wf = false
    ∧ (Instr.telemetry hF (List.replicate 9 ⟨0, 0, 0, false, false, false, 0⟩)).wf = false := by decide
theorem test_wf_sweep : (Instr.sweep hF ⟨65536, 1, false, false, [0]⟩).wf = false
    ∧ (Instr.sweep hF ⟨0, 0, false, false, [0]⟩).wf = false ∧ (Instr.sweep hF ⟨0, 9, false, false, [0]⟩).wf = false
    ∧ (Instr.sweep hF ⟨0, 1, false, false, []⟩).wf = false
    ∧ (Instr.sweep hF ⟨0, 1, false, false, List.replicate 97 0⟩).wf = false
    ∧ (Instr.sweep hF ⟨0, 1, false, false, [256]⟩).wf = false := by decide
theorem test_wf_capability : (Instr.capability hF []).wf = false ∧ (Instr.capability hF [⟨256, 1, 0, 0, 1⟩]).wf = false
    ∧ (Instr.capability hF [⟨0, 256, 0, 0, 1⟩]).wf = false ∧ (Instr.capability hF [⟨0, 1, 65536, 0, 1⟩]).wf = false
    ∧ (Instr.capability hF [⟨0, 1, 0, 65536, 1⟩]).wf = false ∧ (Instr.capability hF [⟨0, 1, 0, 0, 256⟩]).wf = false := by decide
theorem test_wf_tune : (Instr.tune hF ⟨8, 0, 0⟩).wf = false ∧ (Instr.tune hF ⟨0, 65536, 0⟩).wf = false
    ∧ (Instr.tune hF ⟨0, 0, 256⟩).wf = false ∧ (Instr.tuneReport hF ⟨256, 0, 0, 0, 0⟩).wf = false
    ∧ (Instr.tuneReport hF ⟨0, 65536, 0, 0, 0⟩).wf = false ∧ (Instr.tuneReport hF ⟨0, 0, 256, 0, 0⟩).wf = false
    ∧ (Instr.tuneReport hF ⟨0, 0, 0, 256, 0⟩).wf = false ∧ (Instr.tuneReport hF ⟨0, 0, 0, 0, 256⟩).wf = false := by decide
theorem test_wf_request : (Instr.unknownRequest hT 256).wf = false ∧ (Instr.unknownRequest hT 0x01).wf = false
    ∧ (Instr.release hT 256 0).wf = false ∧ (Instr.release hT 0 256).wf = false
    ∧ (Instr.move hT 0 0 0 65536 0).wf = false ∧ (Instr.check hT (.group 0 65536)).wf = false
    ∧ (Instr.survey hT 0 0 1 1 1 4294967296).wf = false ∧ (Instr.setNotices hT (List.replicate 14 0)).wf = false
    ∧ (Instr.setGroups hT [0, 0, 0, 0, 0] (List.replicate 6 1)).wf = false := by decide
theorem test_wf_lists : (Instr.loadPool hT 0 1 []).wf = false ∧ (Instr.loadPool hT 0 59 (List.replicate 59 0)).wf = false
    ∧ (Instr.loadPool hT 0 1 [65536]).wf = false ∧ (Instr.setRules hT [⟨0, 0, 256⟩]).wf = false
    ∧ (Instr.setRules hT [⟨7, 0, 4294967296⟩]).wf = false ∧ (Instr.setRules hT (List.replicate 40 ⟨0, 0, 1⟩)).wf = false
    ∧ (Instr.stageChannel hT 0 0 2 .none).wf = false ∧ (Instr.stageChannel hT 0 0 0 (.change 0 0)).wf = false
    ∧ (Instr.stageChannel hT 0 0 2 (.add 0 0 0 0 0)).wf = false
    ∧ (Instr.writeProfile hT 0 ⟨⟨0, 0, 0, 256⟩, ⟨0, 0, 0, 0⟩, 0, 0, 0, 0, 0⟩).wf = false
    ∧ (Instr.writeProfile hT 0 ⟨⟨0, 0, 0, 0⟩, ⟨0, 0, 0, 0⟩, 0, 4294967296, 0, 0, 0⟩).wf = false := by decide

/-! ## Bytes (R78 to R80) -/

theorem test_crc_of_the_nine_characters :
    crc16 [0x31#8, 0x32#8, 0x33#8, 0x34#8, 0x35#8, 0x36#8, 0x37#8, 0x38#8, 0x39#8] = 0x29B1#16 := by decide +kernel
theorem test_reads_a_sweep :
    parsePayload 0x11#8 [0x01#8, 0x90#8, 4#8, 2#8, 2#8, 7#8, 8#8] = .sweep ⟨400, 4, false, true, [7, 8]⟩ := by decide +kernel
theorem test_reads_a_capability :
    parsePayload 0x12#8 [1#8, 3#8, 1#8, 0x01#8, 0x90#8, 0x02#8, 0x58#8, 4#8] = .capability [⟨3, 1, 400, 600, 4⟩] := by decide +kernel
theorem test_reads_a_tune_report :
    parsePayload 0x21#8 [4#8, 0x05#8, 0x14#8, 1#8, 2#8, 0#8] = .tuneReport ⟨4, 1300, 1, 2, 0⟩ := by decide +kernel
theorem test_reads_table_requests : parseRequest [0x18#8, 0x01#8, 0x90#8, 0x01#8, 0x91#8, 3#8] = .addExclusion 400 401 3
    ∧ parseRequest [0x1D#8, 1#8, 2#8, 0x01#8, 0x90#8, 0x01#8, 0x91#8] = .loadPool 1 2 [400, 401]
    ∧ parseRequest [0x28#8, 2#8, 0#8, 0#8, 13#8, 8#8, 0#8, 0#8, 0#8, 0x4E#8, 0x20#8] = .setRules [⟨0, 0, 13⟩, ⟨8, 0, 20000⟩] := by
  decide +kernel
theorem test_a_wrong_length_is_malformed : parseRequest [0x0A#8, 0#8] = .malformed 0x0A
    ∧ parseRequest [0x7F#8] = .malformed 0x7F := by decide +kernel

/-! ## Checks: the worked cases of section 2.6 -/

def a2 : Member := ⟨⟨0, 2⟩, 400, false⟩
def a5 : Member := ⟨⟨0, 5⟩, 440, false⟩
def b1 : Member := ⟨⟨1, 1⟩, 520, false⟩
def e3 : Member := ⟨⟨4, 3⟩, 503, false⟩
def f0 (f : Nat) : Member := ⟨⟨5, 0⟩, f, false⟩
def f1 (f : Nat) : Member := ⟨⟨5, 1⟩, f, false⟩
/-- The plan of case 1, seen by a LOW subject that occupies nothing. -/
def case1 : Inputs := ⟨0, false, some (0, 8191, 1), [], [a2, a5, b1], [], ⟨12, 2, 4, 2, 2, 2, 1⟩, false, false, []⟩

theorem test_case_1 : check case1 480 = ⟨.imd3, none, some ⟨0, 5⟩, some ⟨0, 2⟩, 6⟩ := by decide +kernel
theorem test_case_2 : check case1 500 = ⟨.clear, some 8, none, none, 27⟩ := by decide +kernel
theorem test_case_3 : check { case1 with members := [a2, b1], own := [440] } 500 = ⟨.clear, some 8, none, none, 12⟩ := by
  decide +kernel
theorem test_case_4 : check { case1 with members := [a2, { a5 with high := true }, b1] } 500 = ⟨.clear, some 8, none, none, 27⟩
    ∧ check { case1 with high := true } 500 = ⟨.clear, some 6, none, none, 27⟩ := by decide +kernel
theorem test_case_5 : check { case1 with fifth := true, three := true } 500 = ⟨.clear, some 8, none, none, 72⟩ := by
  decide +kernel
theorem test_case_6 : check { case1 with near := [e3] } 500 = ⟨.clear, some 1, none, none, 28⟩
    ∧ check { case1 with near := [e3] } 502 = ⟨.carrier, none, some ⟨4, 3⟩, none, 4⟩ := by decide +kernel
theorem test_case_7 : check { case1 with members := [f0 12, f1 27] } 0 = ⟨.imd3, none, some ⟨5, 0⟩, some ⟨5, 1⟩, 3⟩
    ∧ check { case1 with members := [f0 8, f1 19] } 0 = ⟨.carrier, none, some ⟨5, 0⟩, none, 1⟩
    ∧ check { case1 with members := [f0 8162, f1 8177] } 8191 = ⟨.imd3, none, some ⟨5, 1⟩, some ⟨5, 0⟩, 4⟩ := by decide +kernel
def case8 : Inputs := { case1 with range := some (460, 480, 4) }
theorem test_case_8 : openSearch case8 = some ⟨468, ⟨.clear, some 8, none, none, 27⟩⟩
    ∧ check case8 460 = ⟨.imd3, none, some ⟨0, 2⟩, some ⟨1, 1⟩, 12⟩ ∧ (check case8 476).margin = some 0 := by decide +kernel

/-! ## One step of each family -/

theorem test_define : ((after (.defineChannel hT 0 0 1 0 0 0) base).chan c0).state = .parked
    ∧ ((after (.defineChannel hT 0 0 1 0 0 0) base).chan c0).cls = .high := by decide +kernel
theorem test_move_waits_for_its_check :
    ((after (.move hT 0 0 0 400 0) (on parked base)).engine.service.map (·.cand)) = some (some 400) := by decide +kernel
theorem test_operator_completion_reserves_and_sends :
    let t := after (.operatorCheckCompletion 0) (after (.move hT 0 0 0 400 0) (on parked base))
    (t.chan c0).pending = some 400 ∧ (t.chan c0).state = .moving ∧ t.gens[0] = 1
    ∧ (t.port (.stage 0)).tx.map (·.payload) = [[0#8, 0x01#8, 0x90#8, 1#8]] := by decide +kernel
theorem test_lock_completes_the_move :
    let t := after (.telemetry hF [⟨0, 416, 10, true, true, false, 0⟩])
      (withEntry (entry .locking 416) (on (moving 400 416) base))
    (t.chan c0).assigned = some 416 ∧ (t.chan c0).prior = some 400 ∧ (t.chan c0).settle = some 10000
    ∧ t.table = [] := by decide +kernel
theorem test_third_reply_deadline_fails_the_move :
    let t := after (.replyDeadlineExpiry 0 0) (withEntry { entry .sent 416 with attempts := 3 } (on (moving 400 416) base))
    (t.chan c0).state = .active ∧ (t.chan c0).pending = none ∧ (t.counters[0]).failures = 1 ∧ t.now = 300 := by decide +kernel
theorem test_passing_tune_is_held :
    let t := after (.tune ⟨0, .trunk, ⟨0#8, 0#8⟩, ⟨6#8, 0#8⟩, 9#8⟩ ⟨0, 416, 0⟩) (on (active 400) base)
    t.heldFrames.map (·.target) = [416] ∧ (t.port (.stage 0)).tx = [] ∧ t.engine.service.isSome = true := by decide +kernel
theorem test_stage_loss_goes_dark :
    let t := after (.lineSignalLoss 0 (.stage 0)) (on (active 400) base)
    (t.chan c0).state = .dark ∧ (t.chan c0).darkFrom = some .active ∧ t.latches[11] = true
    ∧ (t.port (.stage 0)).up = false := by decide +kernel
theorem test_exclusion_flags_and_increments :
    let t := after (.addExclusion hT 401 402 1) (on (active 400) base)
    (t.chan c0).exclConflict = true ∧ t.gens[0] = 1 ∧ t.gens[1] = 0 ∧ t.latches[8] = true := by decide +kernel
theorem test_pool_check_makes_ready :
    (((after (.poolCheckCompletion 0) (after (.addPool hT 0 500) base)).pool 0).map (·.state)) = [.ready] := by decide +kernel
theorem test_drop_parks_at_commit :
    let t := after (.commitStage hT 0) ((on (active 400) base).setStaged c0 .drop)
    (t.chan c0).state = .parked ∧ t.commits[0] = .idle ∧ t.staged c0 = .keep ∧ t.latches[13] = true := by decide +kernel
theorem test_survey_and_its_deadline :
    let t := after (.survey hT 0 100 4 96 1 0) base
    (t.surveys[0].map (·.deadline)) = some 10000 ∧ (after (.surveyDeadlineExpiry 0) t).surveys[0] = none := by decide +kernel
theorem test_watch_fires_from_armed_with_one_report :
    watchStep 7 { Profile.zero with level1 := ⟨.foreign, 30, 1, 0⟩ } (reportEvidence 40 5 false) Watch.armed
      = (⟨.suspect, 1, 0, some 3007⟩, some ⟨true, true, 5⟩) := by decide +kernel

/-- A frame at the floor ends the wait of a return before the watch is evaluated (R68, R117, R140). -/
theorem test_dirty_frame_takes_the_return_item_away :
    let s := { on { active 416 with returnWatch := some ⟨400, 3, 3⟩ } base with backlog := [⟨c0, .ret, 5, false⟩] }
    (sweepReturn c0 [(400, 20)] s).backlog = [] ∧ ((sweepReturn c0 [(400, 20)] s).chan c0).returnWatch = some ⟨400, 0, 3⟩ := by
  decide +kernel
/-- A DARK channel adopts an excluded frequency and is parked by the waiting commit's DROP in the same change: the flag was
set and cleared, and its notice is sent (R17, R19, R164, R165). -/
theorem test_flag_set_before_a_drop_is_noticed :
    let s := { (on { active 400 with state := .dark, darkFrom := some .active } base).setStaged c0 .drop with
      excl := [⟨416, 416, 1⟩], commits := base.commits.set 0 (.waiting 2000) }
    let t := after (.telemetry hF [⟨0, 416, 10, true, true, false, 0⟩]) s
    (t.chan c0).state = .parked ∧ (t.chan c0).exclConflict = false ∧ t.latches[8] = true := by decide +kernel
/-- An ADD of an UNUSED channel leaves the last report at its power-on value, absent (R4, R167). -/
theorem test_add_defines_at_power_on_values :
    ((defineStaged c0 .high .lead none (on { ChanRec.reset with lastReport := some ⟨400, 1, true, true, false, 9⟩ } base)).chan c0)
      = { ChanRec.reset with state := .parked, cls := .high, priority := .lead } := by decide +kernel
/-- An entry whose clean run was 1 is BLOCKED with clean run 0 (R120, R132). -/
theorem test_blocked_entry_starts_again :
    (blockEntry 0 400 (base.setPool 0 [⟨400, .dirty, 1, some 9, false⟩])).pool 0 = [⟨400, .blocked, 0, some 9, false⟩] := by
  decide +kernel
/-- A REVERT that waits is answered BUSY when its channel has been removed, NOT_FOUND when only its prior is gone
(R155, R186). -/
theorem test_revert_of_a_removed_channel :
    let o : Oper := ⟨hT, 9, c0, true, false, .prior, ⟨[], 0, []⟩⟩
    ((endRevert o base).trunk.tx.map (·.payload)) = [[9#8, 2#8, 0#8]]
    ∧ ((endRevert o (on parked base)).trunk.tx.map (·.payload)) = [[9#8, 5#8, 0#8]] := by decide +kernel

/-! ## Witnesses: each meets the hypotheses of the statement it names -/

def fr : Frame := ⟨⟨6#8, 0#8⟩, ⟨0#8, 0#8⟩, 0x10#8, 1#8, List.replicate 120 0#8⟩
theorem witness_FramesRoundTrip : fr.payload.length = 120
    ∧ parseFrame { fr with payload := [7#8] }.wire = some { fr with payload := [7#8] } := by decide +kernel
theorem witness_RequestsRoundTrip : (Request.move 5 31 2 65535 255).wf = true
    ∧ (Request.stageChannel 5 31 3 (.add 65534 255 1 1 7)).wf = true ∧ (Request.malformed 0x7F).wf = true := by decide
theorem witness_ChainPayloadsRoundTrip : (chainOf (.tune hF ⟨7, 65535, 1⟩)).isSome = true
    ∧ (Instr.tune hF ⟨7, 65535, 1⟩).wf = true := by decide
theorem witness_FrameBytesDoWhatTheirCommandDoes : fr.payload.length ≤ 120 ∧ (Instr.identify hT).wf = true
    ∧ requestOf (.identify hT) = some (hT, .identify) ∧ (Instr.tune hF ⟨7, 65535, 1⟩).wf = true
    ∧ chainOf (.tune hF ⟨7, 65535, 1⟩) = some (hF, .tune ⟨7, 65535, 1⟩) := by decide
theorem witness_DiscardedFramesAreCountedAlone : parseFrame [0#8] = none
    ∧ chainOf (.tune { hF with src := ⟨1#8, 0#8⟩ } ⟨0, 1, 0⟩) = some ({ hF with src := ⟨1#8, 0#8⟩ }, .tune ⟨0, 1, 0⟩)
    ∧ (base.port hF.port).up = true ∧ sourceOk hF.port ⟨1#8, 0#8⟩ = false
    ∧ chainOf (.tune { hF with dst := ⟨7#8, 0#8⟩ } ⟨0, 1, 0⟩) = some ({ hF with dst := ⟨7#8, 0#8⟩ }, .tune ⟨0, 1, 0⟩)
    ∧ portOfZone 7#8 = none := by decide +kernel
theorem witness_RequestsAreTestedThenHandled : requestOf (.identify hS) = some (hS, .identify)
    ∧ sourceOk hS.port hS.src = true ∧ sourceOk hS.port ⟨1#8, 5#8⟩ = false ∧ (base.port hS.port).up = true := by decide +kernel
theorem witness_RequestsAreTestedThenHandled_operands : requestOf (.go hT 6 31) = some (hT, .go 6 31)
    ∧ Accepted hT (.go 6 31) base ∧ Accepted hT (.move 5 31 1 65280 1) base ∧ (signed16 65280).natAbs = 256
    ∧ Accepted hT (.defineChannel 5 31 0 0 254 0) base ∧ Accepted hT (.checkGroup 4 8191) base
    ∧ Accepted hT (.addExclusion 0 8191 16) base ∧ Accepted hT (.loadPool 3 17 (List.replicate 17 0)) base
    ∧ Accepted hT (.setGroups (List.replicate 6 3) (List.replicate 6 0)) base
    ∧ Accepted hT (.setNotices (List.replicate 15 2)) base ∧ Accepted hT (.setGate 5 3) base
    ∧ Accepted hT (.readProfile 8) base ∧ Accepted hT (.survey 6 0 1 1 1 0) base
    ∧ Accepted hT (.readEvents 2) base := by unfold Accepted; decide +kernel
theorem witness_RequestsAreTestedThenHandled_beyond : Accepted hT (.setSpan 5 8192 1 1) base
    ∧ Accepted hT (.survey 5 8192 1 1 1 0) base ∧ Accepted hT (.addExclusion 8191 8192 1) base
    ∧ Accepted hT (.removeExclusion 8192 8191) base ∧ Accepted hT (.addPool 3 8192) base ∧ Accepted hT (.removePool 3 8192) base
    ∧ Accepted hT (.loadPool 3 16 (List.replicate 16 8192)) base ∧ Accepted hT (.checkChannel 6 0 8192) base
    ∧ Accepted hT (.checkGroup 4 8192) base ∧ requestOf (.setSpan hT 5 8192 1 1) = some (hT, .setSpan 5 8192 1 1) := by
  unfold Accepted; decide +kernel
theorem witness_StagePortTestsInOrder : hS.port = .stage 0 ∧ isMalformed (.malformed 0) = true ∧ isMalformed .goAll = false
    ∧ trunkOnly .goAll = true ∧ trunkOnly (.release 0 0) = false ∧ isRead (.release 0 0) = false
    ∧ isRead (.readPool 0) = true ∧ ownStage (.release 1 0) = some 1 := by decide
theorem witness_LockedStagePortsChangeNothing : requestOf (.release hS 0 0) = some (hS, .release 0 0)
    ∧ hS.port = .stage 0 ∧ ({ base with lock := true }.port hS.port).up = true ∧ sourceOk hS.port hS.src = true
    ∧ { base with lock := true }.lock = true ∧ ∀ ops, Instr.release hS 0 0 ≠ .check hS ops :=
  ⟨rfl, rfl, by decide +kernel, by decide, rfl, fun _ => by simp⟩
theorem witness_RepliesWaitAtTheirPort : sourceOk hS.port hS.src = true ∧ (base.port hS.port).up = true := by decide +kernel
theorem witness_NoticesLatchThenSend : { base with enables := Vector.replicate 15 false }.enables[14] = false
    ∧ base.enables[0] = true ∧ base.trunk.up = true ∧ State.reset.enables[0] = true ∧ State.reset.trunk.up = false := by
  decide +kernel
theorem witness_TableReadsOnlyAnswer : Accepted hT (.readChannel 5 31) base ∧ chanOf 5 31 = some ⟨5, 31⟩
    ∧ Accepted hT (.readExclusions 0) base ∧ Accepted hT (.readPool 3) base ∧ groupOfNat 3 = some 3
    ∧ Accepted hT (.readProfile 7) base ∧ profileNumber 7 = some 7 ∧ Accepted hT .identify base := by
  unfold Accepted; decide +kernel
theorem witness_ClearingReadsClearOnlyFromTheTrunk : flagOf 0 = some false ∧ flagOf 1 = some true
    ∧ Accepted hT (.readEvents 1) base ∧ hT.port = .trunk ∧ Accepted hS (.readEvents 1) base ∧ hS.port ≠ .trunk
    ∧ Accepted hT (.readEvents 0) base ∧ Accepted hT (.readCounters 1 0) base ∧ Accepted hT (.readCounters 1 1) base := by
  unfold Accepted; decide +kernel
theorem witness_SiteSettingsAreStored : Accepted hT (.setGate 5 2) base ∧ stageOf 5 = some 5 ∧ gateModeOf 2 = some .block
    ∧ Accepted hT (.setLock 1) base ∧ flagOf 1 = some true ∧ Accepted hT (.setNotices (List.replicate 15 1)) base
    ∧ (enablesOf (List.replicate 15 1)).isSome = true ∧ Accepted hT (.setSpan 0 8191 0 255) base
    ∧ Accepted hT (.setConfirm 0) base := by unfold Accepted; decide +kernel
theorem witness_RulesAndProfilesAreStored : (∀ n : Fin 9, (setRule base.rules ⟨n.val, 0, 65535⟩).isSome = true)
    ∧ (∀ g : Fin 4, (setRule base.rules ⟨9, g.val, 1⟩).isSome = true ∧ (setRule base.rules ⟨11, g.val, 0⟩).isSome = true
      ∧ setRule base.rules ⟨13, g.val, 2⟩ = none ∧ (setRule base.rules ⟨15, g.val, 64⟩).isSome = true)
    ∧ setRule base.rules ⟨16, 0, 0⟩ = none ∧ setRule base.rules ⟨12, 4, 1⟩ = none := by decide +kernel
theorem witness_RulesAndProfilesAreStored_change : Accepted hT (.setRules [⟨2, 0, 5⟩, ⟨6, 0, 0⟩, ⟨9, 1, 1⟩]) base
    ∧ (setRulesOf base.rules [⟨2, 0, 5⟩, ⟨6, 0, 0⟩, ⟨9, 1, 1⟩]).map (ruleBumps base.rules) = some [0, 1, 2, 3, 1]
    ∧ base.held [0, 1, 2, 3, 1] = false
    ∧ Accepted hT (.setRules [⟨16, 0, 0⟩]) base ∧ setRulesOf base.rules [⟨16, 0, 0⟩] = none := by unfold Accepted; decide +kernel
def ops : ProfileOps := ⟨⟨0, 101, 0, 4⟩, ⟨1, 0, 9, 0⟩, 0, 99, 1, 1, 64⟩
theorem witness_RulesAndProfilesAreStored_profiles : [CondKind.foreign, .dropout, .sweepHit, .none][ops.level1.kind]? = some .foreign
    ∧ [CondKind.foreign, .dropout, .sweepHit, .none][ops.level2.kind]? = some .dropout
    ∧ [Combine.sequence, .either][ops.combine]? = some .sequence
    ∧ [Response.report, .move, .freeze][ops.response]? = some .move ∧ ops.returnOnClear ≤ 1
    ∧ [CondKind.foreign, .dropout, .sweepHit, .none][4]? = none ∧ [Response.report, .move, .freeze][3]? = none := by decide
theorem witness_ProfileWritesRestartTheirWatches : Accepted hT (.writeProfile 7 ops) (on { active 400 with profile := some 7 } base)
    ∧ profileNumber 7 = some 7 ∧ (profileFrom ops).isSome = true
    ∧ ((on { active 400 with profile := some 7 } base).chan c0).profile = some 7
    ∧ ((on { active 400 with profile := some 7 } base).chan ⟨5, 31⟩).profile ≠ some 7 := by unfold Accepted; decide +kernel

theorem witness_ChannelsAreDefinedAndRemoved : chanOf 0 0 = some c0 ∧ Accepted hT (.defineChannel 0 0 1 1 255 1) base
    ∧ attrsOf 1 1 255 1 = some ⟨.high, .lead, none, true⟩ ∧ (base.chan c0).state = .unused
    ∧ Accepted hT (.removeChannel 0 0) (on parked base) ∧ ((on parked base).chan c0).state = .parked
    ∧ ((on (active 400) base).chan c0).state = .active := by unfold Accepted; decide +kernel
theorem witness_WritesStoreTheirAttributes : chanOf 0 0 = some c0 ∧ attrsOf 1 0 7 0 = some ⟨.high, .normal, some 7, false⟩
    ∧ Accepted hT (.writeChannel 0 0 1 0 7 0 65535) (on (active 400) base)
    ∧ Accepted hT (.writeChannel 0 0 1 0 7 0 8191) (on (active 400) base)
    ∧ ((on (active 400) base).chan c0).state ≠ .unused
    ∧ (arrived hT.dt hT.port (on (active 400) base)).writeWaits c0 .high = false
    ∧ (arrived hT.dt hT.port (on (active 400) base)).operBusy c0 = false
    ∧ Accepted hT (.writeChannel 0 0 1 0 7 0 8192) base ∧ Accepted hT (.writeChannel 0 0 1 0 7 0 8191) base
    ∧ (base.chan c0).state = .unused ∧ Accepted hT (.writeChannel 0 0 1 0 7 0 8191) (on (moving 400 416) base)
    ∧ (arrived hT.dt hT.port (on (moving 400 416) base)).operBusy c0 = true := by unfold Accepted; decide +kernel
/-- A held pool check of group 0. -/
def held : State := { base with engine := { base.engine with
  poolQ := [0], service := some ⟨.pool, groupInputs base 0, some 400, [(0, 0)], 3, 1#4⟩ } }
theorem witness_HeldGroupsDeferTheirWrites_rules : Accepted hT (.setRules [⟨2, 0, 5⟩]) held
    ∧ (setRulesOf held.rules [⟨2, 0, 5⟩]).map (fun r => held.held (ruleBumps held.rules r)) = some true
    ∧ held.engine.deferred.length < 4 := by unfold Accepted; decide +kernel
theorem witness_HeldGroupsDeferTheirWrites_tables : Accepted hT (.addExclusion 8191 8191 1) held
    ∧ held.excl.length < 48 ∧ held.held (effectiveScope 8191 8191 (BitVec.ofNat 4 1) held.excl).groups = true
    ∧ Accepted hT (.setGroups [1, 0, 0, 0, 0, 0] (List.replicate 6 1)) held
    ∧ (groupsOf [1, 0, 0, 0, 0, 0] (List.replicate 6 1)).map (fun x => held.held (held.groupBumps x)) = some true
    ∧ (∀ (z : Fin 6) (n : Fin 32), (held.chan ⟨z, n⟩).state ≠ .moving)
    ∧ (on (active 400) held).writeWaits c0 .high = true ∧ (on (active 400) held).operBusy c0 = false
    ∧ Accepted hT (.writeChannel 0 0 1 0 0 0 8191) (on (active 400) held) ∧ attrsOf 1 0 0 0 = some ⟨.high, .normal, some 0, false⟩ := by
  unfold Accepted; decide +kernel
theorem witness_ReleaseAndAcknowledgeRearm : chanOf 0 0 = some c0 ∧ Accepted hT (.release 0 0) (on (active 400) base)
    ∧ Accepted hT (.ackWatch 0 0) (on (active 400) base)
    ∧ (((on { active 400 with state := .held, watch := ⟨.fired, 0, 0, none⟩ } base).chan c0).watch).st ≠ .off := by
  unfold Accepted; decide +kernel
theorem witness_OperatorMovesQueueTheirCheck : chanOf 0 0 = some c0 ∧ Accepted hT (.move 0 0 0 8191 1) (on (active 400) base)
    ∧ flagOf 1 = some true ∧ Accepted hT (.move 0 0 1 65281 0) (on (active 400) base) ∧ (signed16 65281).natAbs ≤ 255
    ∧ ((on (active 400) base).chan c0).assigned = some 400
    ∧ Accepted hT (.move 0 0 1 65281 0) (on parked base) ∧ ((on parked base).chan c0).state = .parked
    ∧ Accepted hT (.move 0 0 1 65281 0) base ∧ (base.chan c0).state = .unused ∧ Accepted hT (.move 0 0 2 0 0) (on (active 400) base)
    ∧ Accepted hT (.revert 0 0) (on { active 400 with prior := some 416 } base)
    ∧ (arrived hT.dt hT.port (on (active 400) base)).operBusy c0 = false := by unfold Accepted; decide +kernel
/-- A CHECK of group 0 at 400 in service. -/
def checking : State := { base with engine := { base.engine with
  admQ := [.whatIf hT (.group 0) 400], service := some ⟨.admission, groupInputs base 0, some 400, [(0, 0)], 0, 0#4⟩ } }
theorem witness_ChecksQueueAndOnlyAnswer : Accepted hT (CheckOps.request (.channel 0 0 8191)) base ∧ chanOf 0 0 = some c0
    ∧ Accepted hT (CheckOps.request (.group 3 0)) base ∧ groupOfNat 3 = some 3
    ∧ checking.engine.service.map (·.cls) = some .admission ∧ checking.engine.service.map (·.cand) = some (some 400)
    ∧ checking.engine.admQ = [.whatIf hT (.group 0) 400] := by unfold Accepted; decide +kernel

theorem witness_StagingAndArmingAreStored : Accepted hT (.stageChannel 0 0 3 (.add 65534 255 1 1 7)) base
    ∧ chanOf 0 0 = some c0 ∧ (stagedOf 3 (.add 65534 255 1 1 7)).isSome = true
    ∧ Accepted hT (.stageChannel 6 0 0 .none) base ∧ chanOf 6 0 = none ∧ stagedOf 4 .none = none
    ∧ Accepted hT (.armStage 5 0) base ∧ stageOf 5 = some 5 ∧ flagOf 0 = some false := by unfold Accepted; decide +kernel
def dropping : State := (withCommit (on (active 400) base)).setStaged c0 .drop
theorem witness_CommitsStartWithTheirDrops : Accepted hT (.commitStage 0) base ∧ stageOf 0 = some 0
    ∧ dropping.commits[0] = .committing ⟨.request, .draining, [], [], 0, 0, 0, 0, []⟩ ∧ dropping.staged c0 = .drop
    ∧ (dropping.chan c0).state = .active ∧ dropping.entryOf c0 = none
    ∧ (dropping.chan ⟨0, 1⟩).state = .unused := by unfold Accepted; decide +kernel
def stepping (r : ChanRec) (x : Staged) : State := (withCommit (on r base)).setStaged c0 x
theorem witness_CommitStepsMeetTheirChannel :
    ((stepping (moving 400 416) .keep).chan c0).state = .moving
    ∧ (stepping (active 400) (.add .any .low .normal none)).staged c0 = .add .any .low .normal none
    ∧ ((stepping ChanRec.reset (.change .any)).chan c0).state = .unused
    ∧ ((stepping (active 400) (.change (.given 400 true))).chan c0).assigned = some 400
    ∧ ((stepping parked (.change (.given 416 false))).chan c0).state = .parked
    ∧ ((stepping parked (.add (.given 416 false) .high .lead none)).chan c0).state = .parked
    ∧ (stepping parked (.change .any)).staged c0 = .change .any
    ∧ (stepping parked (.add .any .high .lead none)).staged c0 = .add .any .high .lead none
    ∧ (stepping parked .keep).entryOf c0 = none ∧ ((stepping parked .keep).port (.stage 0)).up = true
    ∧ (stepping parked .keep).commits[0] = .committing ⟨.request, .draining, [], [], 0, 0, 0, 0, []⟩ := by decide +kernel
theorem witness_CommitStepsMeetTheirChannel_end : (withCommit base).commitRec 0 = some ⟨.request, .draining, [], [], 0, 0, 0, 0, []⟩
    ∧ ((withCommit base).setCommit 0 (.committing ⟨.request, .stepping 3, [31], [0], 0, 0, 0, 0, []⟩)).commits[0]
      = .committing ⟨.request, .stepping 3, [31], [0], 0, 0, 0, 0, []⟩ := by decide +kernel

def excluded : State := { on (active 400) base with excl := [⟨0, 0, 1⟩, ⟨8191, 8191, 2⟩] }
theorem witness_ExclusionsAreAddedAndRemoved : excluded.excl.Pairwise (fun x y => x.before y = true)
    ∧ Accepted hT (.addExclusion 8191 8191 15) excluded ∧ Accepted hT (.addExclusion 0 8191 1) excluded
    ∧ (excluded.excl.find? (Excl.sameRange 8191 8191)).isSome = true ∧ excluded.excl.find? (Excl.sameRange 0 8191) = none
    ∧ excluded.held [0, 2, 3] = false ∧ Accepted hT (.removeExclusion 8191 8191) excluded
    ∧ Accepted hT (.removeExclusion 0 8191) excluded := by unfold Accepted; decide +kernel
def fullTable : State := { base with excl := (List.range 48).map fun n => ⟨n, n, 1⟩ }
theorem witness_ExclusionsAreAddedAndRemoved_full : fullTable.excl.Pairwise (fun x y => x.before y = true)
    ∧ Accepted hT (.addExclusion 8191 8191 15) fullTable ∧ fullTable.excl.length = 48
    ∧ fullTable.excl.find? (Excl.sameRange 8191 8191) = none := by unfold Accepted; decide +kernel
theorem witness_PoolsAreEdited : groupOfNat 3 = some 3 ∧ Accepted hT (.addPool 3 8191) base ∧ Accepted hT (.addPool 3 8192) base
    ∧ Accepted hT (.removePool 3 0) base ∧ Accepted hT (.loadPool 3 16 (List.replicate 16 8191)) base
    ∧ (List.replicate 16 8191).length ≤ 16 ∧ ∀ f ∈ List.replicate 16 8191, f ≤ 8191 := by unfold Accepted; decide +kernel
theorem witness_StagesAreRegrouped : Accepted hT (.setGroups [3, 0, 0, 0, 0, 0] (List.replicate 6 2)) (on (active 400) base)
    ∧ (groupsOf [3, 0, 0, 0, 0, 0] (List.replicate 6 2)).isSome = true ∧ ((on (active 400) base).chan c0).state ≠ .moving
    ∧ ((on (moving 400 416) base).chan c0).state = .moving ∧ base.engine.service = none
    ∧ (∀ g : Fin 4, base.gens[g] < 65536) := by unfold Accepted; decide +kernel
def proposed : State := withEntry (entry .proposed 416) (on (moving 400 416) base)
theorem witness_ProposalsAreAnswered : chanOf 0 0 = some c0 ∧ Accepted hT (.go 0 0) proposed ∧ Accepted hT (.drop 0 0) proposed
    ∧ Accepted hT .goAll proposed ∧ proposed.entryOf c0 = some (entry .proposed 416) ∧ base.entryOf c0 = none
    ∧ (entry .sent 416).state ≠ .proposed ∧ (entry .proposed 416).target = some 416
    ∧ (entry .proposed 416).origin ≠ .passed ∧ Accepted hT (.go 6 0) base ∧ Accepted hT (.drop 0 32) base
    ∧ chanOf 6 0 = none ∧ chanOf 0 32 = none := by unfold Accepted; decide +kernel
theorem witness_SurveysBeginAtOnce : Accepted hT (.survey 0 8191 0 97 17 0) base ∧ stageOf 0 = some 0
    ∧ base.surveys[0] = none ∧ ((arrived 0 .trunk base).port (.stage 0)).up = true
    ∧ Accepted hT (.survey 0 8191 0 97 17 0) { base with surveys := base.surveys.set 0 (some ⟨0, 1, 1, 1, 9, 0⟩) }
    ∧ ((on { active 400 with profile := some 0 } base).chan c0).profile = some 0 := by unfold Accepted; decide +kernel
/-- A RETURN item whose receiver is fitted. -/
def waiting : State := { (on { active 416 with returnWatch := some ⟨400, 10, 10⟩ } base).setCap c0 (some fits) with
  backlog := [⟨c0, .ret, 0, false⟩] }
/-- R140: an entry that is not fitted ends the item, though the next entry of the same frame fits the receiver again. -/
theorem test_unfitted_ends_the_item : (readCapability 0 0 [⟨0, 0, 0, 0, 1⟩, ⟨0, 1, 0, 8191, 1⟩] waiting).backlog = []
    ∧ (readCapability 0 0 [⟨0, 1, 0, 8190, 1⟩] waiting).backlog = waiting.backlog := by decide +kernel
/-- A DARK channel with a pending target. -/
def darkMove : ChanRec := { active 400 with state := .dark, darkFrom := some .moving, pending := some 416 }
/-- A pushed move that waits in the backlog. -/
def pushing : State := { on (moving 400 416) base with backlog := [⟨c0, .push, 0, false⟩] }
theorem witness_RestartEndsAllWork : Accepted hT .restart proposed ∧ (proposed.chan c0).state = .moving
    ∧ (proposed.chan c0).ret = some .active ∧ (∃ e ∈ proposed.table, e.chan = c0 ∧ e.state = .proposed)
    ∧ proposed.backlog = [] ∧ Accepted hT .restart pushing ∧ (pushing.chan c0).state = .moving ∧ pushing.table = []
    ∧ (∃ i ∈ pushing.backlog, i.chan = c0 ∧ i.want = .push)
    ∧ (∃ e ∈ (withEntry (entry .sent 416) pushing).table, e.chan = c0 ∧ e.state = .sent) := by
  unfold Accepted; decide +kernel
theorem witness_PortsGoUpAndDown : (State.reset.port .trunk).up = false ∧ (State.reset.port (.stage 5)).up = false
    ∧ (setSigdet .trunk false base |>.port .trunk).sigdet = false ∧ base.trunk.up = true ∧ base.trunkDiscards ≤ 255
    ∧ base.trunk.sigdet = true ∧ base.trunk.silence = some 3000 := by decide +kernel
theorem witness_LostStagesGoDark : (proposed.port (.stage 0)).up = true ∧ (proposed.port (.stage 0)).sigdet = true
    ∧ (proposed.port (.stage 0)).silence.isSome = true ∧ (on (active 400) base).entryOf c0 = none
    ∧ ((on (active 400) base).chan c0).state = .active ∧ (proposed.chan c0).state = .moving
    ∧ (proposed.chan c0).ret = some .active ∧ (∃ e ∈ proposed.table, e.chan = c0 ∧ e.state = .proposed)
    ∧ (pushing.port (.stage 0)).up = true ∧ (pushing.chan c0).state = .moving ∧ pushing.table = []
    ∧ ((on darkMove base).chan c0).state = .dark ∧ (on darkMove base).table = [] := by decide +kernel

/-- A lost stage with a PROPOSED entry before a SENT one, a held frame and its check, and a survey. -/
def losing : State :=
  let s := on (moving 400 416) base
  { s with
    table := [{ entry .proposed 420 with chan := ⟨0, 1⟩ }, entry .sent 416]
    heldFrames := [⟨⟨⟨0#8, 0#8⟩, ⟨6#8, 0#8⟩, 0x20#8, 1#8, [2#8, 1#8, 0#8, 0#8]⟩, ⟨0, 2⟩, 256⟩]
    engine := { s.engine with admQ := [.guard ⟨0, 2⟩ 256] }
    surveys := s.surveys.set 0 (some ⟨0, 1, 1, 1, 9, 3⟩) }
/-- R158, R174, R95, R181, R73: the kinds of the frames that leave the trunk at the loss of a stage, in their order. -/
theorem test_lost_stage_says_so : (stageDown 0 .silence losing).trunk.tx.map (fun f => (f.kind, f.payload.head?)) =
    [(kNotice, some 3#8), (kNotice, some 6#8), (kTuneReport, some 2#8), (kNotice, some 10#8), (kNotice, some 15#8),
      (kNotice, some 12#8)]
    ∧ (stageDown 0 .silence losing).trunk.tx.getLast?.map (·.payload) = some [12#8, 0#8, 255#8, 1#8, 1#8] := by
  decide +kernel
theorem witness_LostStagesGoDark_notices : (losing.port (.stage 0)).up = true ∧ (losing.port (.stage 0)).sigdet = true
    ∧ (losing.port (.stage 0)).silence = some 3000 ∧ (∃ e ∈ losing.table, e.chan.stage = 0 ∧ e.state = .sent)
    ∧ (∃ e ∈ losing.table, e.chan.stage = 0 ∧ e.state = .proposed) ∧ (∃ k ∈ losing.heldFrames, k.chan.stage = 0)
    ∧ losing.surveys[0] ≠ none
    ∧ passTime (3000 - losing.now) losing ≠ losing := by decide +kernel

theorem witness_PassingFramesAreHandedOnThenRead : chainOf (.sweep hF ⟨0, 1, false, false, [0]⟩) =
      some (hF, .sweep ⟨0, 1, false, false, [0]⟩) ∧ Passing hF 0 .trunk base
    ∧ sourceOk .trunk ⟨6#8, 0#8⟩ = true ∧ base.trunk.up = true ∧ (⟨0#8, 4#8⟩ : Addr) ≠ deviceAddr
    ∧ portOfZone 0#8 = some (.stage 0) := by unfold Passing; decide +kernel
theorem witness_FramesAreReadForTheirReceiver : rackChan 0 0 0 (by decide) = c0
    ∧ (withEntry (entry .locking 416) (on (moving 400 416) base)).entryOf c0 = some (entry .locking 416)
    ∧ ((on { active 400 with state := .dark, darkFrom := some .held } base).chan c0).state = .dark
    ∧ ((on (active 400) base).chan c0).assigned ≠ some 8191 ∧ base.entryOf c0 = none ∧ base.noteOf c0 = none
    ∧ (withEntry (entry .sent 416) (on (moving 400 416) base)).entryOf c0 = some (entry .sent 416)
    ∧ (entry .sent 416).target = some 416 ∧ (withEntry (entry .sent 416) base).noteOf c0 = none := by decide +kernel
/-- R70: of two recorded entries for one receiver the last stands, an entry with step 3 is skipped, and the assigned
frequency 400 outside the new range is noticed once, with the range 401 to 8191. -/
theorem test_capability_entries_in_turn :
    let t := readCapability 0 0 [⟨0, 1, 401, 8191, 1⟩, ⟨0, 1, 402, 8191, 2⟩, ⟨0, 1, 0, 0, 3⟩, ⟨8, 1, 0, 8191, 1⟩]
      (on (active 400) base)
    t.cap c0 = some ⟨true, 402, 8191, 2⟩
    ∧ t.trunk.tx.map (·.payload) = [[7#8, 0#8, 0#8, 2#8, 0x01#8, 0x90#8, 0x01#8, 0x91#8, 0x1F#8, 0xFF#8]] := by
  decide +kernel
theorem witness_FramesAreReadForTheirReceiver_skipped : (7 < (⟨8, 0, 0, false, false, false, 0⟩ : Report).receiver)
    ∧ 8191 < (⟨0, 8192, 0, false, false, false, 0⟩ : Report).tuned
    ∧ ∀ e ∈ ([⟨0, 1, 0, 8192, 1⟩, ⟨7, 0, 9000, 9000, 5⟩, ⟨8, 1, 0, 0, 1⟩] : List CapReport), e.fitted ≤ 1 := by decide
def noted : State := { on (active 400) base with notes := [⟨c0, 416, ⟨6#8, 0#8⟩, 1#8⟩] }
theorem witness_FramesAreReadForTheirReceiver_notes : ((on darkMove base).chan c0).state = .dark
    ∧ ((on darkMove base).chan c0).assigned ≠ some 416 ∧ ((on darkMove base).chan c0).pending = some 416
    ∧ ((on darkMove base).chan c0).assigned ≠ some 8191 ∧ ((on darkMove base).chan c0).pending ≠ some 8191
    ∧ noted.noteOf c0 = some ⟨c0, 416, ⟨6#8, 0#8⟩, 1#8⟩ ∧ noted.entryOf c0 = none ∧ (noted.chan c0).state ≠ .dark
    ∧ (416 : Nat) ≠ 8191 ∧ (noted.chan c0).assigned ≠ some 8191 ∧ (noted.chan c0).assigned = some 400 := by decide +kernel
theorem witness_FramesAreReadForTheirReceiver_device :
    chainOf (.tuneReport { hF with dst := ⟨6#8, 1#8⟩ } ⟨0, 416, 0, 0, 0⟩) =
      some ({ hF with dst := ⟨6#8, 1#8⟩ }, .tuneReport ⟨0, 416, 0, 0, 0⟩)
    ∧ (base.port hF.port).up = true ∧ sourceOk hF.port hF.src = true ∧ (⟨6#8, 1#8⟩ : Addr) = deviceAddr
    ∧ hF.port = .stage 0 ∧ hF.src.unit.toNat < 4
    ∧ chainOf (.tune { hF with dst := ⟨6#8, 1#8⟩ } ⟨0, 416, 0⟩) = some ({ hF with dst := ⟨6#8, 1#8⟩ }, .tune ⟨0, 416, 0⟩) := by
  decide +kernel
theorem witness_SweepsJudgePoolsAndReturns : base.surveys[0] = none
    ∧ { base with surveys := base.surveys.set 0 (some ⟨0, 1, 1, 1, 9, 0⟩) }.surveys[0] = some ⟨0, 1, 1, 1, 9, 0⟩
    ∧ covered [(399, 20)] 400 1 = [20] ∧ covered [(401, 19)] 400 1 = [19] ∧ covered [(402, 30)] 400 1 = []
    ∧ ((on { active 416 with returnWatch := some ⟨400, 9, 10⟩ } base).chan c0).returnWatch = some ⟨400, 9, 10⟩ := by
  decide +kernel
/-- R68: a level is taken as at most 100, and samples beyond 8191 are dropped. -/
theorem test_samples_of_a_frame : samplesOf ⟨8188, 3, false, false, [101, 100, 7]⟩ = [(8188, 100), (8191, 100)] := by
  decide +kernel
theorem witness_SweepsJudgePoolsAndReturns_spoil : ((on (moving 400 416) base).chan c0).pending = some 416
    ∧ ((on (moving 400 416) base).chan c0).state = .moving ∧ (on (moving 400 416) base).entryOf c0 = none
    ∧ ((on (moving 400 416) base).chan c0).returnWatch = none
    ∧ (withEntry (entry .proposed 416) base).entryOf c0 = some (entry .proposed 416) ∧ (entry .proposed 416).origin = .auto
    ∧ (entry .proposed 416).search.spoiled.length < 16 ∧ { entry .proposed 416 with origin := .ret }.origin ≠ .auto
    ∧ ({ entry .proposed 416 with search := ⟨[], 0, List.replicate 16 0⟩ }.search.spoiled).length = 16
    ∧ base.surveys[0] = none ∧ 20 ≤ 20 ∧ ∃ k, (k, 20) ∈ [(417, 20)] ∧ k ≤ 416 + 1 ∧ 416 ≤ k + 1 := by
  refine ⟨by decide +kernel, by decide +kernel, by decide +kernel, by decide +kernel, by decide +kernel, rfl, by decide,
    by decide, by decide +kernel, by decide +kernel, by decide, 417, by decide⟩
theorem witness_GateRowsInOrder : (⟨0#8, 3#8⟩ : Addr) = ⟨byteOf (0 : Fin 6).val, byteOf (3 : Fin 4).val⟩
    ∧ (base.port .trunk).up = true ∧ sourceOk .trunk ⟨6#8, 0#8⟩ = true ∧ (7 : Nat) < 8 := by decide +kernel
def badTune : Frame := ⟨⟨0#8, 3#8⟩, ⟨6#8, 0#8⟩, 0x20#8, 1#8, [8#8, 0#8, 0#8, 0#8]⟩
theorem witness_GateRowsInOrder_malformed : badTune.kind = 0x20#8 ∧ badTune.dst = ⟨byteOf (0 : Fin 6).val, byteOf (3 : Fin 4).val⟩
    ∧ badTune.payload.length ≤ 120 ∧ sourceOk .trunk badTune.src = true ∧ (base.port .trunk).up = true
    ∧ badTune.payload = 8#8 :: [0#8, 0#8, 0#8] ∧ 8 ≤ (8#8 : Byte).toNat
    ∧ { badTune with payload := [0#8] }.payload.length ≠ 4 := by decide +kernel
theorem witness_DeadlinesExpireOnTime :
    ((on { active 400 with watch := ⟨.suspect, 1, 0, some 9⟩, settle := some 8 } base).chan c0).watch = ⟨.suspect, 1, 0, some 9⟩
    ∧ ((on { active 400 with settle := some 8 } base).chan c0).settle = some 8
    ∧ proposed.entryOf c0 = some (entry .proposed 416) ∧ (entry .proposed 416).propDl = some 20000
    ∧ (entry .sent 416).replyDl = some 300 ∧ (entry .locking 416).lockDl = some 2000
    ∧ (base.setCommit 0 (.waiting 2000)).commits[0] = .waiting 2000
    ∧ { base with surveys := base.surveys.set 0 (some ⟨0, 1, 1, 1, 9, 0⟩) }.surveys[0] = some ⟨0, 1, 1, 1, 9, 0⟩ := by
  decide +kernel
theorem witness_EventsThatMeetNothingDoNothing : State.reset.pending = [] ∧ (State.reset.port .trunk).up = false
    ∧ (base.chan c0).watch.st ≠ .suspect ∧ (base.chan c0).settle = none ∧ base.entryOf c0 = none
    ∧ base.commits[0] = .idle ∧ base.surveys[0] = none ∧ base.engine.service = none
    ∧ checking.engine.service.map (·.cls) ≠ some .move := by decide +kernel
def serving (a : AdmReq) : State := { base with
  heldFrames := [⟨fr, c0, 400⟩]
  engine := { base.engine with admQ := [a], service := some ⟨.admission, groupInputs base 0, some 400, [(0, 0)], 0, 0#4⟩ } }
def searching (w : Work) (f : Option Nat) : State := { withEntry (entry .searching 416) base with
  engine := { base.engine with moveQ := [⟨c0, w⟩], service := some ⟨.move, groupInputs base 0, f, [(0, 0)], 0, 0#4⟩ } }
def oper (w : Work) : Oper := ⟨hT, 8, c0, false, false, w, ⟨[], 0, []⟩⟩
theorem witness_ServicesEndByTheirOwnCommand_admission :
    (serving (.guard c0 400)).serving.map (·.1) = some (.adm (.guard c0 400)) ∧ ((serving (.guard c0 400)).heldOf c0).isSome = true
    ∧ (serving (.post c0 400 .track)).serving.map (·.1) = some (.adm (.post c0 400 .track))
    ∧ (serving (.oper (oper .prior))).serving.map (·.1) = some (.adm (.oper (oper .prior)))
    ∧ (serving (.oper (oper (.pool 0 400)))).serving.map (·.2.cand) = some (some 400) := by decide +kernel
theorem witness_ServicesEndByTheirOwnCommand_moves :
    (searching (.pool 0 400) (some 400)).serving.map (·.1) = some (.move ⟨c0, .pool 0 400⟩)
    ∧ (searching .openSearch none).serving.map (·.2.cand) = some none
    ∧ (searching .prior (some 400)).serving.map (·.1) = some (.move ⟨c0, .prior⟩)
    ∧ ((searching .prior (some 400)).entryOf c0).isSome = true
    ∧ held.serving.map (·.1) = some (.pool 0) ∧ held.serving.map (·.2.cand) = some (some 400) := by decide +kernel
def stepped (w : Work) (f : Option Nat) (fb : Bool) : State := { withCommit base with
  engine := { base.engine with
    comQ := [⟨0, 0, fb, w, ⟨[], 0, []⟩⟩]
    service := some ⟨.commit, groupInputs base 0, f, [(0, 0)], 0, 0#4⟩ } }
theorem witness_ServicesEndByTheirOwnCommand_commit :
    (stepped (.given 400) (some 400) true).serving.map (·.1) = some (.com ⟨0, 0, true, .given 400, ⟨[], 0, []⟩⟩)
    ∧ (stepped (.pool 0 400) (some 400) false).serving.map (·.1) = some (.com ⟨0, 0, false, .pool 0 400, ⟨[], 0, []⟩⟩)
    ∧ (stepped .openSearch none false).serving.map (·.1) = some (.com ⟨0, 0, false, .openSearch, ⟨[], 0, []⟩⟩)
    ∧ (stepped .openSearch none false).serving.map (·.2.cand) = some none := by decide +kernel

theorem witness_MovesChangeWhatTheirRuleSays :
    (withEntry (entry .searching 416) base).entryOf c0 = some (entry .searching 416) ∧ (entry .searching 416).target = some 416
    ∧ ((on (active 400) base).setCap c0 (some fits)).fitted c0 = true ∧ ((on (active 400) base).chan c0).state = .active
    ∧ ((on (active 400) base).chan c0).pinned = false ∧ ((on (active 400) base).port (.stage 0)).up = true
    ∧ (base.chan c0).state ≠ .active ∧ base.confirm = false
    ∧ { withEntry (entry .searching 416) base with confirm := true }.confirm = true ∧ base.trunk.up = true
    ∧ { base with table := List.replicate 8 (entry .proposed 416) }.proposedCount = 8 := by
  decide +kernel
def rechecking : State := { base.setPool 0 [⟨400, .unchecked, 0, none, false⟩] with engine := { base.engine with poolQ := [0] } }
def returning : State := { base with engine := { base.engine with moveQ := [⟨c0, .prior⟩] } }
theorem witness_WorkIsServedInItsOrder : rechecking.engine = ⟨[], [], [], [0], none, []⟩
    ∧ rechecking.candOf (.pool 0) = some (some 400) ∧ returning.engine = ⟨[⟨c0, .prior⟩], [], [], [], none, []⟩
    ∧ returning.candOf (.move ⟨c0, .prior⟩) = none
    ∧ base.engine.moveQ = [] ∧ base.engine.admQ = [] ∧ base.engine.comQ = [] ∧ (searching .prior none).engine.service.isSome = true
    ∧ { base with backlog := [⟨c0, .push, 0, false⟩] }.foremost ≠ [] ∧ base.table.length < 12 ∧ base.foremost = []
    ∧ base.entryOf c0 = none ∧ refusalOf hT (.setRules []) base.lock = none
    ∧ refusalOf hS (.writeChannel 0 0 0 0 0 0 0) true = some .locked := by decide +kernel

theorem witness_PlanOperationsChangeTheirRecord : ((on (moving 400 416) base).chan c0).state = .moving
    ∧ ((on (moving 400 416) base).chan c0).ret = some .active ∧ ((on (active 400) base).chan c0).state ≠ .moving := by
  decide +kernel
theorem witness_IncrementsDemoteAndRestart : held.serving.map (·.1) = some (.pool 0) ∧ (Served.pool 0).readsPrior = false
    ∧ held.serving.map (·.2.watched) = some [(0, 0)] ∧ held.gens[(0 : Fin 4)] = 0
    ∧ { held with gens := held.gens.set 0 1 }.gens[(0 : Fin 4)] ≠ 0
    ∧ (Served.adm (.oper (oper .prior))).readsPrior = true ∧ (Served.adm (.oper (oper .prior))).subject = .chan c0
    ∧ (serving (.oper (oper .prior))).serving.map (·.1) = some (.adm (.oper (oper .prior)))
    ∧ (searching .prior (some 400)).serving.map (·.1) = some (.move ⟨c0, .prior⟩)
    ∧ (Served.move ⟨c0, .prior⟩).readsPrior = true ∧ (base.chan c0).prior = none
    ∧ ((on { active 400 with prior := some 416 } base).chan c0).prior = some 416 := by decide +kernel
theorem witness_ChecksEndAtTheFirstConflict : case1.range = some (0, 8191, 1) ∧ case8.range = some (460, 480, 4)
    ∧ 462 % 4 ≠ 0 ∧ (∀ st ∈ termStages case1 500, ∀ t ∈ st.2, t.need ≤ t.dist)
    ∧ (∃ x ∈ [(⟨500, 500, 1⟩ : Excl)], x.scope.has case1.group = true ∧ x.first ≤ 500 + 1 ∧ 500 ≤ x.last + 1) := by
  decide +kernel
theorem witness_ChecksEndAtTheFirstConflict_conflict : ∃ xs t ys, termStages case1 409 = [] ++ (.carrier, xs ++ t :: ys)
      :: [(.imd3, pairTerms case1 4 2 409)] ∧ xs = [] ∧ t.dist < t.need :=
  ⟨[], _, _, rfl, rfl, by decide +kernel⟩
theorem witness_StagesFormTheirTerms : (case1.members.map (·.chan)).Nodup := by decide +kernel
theorem witness_FewerMembersKeepClear : [a2, b1].Sublist case1.members ∧ (check case1 500).margin = some 8
    ∧ Spacing.raised case1.spacing case1.spacing = false := by decide +kernel
theorem witness_OpenSearchReturnsTheBest : case8.range = some (460, 480, 4) ∧ (openSearch case8).isSome = true
    ∧ openSearch { case8 with range := some (480, 480, 1) } = none := by decide +kernel
def pooled (es : List PoolEntry) : State := (base.setPool 0 es).setCap c0 (some fits)
theorem witness_SearchesTakePoolThenOpen : (base.opts[(0 : Fin 4)]).downshift ≤ 3 ∧ (List.replicate 16 0).length = 16
    ∧ (pooled [⟨400, .dirty, 0, none, false⟩]).pool 0 = [⟨400, .dirty, 0, none, false⟩]
    ∧ (pooled [⟨400, .dirty, 0, none, false⟩, ⟨416, .ready, 0, none, false⟩]).pool 0
      = [⟨400, .dirty, 0, none, false⟩] ++ ⟨416, .ready, 0, none, false⟩ :: []
    ∧ capRange ((pooled []).cap c0) = some (0, 8191, 1) := by decide +kernel
theorem witness_WatchesCountFireAndRespond : Profile.zero.level2.kind ≠ .none ∧ Profile.zero.combine = .sequence
    ∧ Watch.armed.st = .armed ∧ Watch.off.st = .off ∧ (⟨.suspect, 2, 0, some 9⟩ : Watch).st = .suspect
    ∧ Profile.zero.response = .move
    ∧ { Profile.zero with combine := .either }.combine = .either ∧ { Profile.zero with response := .report }.response = .report
    ∧ { Profile.zero with response := .freeze }.response = .freeze := by decide
theorem witness_WatchesCountFireAndRespond_evaluate : ((on { active 400 with profile := some 0 } base).chan c0).profile = some 0
    ∧ (base.profiles[(0 : Fin 8)]).level1.kind ≠ .none ∧ ((on (active 400) base).chan c0).state = .active
    ∧ (base.profiles[(1 : Fin 8)]).level1.kind = .none ∧ ((on parked base).chan c0).state ≠ .active
    ∧ (⟨.sweepHit, 20, 1, 3⟩ : Cond).kind = .sweepHit ∧ Profile.zero.level1.kind ≠ .sweepHit
    ∧ ∃ f, (f, 20) ∈ [(403, 20)] ∧ f ≤ 400 + 3 ∧ 400 ≤ f + 3 :=
  ⟨by decide +kernel, by decide, by decide +kernel, by decide, by decide +kernel, rfl, by decide, 403, by decide⟩

/-- A state with an ACTIVE channel, a move under way, a READY pool entry and a request waiting. -/
def busy : State := { (proposed.setChan ⟨5, 31⟩ (active 500)).setPool 0 [⟨600, .ready, 0, none, false⟩] with
  pending := [.identify hT] }
theorem busy_placed : Placed busy := by
  refine ⟨by unfold Sys2Proof.Machine.Unique; decide +kernel, ?_, by decide +kernel, by decide +kernel, ?_, by decide +kernel, by decide +kernel⟩
    <;> rintro ⟨z, n⟩ <;> revert z n <;> decide +kernel
theorem busy_watched : Watched busy := by
  refine ⟨by decide +kernel, ?_⟩
  rintro ⟨z, n⟩; revert z n; unfold Watch.below; decide +kernel
theorem witness_StepKeepsBounds_queues : Placed busy ∧ Fits busy ∧ Watched busy ∧ Linked busy
    ∧ Queued busy := ⟨busy_placed, by unfold Fits; decide +kernel, busy_watched, by unfold Linked; decide +kernel,
      by decide +kernel, by decide +kernel,
      fun _ h => (List.not_mem_nil h).elim⟩
def inStep : State := (stepped (.given 400) (some 400) true).setCommit 0
  (.committing ⟨.request, .stepping 0, [], [], 0, 0, 0, 0, []⟩)
theorem witness_StepKeepsBounds_step : Linked inStep ∧ inStep.commits[0] ≠ .idle ∧ Queued inStep
    ∧ inStep.engine.comQ.length = 1 :=
  ⟨by unfold Linked; decide +kernel, by decide +kernel, ⟨by decide +kernel, by decide +kernel, fun _ h => by rcases List.mem_singleton.mp h with rfl; exact ⟨_, rfl, rfl⟩⟩, rfl⟩
theorem witness_StepKeepsBounds : Bounded busy ∧ Fits busy ∧ ∃ t, step busy = .next t := by
  refine ⟨⟨by decide +kernel, by decide +kernel, by decide +kernel, by decide +kernel, by decide +kernel, ?_⟩,
    by unfold Fits; decide +kernel, ⟨_, rfl⟩⟩
  rintro ⟨z, n⟩; revert z n; decide +kernel
theorem witness_StepKeepsOneMovePerChannel : Unique busy ∧ ∃ t, step busy = .next t := ⟨busy_placed.1, _, rfl⟩
theorem witness_StepKeepsEveryMoveOwned : Placed busy ∧ ∃ t, step busy = .next t := ⟨busy_placed, _, rfl⟩
theorem witness_StepKeepsPoolsClean : Placed busy ∧ PoolsClean busy ∧ ∃ t, step busy = .next t :=
  ⟨busy_placed, by unfold PoolsClean; decide +kernel, _, rfl⟩
theorem witness_SettingsChangeOnlyByTheirRequests : (after (.setLock hT 1) base).lock ≠ base.lock
    ∧ (after (.setConfirm hT 1) base).confirm ≠ base.confirm ∧ (after (.setGate hT 0 2) base).gate ≠ base.gate
    ∧ (after (.setSpan hT 0 1 1 1) base).spans ≠ base.spans
    ∧ (after (.setNotices hT (List.replicate 15 0)) base).enables ≠ base.enables
    ∧ (after (.writeProfile hT 0 ops) base).profiles ≠ base.profiles := by decide +kernel
theorem witness_SettingsChangeOnlyByTheirRequests_bytes : let f := requestFrame hT (.setLock 1)
    (after (.receiveFrame 0 .trunk f.wire) base).lock ≠ base.lock ∧ parseFrame f.wire = some f ∧ f.kind = 0x30#8
    ∧ f.dst = ⟨6#8, 1#8⟩ ∧ parseRequest f.payload = .setLock 1 := by decide +kernel
/-- Before and after a change of a calm device that clears a flag and takes three READY entries to two. -/
def closing (flag : Bool) (es : List PoolEntry) : State := (on { active 400 with exclConflict := flag } base).setPool 0 es
def ready (f : Nat) : PoolEntry := ⟨f, .ready, 0, none, false⟩
theorem witness_ClosesDoTheirWorkAndNoMore : Calm (closing false [ready 500, ready 516])
    ∧ (∀ (z : Fin 6) (n : Fin 32), ((closing false [ready 500, ready 516]).chan ⟨z, n⟩).exclConflict = true →
      ((closing true [ready 500, ready 516, ready 532]).chan ⟨z, n⟩).exclConflict = true)
    ∧ (∀ g : Fin 4, 2 ≤ (closing true [ready 500, ready 516, ready 532]).readyCount g →
      2 ≤ (closing false [ready 500, ready 516]).readyCount g)
    ∧ 2 ≤ (closing true [ready 500, ready 516, ready 532]).readyCount 0
    ∧ ((closing true [ready 500, ready 516, ready 532]).chan c0).exclConflict = true := by unfold Calm; decide +kernel

end Sys2Proof.Tests
end

section
/-! The tests of a check in their order, and the scan of its terms up to the first conflict (R28 to R30, R36 to R38). -/

namespace Sys2Proof.Machine

/-! ## The tests before any term -/

@[simp] theorem offGrid_eq_decide (f : Nat) : offGrid f = decide (8191 < f) := rfl
@[simp] theorem inRange_some (lo hi k c : Nat) : inRange (some (lo, hi, k)) c = (decide (lo ≤ c) && decide (c ≤ hi)) := rfl
@[simp] theorem aligned_some (lo hi k c : Nat) : aligned (some (lo, hi, k)) c = decide (c % k = 0) := rfl
/-- A candidate is outside the range of a receiver that has none. -/
theorem inRange_eq_false_iff (range : Option (Nat × Nat × Nat)) (c : Nat) :
    inRange range c = false ↔ ∀ lo hi k, range = some (lo, hi, k) → c < lo ∨ hi < c := by
  cases range with
  | none => simp [inRange]
  | some r =>
    obtain ⟨lo, hi, k⟩ := r
    simp only [inRange_some, Bool.and_eq_false_iff, decide_eq_false_iff_not, not_le, Option.some.injEq]
    exact ⟨by rintro h _ _ _ ⟨⟩; exact h, fun h => h lo hi k rfl⟩
theorem firstConflict_isSome_iff (excl : List Excl) (guard : Nat) (g : Group) (f : Nat) :
    (firstConflict excl guard g f).isSome = true ↔
      ∃ x ∈ excl, x.scope.has g = true ∧ x.first ≤ f + guard ∧ f ≤ x.last + guard := by
  simp [firstConflict, Excl.covers]

theorem check_of_offGrid {i : Inputs} {c : Nat} (h : 8191 < c) : check i c = .early .outOfGrid := by
  simp [check, h]
theorem check_of_outOfRange {i : Inputs} {c : Nat} (hgrid : c ≤ 8191) (h : inRange i.range c = false) :
    check i c = .early .outOfRange := by
  simp [check, hgrid, h]

section
variable {i : Inputs} {c lo hi k : Nat}
  (hgrid : c ≤ 8191) (hrange : i.range = some (lo, hi, k)) (hlo : lo ≤ c) (hhi : c ≤ hi)
include hgrid hrange hlo hhi

theorem check_of_misaligned (h : c % k ≠ 0) : check i c = .early .misaligned := by
  simp [check, hgrid, hrange, hlo, hhi, h]
theorem check_of_excluded (hk : c % k = 0) {x : Excl} (hx : x ∈ i.excl) (hg : x.scope.has i.group = true)
    (hfirst : x.first ≤ c + i.spacing.guard) (hlast : c ≤ x.last + i.spacing.guard) :
    check i c = .early .excluded := by
  have hconf : (firstConflict i.excl i.spacing.guard i.group c).isSome = true :=
    (firstConflict_isSome_iff ..).mpr ⟨x, hx, hg, hfirst, hlast⟩
  simp [check, hgrid, hrange, hlo, hhi, hk, hconf]
/-- A candidate that passes the four tests before any term is judged by its terms. -/
theorem check_of_passes (hk : c % k = 0) (hexcl : ∀ x ∈ i.excl, x.scope.has i.group = true →
    ¬ (x.first ≤ c + i.spacing.guard ∧ c ≤ x.last + i.spacing.guard)) :
    check i c = scanStages (termStages i c) ⟨0, 15⟩ := by
  have hconf : ¬ (firstConflict i.excl i.spacing.guard i.group c).isSome = true := fun h => by
    obtain ⟨x, hx, hg, hcovers⟩ := (firstConflict_isSome_iff ..).mp h
    exact hexcl x hx hg hcovers
  simp [check, hgrid, hrange, hlo, hhi, hk, hconf]
end

/-! ## Terms that do not conflict -/

/-- What a term that does not conflict adds to the progress of a scan: one more term, and its slack. -/
def Progress.pass (p : Progress) (t : Term) : Progress := ⟨p.terms + 1, min p.least (t.dist - t.need)⟩

theorem scanTerms_cons_of_conflict (v : Verdict) (t : Term) (ts : List Term) (p : Progress) (h : t.dist < t.need) :
    scanTerms v (t :: ts) p = .error ⟨v, none, some t.inv1, t.inv2, p.terms + 1⟩ := by
  simp [scanTerms, h]
theorem scanTerms_cons_of_clear (v : Verdict) (t : Term) (ts : List Term) (p : Progress) (h : t.need ≤ t.dist) :
    scanTerms v (t :: ts) p = scanTerms v ts (p.pass t) := by
  simp [scanTerms, Progress.pass, h]
theorem scanTerms_append_of_clear (v : Verdict) (xs ys : List Term) (p : Progress) (h : ∀ t ∈ xs, t.need ≤ t.dist) :
    scanTerms v (xs ++ ys) p = scanTerms v ys (xs.foldl Progress.pass p) := by
  induction xs generalizing p with
  | nil => rfl
  | cons t xs ih =>
    obtain ⟨ht, hxs⟩ := List.forall_mem_cons.mp h
    rw [List.cons_append, scanTerms_cons_of_clear v t _ p ht, ih _ hxs, List.foldl_cons]
theorem scanTerms_of_clear (v : Verdict) (ts : List Term) (p : Progress) (h : ∀ t ∈ ts, t.need ≤ t.dist) :
    scanTerms v ts p = .ok (ts.foldl Progress.pass p) := by
  simpa [scanTerms] using scanTerms_append_of_clear v ts [] p h

/-- The progress after stages without a conflict is that of their terms in one row. -/
theorem scanStages_append_of_clear (before rest : List (Verdict × List Term)) (p : Progress)
    (h : ∀ st ∈ before, ∀ t ∈ st.2, t.need ≤ t.dist) :
    scanStages (before ++ rest) p = scanStages rest ((before.flatMap (·.2)).foldl Progress.pass p) := by
  induction before generalizing p with
  | nil => rfl
  | cons st before ih =>
    obtain ⟨hst, hbefore⟩ := List.forall_mem_cons.mp h
    rw [List.cons_append, scanStages, scanTerms_of_clear _ _ p hst, List.flatMap_cons, List.foldl_append]
    exact ih _ hbefore
theorem scanStages_of_clear (stages : List (Verdict × List Term)) (p : Progress)
    (h : ∀ st ∈ stages, ∀ t ∈ st.2, t.need ≤ t.dist) :
    scanStages stages p = ⟨.clear, some ((stages.flatMap (·.2)).foldl Progress.pass p).least, none, none,
      ((stages.flatMap (·.2)).foldl Progress.pass p).terms⟩ := by
  simpa [scanStages] using scanStages_append_of_clear stages [] p h
/-- The first conflicting term ends the scan, whatever stands after it in its stage and in later ones. -/
theorem scanStages_of_conflict (v : Verdict) (xs : List Term) (t : Term) (ys : List Term)
    (after : List (Verdict × List Term)) (p : Progress) (hxs : ∀ x ∈ xs, x.need ≤ x.dist) (ht : t.dist < t.need) :
    scanStages ((v, xs ++ t :: ys) :: after) p =
      ⟨v, none, some t.inv1, t.inv2, (xs.foldl Progress.pass p).terms + 1⟩ := by
  rw [scanStages, scanTerms_append_of_clear v xs _ p hxs, scanTerms_cons_of_conflict v t ys _ ht]

/-! ## The count and the least slack -/

@[simp] theorem foldl_pass_terms (ts : List Term) (p : Progress) :
    (ts.foldl Progress.pass p).terms = p.terms + ts.length := by
  induction ts generalizing p with
  | nil => rfl
  | cons t ts ih => simp [ih, Progress.pass, Nat.add_assoc, Nat.add_comm 1]
/-- The margin reached is the least of the slacks and of the limit the scan began with. -/
theorem foldl_pass_least (ts : List Term) (p : Progress) : let m := (ts.foldl Progress.pass p).least
    m ≤ p.least ∧ (∀ t ∈ ts, m ≤ t.dist - t.need) ∧ (m = p.least ∨ ∃ t ∈ ts, m = t.dist - t.need) := by
  induction ts generalizing p with
  | nil => simp
  | cons t ts ih =>
    obtain ⟨hle, hall, hsome⟩ := ih (p.pass t)
    obtain ⟨hlimit, hslack⟩ : _ ≤ p.least ∧ _ ≤ t.dist - t.need := le_min_iff.mp hle
    refine ⟨hlimit, List.forall_mem_cons.mpr ⟨hslack, hall⟩, ?_⟩
    rcases hsome with heq | ⟨x, hx, heq⟩
    · rcases min_choice p.least (t.dist - t.need) with hmin | hmin
      · exact .inl (heq.trans hmin)
      · exact .inr ⟨t, List.mem_cons_self, heq.trans hmin⟩
    · exact .inr ⟨x, List.mem_cons_of_mem t hx, heq⟩

/-! ## The statement -/

/-- Settles O48: the four tests before any term by the lemma of each, the terms by the scan of the stages. -/
theorem checksEndAtTheFirstConflict : Obligations.ChecksEndAtTheFirstConflict := by
  intro i c
  refine ⟨check_of_offGrid, ?range, ?aligned, ?excluded, ?clear, ?conflict⟩
  case range => exact fun hgrid hout => check_of_outOfRange hgrid ((inRange_eq_false_iff _ c).mpr hout)
  case aligned => exact fun lo hi k hgrid hrange hlo hhi => check_of_misaligned hgrid hrange hlo hhi
  case excluded => exact fun lo hi k x hgrid hrange hlo hhi hk => check_of_excluded hgrid hrange hlo hhi hk
  case clear =>
    rintro ⟨hgrid, ⟨lo, hi, k, hrange, hlo, hhi, hk⟩, hexcl⟩ hclear
    obtain ⟨hlimit, hall, hsome⟩ := foldl_pass_least ((termStages i c).flatMap (·.2)) ⟨0, 15⟩
    refine ⟨_, ?_, hlimit, fun st hst t ht => hall t (List.mem_flatMap.mpr ⟨st, hst, ht⟩), hsome.imp_right ?_⟩
    · rw [check_of_passes hgrid hrange hlo hhi hk hexcl, scanStages_of_clear _ _ hclear, foldl_pass_terms,
        List.length_flatMap, Nat.zero_add]
    · rintro ⟨t, ht, heq⟩
      obtain ⟨st, hst, hmem⟩ := List.mem_flatMap.mp ht
      exact ⟨st, hst, t, hmem, heq⟩
  case conflict =>
    rintro before v xs t ys after ⟨hgrid, ⟨lo, hi, k, hrange, hlo, hhi, hk⟩, hexcl⟩ hstages hbefore hxs ht
    rw [check_of_passes hgrid hrange hlo hhi hk hexcl, hstages, scanStages_append_of_clear before _ _ hbefore,
      scanStages_of_conflict v xs t ys after _ hxs ht, foldl_pass_terms, foldl_pass_terms, List.length_flatMap,
      Nat.zero_add]

end Sys2Proof.Machine
end

section
/-! The requests about a watch: WRITE_PROFILE and the watches that use the profile (R100, R101), RELEASE (R189) and
ACK_WATCH (R113). -/

namespace Sys2Proof.Machine

/-! ## From an accepted request to its handling -/

/-- An accepted request's command ends as the request's handling does. -/
theorem exec_of_accepted {i : Instr} {h : ReqHdr} {r : Request} {s : State} (e : requestOf i = some (h, r))
    (a : Accepted h r s) : exec i s = .next (handle h r (arrived h.dt h.port s)) := by
  rw [exec_request e, request_of_accepted a]
theorem handle_writeProfile (h : ReqHdr) (n : Nat) (o : ProfileOps) (s : State) :
    handle h (.writeProfile n o) s = finish s (writeProfile h n o s) := rfl
theorem handle_release (h : ReqHdr) (st sl : Nat) (s : State) :
    handle h (.release st sl) s = finish s (releaseChannel h st sl s) := rfl
theorem handle_ackWatch (h : ReqHdr) (st sl : Nat) (s : State) :
    handle h (.ackWatch st sl) s = ackWatch h st sl s := rfl

/-! ## Fresh watches -/

theorem freshWatch_eq (s : State) (q : Option (Fin 8)) :
    s.freshWatch q = ⟨if s.liveProfile q = true then .armed else .off, 0, 0, none⟩ := by
  unfold State.freshWatch; split <;> rfl
theorem rewatch_eq (s : State) (r : ChanRec) :
    s.rewatch r = ⟨if (r.state = .active ∨ r.state = .held ∨ r.state = .moving) ∧ s.liveProfile r.profile = true
      then .armed else .off, 0, 0, none⟩ := by
  unfold State.rewatch
  split
  next h => simp only [freshWatch_eq, h, true_and]
  next h => simp only [h, false_and, if_false]; rfl
theorem liveProfile_some_iff (s : State) (k : Fin 8) :
    s.liveProfile (some k) = true ↔ s.profiles[k].level1.kind ≠ .none := by simp [State.liveProfile]

/-! ## WRITE_PROFILE -/

theorem writeProfile_of_valid {n : Nat} {k : Fin 8} {o : ProfileOps} {p : Profile} (hn : profileNumber n = some k)
    (hp : profileFrom o = some p) (h : ReqHdr) (s : State) : writeProfile h n o s =
      replyOk h 0x1F (encProfile p) (profileWritten k { s with profiles := s.profiles.set k p }) := by
  simp only [writeProfile, hn, hp]
theorem chan_with_profiles (s : State) (ps : Vector Profile 8) (c : Chan) :
    ({ s with profiles := ps } : State).chan c = s.chan c := rfl
theorem chan_profileWritten (k : Fin 8) (s : State) (c : Chan) : (profileWritten k s).chan c =
    if (s.chan c).profile = some k then { s.chan c with watch := s.rewatch (s.chan c), returnWatch := none }
    else s.chan c := by
  simp only [profileWritten, State.chan, Fin.getElem_fin, Vector.getElem_map]; rfl

/-- Settles O18: the state written is that of `profileWritten`, whose records are read one channel at a time. -/
theorem profileWritesRestartTheirWatches : Obligations.ProfileWritesRestartTheirWatches := by
  intro h s n k o p ha hn hp
  refine ⟨profileWritten k { arrived h.dt h.port s with profiles := s.profiles.set k p },
    ?handled, ?profiles, ?others, ?users, ?frame⟩
  case handled =>
    rw [exec_of_accepted rfl ha, handle_writeProfile, writeProfile_of_valid hn hp, arrived_profiles]
  case profiles => rfl
  case others => intro c hc; rw [chan_profileWritten, chan_with_profiles, chan_arrived, if_neg hc]
  case users =>
    intro c hc
    rw [chan_profileWritten, chan_with_profiles, chan_arrived, if_pos hc, rewatch_eq, hc]
    simp only [liveProfile_some_iff, Fin.getElem_fin, Vector.getElem_set_self]
  case frame => rfl

/-! ## The parts of RELEASE and ACK_WATCH -/

theorem restrain_of_held (s : State) {r : ChanRec} (h : r.state = .held) : ChanRec.restrain s r =
    { r with state := .active, heldCause := none, settle := none, watch := s.freshWatch r.profile } := by
  simp [ChanRec.restrain, h]
theorem restrain_of_active (s : State) {r : ChanRec} (h : r.state = .active) : ChanRec.restrain s r =
    { r with returnWatch := none, settle := none, watch := s.freshWatch r.profile } := by
  simp [ChanRec.restrain, h]
theorem restrain_state_of_held_or_active (s : State) {r : ChanRec} (h : r.state = .held ∨ r.state = .active) :
    (ChanRec.restrain s r).state = .active := by
  rcases h with h | h
  · rw [restrain_of_held s h]
  · rw [restrain_of_active s h, h]

theorem ack_of_off {w : Watch} (h : w.st = .off) : w.ack = w := if_pos h
theorem ack_of_not_off {w : Watch} (h : w.st ≠ .off) : w.ack = Watch.armed := if_neg h
theorem setChan_chan_self (s : State) (c : Chan) : s.setChan c (s.chan c) = s := by
  simp [State.setChan, State.chan]

/-! ## RELEASE -/

section
variable {st sl : Nat} {c : Chan} (hc : chanOf st sl = some c) (h : ReqHdr) {s : State}
include hc

theorem releaseChannel_of_unused (hs : (s.chan c).state = .unused) :
    releaseChannel h st sl s = reply h 0x0A .notFound 0 [] s := by
  simp only [releaseChannel, hc, hs]; rfl
theorem releaseChannel_of_moving_or_dark (hs : (s.chan c).state = .moving ∨ (s.chan c).state = .dark) :
    releaseChannel h st sl s = reply h 0x0A .busy 0 [] s := by
  rcases hs with hs | hs <;> (simp only [releaseChannel, hc, hs]; rfl)
theorem releaseChannel_of_parked (hs : (s.chan c).state = .parked) :
    releaseChannel h st sl s = replyOk h 0x0A [1#8] s := by
  simp only [releaseChannel, hc, hs]; rfl
/-- A HELD and an ACTIVE channel are both ACTIVE after a RELEASE, and its reply says so. -/
theorem releaseChannel_of_held_or_active (hs : (s.chan c).state = .held ∨ (s.chan c).state = .active) :
    releaseChannel h st sl s = replyOk h 0x0A [2#8] (s.setChan c (ChanRec.restrain s (s.chan c))) := by
  have hafter := restrain_state_of_held_or_active s hs
  rcases hs with hs | hs <;> (simp only [releaseChannel, hc, hs, chan_modChan_same, hafter]; rfl)

/-! ## ACK_WATCH -/

theorem ackWatch_of_unused (hs : (s.chan c).state = .unused) :
    ackWatch h st sl s = reply h 0x0B .notFound 0 [byteOf (s.chan c).watch.st.code] s := by
  simp only [ackWatch, hc, hs]; rfl
theorem ackWatch_of_moving (hs : (s.chan c).state = .moving) :
    ackWatch h st sl s = reply h 0x0B .busy 0 [byteOf (s.chan c).watch.st.code] s := by
  simp only [ackWatch, hc, hs]; rfl
/-- Beside an UNUSED and a MOVING channel, an acknowledgement re-arms every watch but one that is OFF. -/
theorem ackWatch_of_other (hunused : (s.chan c).state ≠ .unused) (hmoving : (s.chan c).state ≠ .moving) :
    ackWatch h st sl s = if (s.chan c).watch.st = .off then replyOk h 0x0B [0#8] s
      else replyOk h 0x0B [1#8] (s.setChan c { s.chan c with watch := ⟨.armed, 0, 0, none⟩ }) := by
  have hack : ackWatch h st sl s = replyOk h 0x0B [byteOf (s.chan c).watch.ack.st.code]
      (s.setChan c { s.chan c with watch := (s.chan c).watch.ack }) := by
    simp only [ackWatch, hc, chan_modChan_same]; rfl
  split
  next hoff => rw [hack, ack_of_off hoff, hoff, setChan_chan_self]; rfl
  next hon => rw [hack, ack_of_not_off hon]; rfl
end

/-! ## The statement -/

/-- Settles O22: each state of the channel by the lemma of its answer, in the state the arrival leaves. -/
theorem releaseAndAcknowledgeRearm : Obligations.ReleaseAndAcknowledgeRearm := by
  intro h s st sl c hc
  have hchan : (arrived h.dt h.port s).chan c = s.chan c := chan_arrived _ _ s c
  refine ⟨fun ha => ?release, fun ha => ?ack⟩
  case release =>
    rw [exec_of_accepted rfl ha, handle_release, ← freshWatch_eq, ← freshWatch_arrived h.dt h.port, ← hchan]
    congr 2
    cases hs : ((arrived h.dt h.port s).chan c).state with
    | unused => exact releaseChannel_of_unused hc h hs
    | moving => exact releaseChannel_of_moving_or_dark hc h (.inl hs)
    | dark => exact releaseChannel_of_moving_or_dark hc h (.inr hs)
    | parked => exact releaseChannel_of_parked hc h hs
    | held => rw [releaseChannel_of_held_or_active hc h (.inl hs), restrain_of_held _ hs]
    | active => rw [releaseChannel_of_held_or_active hc h (.inr hs), restrain_of_active _ hs, hs]
  case ack =>
    rw [exec_of_accepted rfl ha, handle_ackWatch, ← hchan]
    congr 1
    split
    next hs => exact ackWatch_of_unused hc h hs
    next hs => exact ackWatch_of_moving hc h hs
    next hunused hmoving => exact ackWatch_of_other hc h hunused hmoving

end Sys2Proof.Machine
end

section
/-! Bytes and the frame: what is written is what is read (R62, R78). -/

namespace Sys2Proof

@[simp] theorem toNat_byteOf (n : Nat) : (byteOf n).toNat = n % 256 := by simp [byteOf]
theorem byteOf_toNat (b : Byte) : byteOf b.toNat = b := by simp [byteOf]
/-- Two bytes spell the number they were written from. -/
theorem of16_bytes {n : Nat} (h : n < 65536) : of16 (n / 256 % 256) (n % 256) = n := by unfold of16; omega
/-- Four bytes spell the number they were written from. -/
theorem of32_bytes {n : Nat} (h : n < 4294967296) :
    of32 (n / 16777216 % 256) (n / 65536 % 256) (n / 256 % 256) (n % 256) = n := by unfold of32; omega
@[simp] theorem length_checkBytes (bs : List Byte) : (checkBytes bs).length = 2 := rfl

theorem parseFrame_wire {f : Frame} (h : f.payload.length ≤ 120) : parseFrame f.wire = some f := by
  have hlen : (byteOf f.payload.length).toNat = f.payload.length := by rw [toNat_byteOf]; omega
  obtain ⟨⟨dz, du⟩, ⟨sz, su⟩, k, q, p⟩ := f
  have hle : ¬ 120 < p.length := by simpa using h
  have hmod : p.length % 256 = p.length := by simpa using hlen
  simp [Frame.wire, Frame.body, parseFrame, hmod, hle]

theorem wire_of_parseFrame {bs : List Byte} {f : Frame} (h : parseFrame bs = some f) :
    bs = f.wire ∧ f.payload.length ≤ 120 := by
  unfold parseFrame at h
  split at h
  next dz du sz su k sq len rest =>
    simp only at h
    split at h
    · cases h
    next hle =>
      split at h
      · cases h
      next hsize =>
        split at h
        next hcheck =>
          obtain rfl := Option.some.inj h
          have hlen : (rest.take len.toNat).length = len.toNat := by rw [List.length_take]; omega
          refine ⟨?_, by simp only [hlen]; omega⟩
          simp only [Frame.wire, Frame.body, hlen, byteOf_toNat, List.cons_append, ← hcheck, List.take_append_drop]
        · cases h
  · cases h

/-- Settles O3: writing and reading a frame undo each other, one direction by computation, the other by the tests a
read frame has passed. -/
theorem framesRoundTrip : Obligations.FramesRoundTrip :=
  ⟨fun _ h => parseFrame_wire h, fun _ _ h => wire_of_parseFrame h⟩

end Sys2Proof
end

section
/-! Chain payloads and requests: every field is read back at every value (R79, R80). -/

namespace Sys2Proof

theorem map_toNat_byteOf {xs : List Nat} (h : ∀ x ∈ xs, x < 256) : (xs.map byteOf).map BitVec.toNat = xs := by
  rw [List.map_map]
  conv_rhs => rw [← List.map_id xs]
  exact List.map_congr_left fun x hx => by simp [Nat.mod_eq_of_lt (h x hx)]

theorem toNat_flagByte (a b c : Bool) : (flagByte a b c).toNat = a.toNat + 2 * b.toNat + 4 * c.toNat := by
  cases a <;> cases b <;> cases c <;> rfl
theorem flagBits_flagByte (a b c : Bool) : let n := (flagByte a b c).toNat
    flagBit n 0 = a ∧ flagBit n 1 = b ∧ flagBit n 2 = c := by
  cases a <;> cases b <;> cases c <;> decide

/-! ## Chain payloads -/

theorem parseReports_encode (rs : List Report) (h : ∀ r ∈ rs, r.wf = true) :
    parseReports ((rs.flatMap encodeReport).map BitVec.toNat) = some rs := by
  induction rs with
  | nil => rfl
  | cons r rs ih =>
    obtain ⟨hr, hrs⟩ := List.forall_mem_cons.mp h
    simp only [Report.wf, Bool.and_eq_true, decide_eq_true_eq] at hr
    obtain ⟨⟨⟨hreceiver, htuned⟩, hlevel⟩, hdropouts⟩ := hr
    obtain ⟨h0, h1, h2⟩ := flagBits_flagByte r.pilot r.squelch r.busy
    simp only [List.flatMap_cons, encodeReport, be16, List.cons_append, List.nil_append, List.map_cons, parseReports,
      toNat_byteOf, h0, h1, h2, of16_bytes htuned, Nat.mod_eq_of_lt hreceiver, Nat.mod_eq_of_lt hlevel,
      Nat.mod_eq_of_lt hdropouts, ih hrs, Option.map_some]

theorem parseCaps_encode (es : List CapReport) (h : ∀ e ∈ es, e.wf = true) :
    parseCaps ((es.flatMap encodeCap).map BitVec.toNat) = some es := by
  induction es with
  | nil => rfl
  | cons e es ih =>
    obtain ⟨he, hes⟩ := List.forall_mem_cons.mp h
    simp only [CapReport.wf, Bool.and_eq_true, decide_eq_true_eq] at he
    obtain ⟨⟨⟨⟨hreceiver, hfitted⟩, hlow⟩, hhigh⟩, hstep⟩ := he
    simp only [List.flatMap_cons, encodeCap, be16, List.cons_append, List.nil_append, List.map_cons, parseCaps,
      toNat_byteOf, of16_bytes hlow, of16_bytes hhigh, Nat.mod_eq_of_lt hreceiver, Nat.mod_eq_of_lt hfitted,
      Nat.mod_eq_of_lt hstep, ih hes, Option.map_some]

theorem parseSweep_encode {d : SweepData} (h : d.wf = true) :
    parseSweep ((encodePayload (.sweep d)).2.map BitVec.toNat) = .sweep d := by
  obtain ⟨start, step, last, survey, levels⟩ := d
  simp only [SweepData.wf, Bool.and_eq_true, decide_eq_true_eq, List.all_eq_true] at h
  obtain ⟨⟨⟨hstart, hstep, hstep8⟩, hn, hn96⟩, hlevels⟩ := h
  have hs : step % 256 = step := Nat.mod_eq_of_lt (by omega)
  have hc : levels.length % 256 = levels.length := Nat.mod_eq_of_lt (by omega)
  have hl := map_toNat_byteOf hlevels
  obtain ⟨h0, h1, -⟩ := flagBits_flagByte last survey false
  simp only [encodePayload, be16, List.cons_append, List.nil_append, List.map_cons, parseSweep, toNat_byteOf, hs, hc, hl,
    of16_bytes hstart, h0, h1]
  exact if_pos ⟨hstep, hstep8, hn, hn96, trivial⟩

/-- Settles O5: one reading lemma per payload; the lists of reports and of entries by induction. -/
theorem chainPayloadsRoundTrip : Obligations.ChainPayloadsRoundTrip := by
  intro i h p hp hwf
  cases i <;> simp only [Machine.chainOf, Option.some.injEq, Prod.mk.injEq, reduceCtorEq] at hp <;> obtain ⟨rfl, rfl⟩ := hp
  case telemetry rs =>
    simp only [Instr.wf, telemetryWf, Bool.and_eq_true, decide_eq_true_eq, List.all_eq_true] at hwf
    obtain ⟨⟨h1, h8⟩, hrs⟩ := hwf
    have hn : rs.length % 256 = rs.length := Nat.mod_eq_of_lt (by omega)
    simp [encodePayload, parsePayload, parseTelemetry, parseReports_encode rs hrs, hn, h8, Nat.one_le_iff_ne_zero.mp h1]
  case sweep d => exact parseSweep_encode hwf
  case capability es =>
    simp only [Instr.wf, capabilityWf, Bool.and_eq_true, decide_eq_true_eq, List.all_eq_true] at hwf
    obtain ⟨⟨h1, h8⟩, hes⟩ := hwf
    have hn : es.length % 256 = es.length := Nat.mod_eq_of_lt (by omega)
    simp [encodePayload, parsePayload, kCapability, kTelemetry, kSweep, parseCapability, parseCaps_encode es hes, hn, h8,
      Nat.one_le_iff_ne_zero.mp h1]
  case tune d =>
    simp only [Instr.wf, TuneData.wf, Bool.and_eq_true, decide_eq_true_eq] at hwf
    obtain ⟨⟨hreceiver, htarget⟩, htag⟩ := hwf
    have hr : d.receiver % 256 = d.receiver := Nat.mod_eq_of_lt (by omega)
    simp [encodePayload, parsePayload, kTune, kCapability, kTelemetry, kSweep, parseTune, be16, hr, hreceiver,
      of16_bytes htarget, Nat.mod_eq_of_lt htag]
  case tuneReport d =>
    simp only [Instr.wf, TuneReportData.wf, Bool.and_eq_true, decide_eq_true_eq] at hwf
    obtain ⟨⟨⟨⟨hreceiver, htarget⟩, hresult⟩, hreason⟩, hconflict⟩ := hwf
    simp [encodePayload, parsePayload, kTuneReport, kTune, kCapability, kTelemetry, kSweep, parseTuneReport, be16,
      of16_bytes htarget, Nat.mod_eq_of_lt hreceiver, Nat.mod_eq_of_lt hresult, Nat.mod_eq_of_lt hreason,
      Nat.mod_eq_of_lt hconflict]

/-! ## Requests -/

theorem parseFreqs_encode (fs : List Nat) (h : ∀ f ∈ fs, f < 65536) :
    parseFreqs ((fs.flatMap be16).map BitVec.toNat) = some fs := by
  induction fs with
  | nil => rfl
  | cons f fs ih =>
    obtain ⟨hf, hfs⟩ := List.forall_mem_cons.mp h
    simp only [List.flatMap_cons, be16, List.cons_append, List.nil_append, List.map_cons, parseFreqs, toNat_byteOf,
      of16_bytes hf]
    exact congrArg (Option.map (f :: ·)) (ih hfs)

theorem parseSettings_encode (xs : List Setting) (h : ∀ x ∈ xs, x.wf = true) :
    parseSettings ((xs.flatMap encodeSetting).map BitVec.toNat) = some xs := by
  induction xs with
  | nil => simp [parseSettings]
  | cons x xs ih =>
    obtain ⟨hx, hxs⟩ := List.forall_mem_cons.mp h
    simp only [Setting.wf, Bool.and_eq_true, decide_eq_true_eq] at hx
    obtain ⟨⟨hcode, hgroup⟩, hvalue⟩ := hx
    have hc := Nat.mod_eq_of_lt hcode
    have hg := Nat.mod_eq_of_lt hgroup
    by_cases htimer : x.code = 7 ∨ x.code = 8
    · have hv : x.value < 4294967296 := by simpa [htimer] using hvalue
      simp only [List.flatMap_cons, encodeSetting, if_pos htimer, be32, List.cons_append, List.nil_append, List.map_cons,
        parseSettings, toNat_byteOf, hc, hg, of32_bytes hv, ih hxs, Option.map_some]
    · have hv : x.value < 256 := by simpa [htimer] using hvalue
      simp only [List.flatMap_cons, encodeSetting, if_neg htimer, List.cons_append, List.nil_append, List.map_cons,
        toNat_byteOf, hc, hg, Nat.mod_eq_of_lt hv]
      unfold parseSettings
      rw [if_neg htimer, ih hxs, Option.map_some]

/-- A code outside the table carries no request. -/
theorem parseOps_of_unknown {c : Nat} (h : c ∉ requestCodes) (o : List Nat) : parseOps c o = .malformed c := by
  unfold parseOps
  split
  any_goals (refine absurd ?_ h; decide)
  rfl

theorem parseRequest_cons {c : Byte} (o : List Byte) : parseRequest (c :: o) = parseOps c.toNat (o.map BitVec.toNat) := rfl

theorem length_take_of_six {xs ys : List Nat} (hx : xs.length = 6) : (xs ++ ys).take 6 = xs ∧ (xs ++ ys).drop 6 = ys := by
  rw [← hx]; exact ⟨List.take_left, List.drop_left⟩

/-- Settles O4: each request's operand bytes are read back field by field; the lists of LOAD_POOL and SET_RULES by
induction, an unknown code by the table of codes. -/
theorem requestsRoundTrip : Obligations.RequestsRoundTrip := by
  intro r hwf
  cases r
  case malformed code =>
    simp only [Request.wf, Bool.and_eq_true, decide_eq_true_eq, Bool.not_eq_true', List.contains_eq_mem,
      decide_eq_false_iff_not] at hwf
    simp only [encodeRequest, Request.code, parseRequest_cons, toNat_byteOf, Nat.mod_eq_of_lt hwf.1]
    exact parseOps_of_unknown hwf.2 _
  case loadPool g n fs =>
    simp only [Request.wf, Bool.and_eq_true, decide_eq_true_eq, List.all_eq_true] at hwf
    obtain ⟨⟨⟨hg, hn⟩, hlen, h58⟩, hfs⟩ := hwf
    simp [encodeRequest, encodeOps, Request.code, parseRequest_cons, parseOps, parseFreqs_encode fs hfs,
      Nat.mod_eq_of_lt hg, Nat.mod_eq_of_lt hn, hlen]
  case setRules xs =>
    simp only [Request.wf, Bool.and_eq_true, decide_eq_true_eq, List.all_eq_true] at hwf
    obtain ⟨hxs, hsize⟩ := hwf
    have hle : xs.length ≤ (xs.map Setting.size).sum := by
      have := List.length_le_sum_of_one_le (xs.map Setting.size) (by
        simp only [List.mem_map, forall_exists_index, and_imp]
        rintro _ x - rfl
        unfold Setting.size; split <;> omega)
      simpa using this
    have hn : xs.length % 256 = xs.length := Nat.mod_eq_of_lt (by omega)
    simp [encodeRequest, encodeOps, Request.code, parseRequest_cons, parseOps, parseSettings_encode xs hxs, hn]
  case setGroups gs rs =>
    simp only [Request.wf, Bool.and_eq_true, decide_eq_true_eq, List.all_eq_true] at hwf
    obtain ⟨⟨⟨hgs, hrs⟩, hg⟩, hr⟩ := hwf
    obtain ⟨htake, hdrop⟩ := length_take_of_six (ys := rs) hgs
    simp [encodeRequest, encodeOps, Request.code, parseRequest_cons, parseOps, map_toNat_byteOf hg,
      map_toNat_byteOf hr, hgs, hrs, htake, hdrop, -List.map_map]
  case setNotices vs =>
    simp only [Request.wf, Bool.and_eq_true, decide_eq_true_eq, List.all_eq_true] at hwf
    obtain ⟨hlen, hvs⟩ := hwf
    simp [encodeRequest, encodeOps, Request.code, parseRequest_cons, parseOps, map_toNat_byteOf hvs, hlen, -List.map_map]
  case stageChannel st sl k ops =>
    cases ops <;>
      simp only [Request.wf, StagedOps.wf, Bool.and_eq_true, decide_eq_true_eq, and_assoc] at hwf
    case none =>
      obtain ⟨hst, hsl, hk, hne⟩ := hwf
      simp [encodeRequest, encodeOps, encodeStaged, Request.code, parseRequest_cons, parseOps, parseStage,
        Nat.mod_eq_of_lt hst, Nat.mod_eq_of_lt hsl, Nat.mod_eq_of_lt hk, hne]
    case change t f =>
      obtain ⟨hst, hsl, hk, rfl, ht, hf⟩ := hwf
      simp [encodeRequest, encodeOps, encodeStaged, Request.code, parseRequest_cons, parseOps, parseStage, be16,
        Nat.mod_eq_of_lt hst, Nat.mod_eq_of_lt hsl, of16_bytes ht, Nat.mod_eq_of_lt hf]
    case add t f c p q =>
      obtain ⟨hst, hsl, hk, rfl, ht, hf, hc, hp, hq⟩ := hwf
      simp [encodeRequest, encodeOps, encodeStaged, Request.code, parseRequest_cons, parseOps, parseStage, be16,
        Nat.mod_eq_of_lt hst, Nat.mod_eq_of_lt hsl, of16_bytes ht, Nat.mod_eq_of_lt hf, Nat.mod_eq_of_lt hc,
        Nat.mod_eq_of_lt hp, Nat.mod_eq_of_lt hq]
  all_goals
    simp only [Request.wf, CondOps.wf, ProfileOps.wf, Bool.and_eq_true, decide_eq_true_eq] at hwf
    simp [encodeRequest, encodeOps, encodeCond, Request.code, parseRequest_cons, parseOps, parseCondOps, ops1, ops2, ops3,
      be16, be32, of16_bytes, of32_bytes, Nat.mod_eq_of_lt, hwf]

/-- Settles O7: the four values computed. -/
theorem writtenPayloadsAreReadAsSpelled : Obligations.WrittenPayloadsAreReadAsSpelled := by
  refine ⟨?crc, ?telemetry, ?tune, ?request⟩
  case crc => decide +kernel
  all_goals rfl

end Sys2Proof
end

section
/-! Frames given as bytes, discarded frames, replies and notices (R62 to R65, R69, R76, R184, R191, R192). -/

namespace Sys2Proof.Machine

/-- Settles O1. -/
theorem stepRunsTheFrontCommand : Obligations.StepRunsTheFrontCommand := fun _ _ _ => rfl

/-! ## RECEIVE_FRAME -/

theorem receiveFrame_wire (dt : Nat) (p : Port) {f : Frame} (h : f.payload.length ≤ 120) (s : State) :
    receiveFrame dt p f.wire s = deliver dt p f (parsePayload f.kind f.payload) (arrive dt p s) := by
  simp only [receiveFrame, parseFrame_wire h]

/-- The payload of the frame of a command that carries a request is that request's. -/
theorem payloadOf_of_requestOf {i : Instr} {h : ReqHdr} {r : Request} (e : requestOf i = some (h, r)) :
    payloadOf i = some (encodeRequest r) := by
  cases i <;> simp only [requestOf, Option.some.injEq, Prod.mk.injEq, reduceCtorEq] at e <;> (obtain ⟨rfl, rfl⟩ := e; rfl)
theorem payloadOf_of_chainOf {i : Instr} {h : FrameHdr} {p : Payload} (e : chainOf i = some (h, p)) :
    payloadOf i = some (encodePayload p).2 := by
  cases i <;> simp only [chainOf, Option.some.injEq, Prod.mk.injEq, reduceCtorEq] at e <;> (obtain ⟨rfl, rfl⟩ := e; rfl)
/-- A command's request can arrive when the command can. -/
theorem wf_of_requestOf {i : Instr} {h : ReqHdr} {r : Request} (e : requestOf i = some (h, r)) (hwf : i.wf = true) :
    r.wf = true := by
  cases i <;> simp only [requestOf, Option.some.injEq, Prod.mk.injEq, reduceCtorEq] at e <;>
    (obtain ⟨rfl, rfl⟩ := e; exact hwf)
theorem payloadFits {i : Instr} (hwf : i.wf = true) {p : List Byte} (e : payloadOf i = some p) : p.length ≤ 120 := by
  cases hr : requestOf i with
  | some x =>
    obtain ⟨h, r⟩ := x
    obtain rfl := Option.some.inj ((payloadOf_of_requestOf hr).symm.trans e)
    exact Laws.PayloadFits.request_fits r (wf_of_requestOf hr hwf)
  | none =>
    cases i <;> simp only [requestOf, reduceCtorEq] at hr
    case telemetry h rs => exact Laws.PayloadFits.telemetry h rs hwf p e
    case sweep h d => exact Laws.PayloadFits.sweep h d hwf p e
    case capability h es => exact Laws.PayloadFits.capability h es hwf p e
    case tune h d => exact Laws.PayloadFits.tune h d hwf p e
    case tuneReport h d => exact Laws.PayloadFits.tuneReport h d hwf p e
    all_goals cases e

theorem portOfZone_station : portOfZone 6#8 = some .trunk := rfl

/-- A REQUEST frame that arrived is delivered to the request its payload spells. -/
theorem deliver_requestFrame (h : ReqHdr) {r : Request} (hwf : r.wf = true) (pay : Payload) (s : State) :
    deliver h.dt h.port (requestFrame h r) pay s =
      if sourceOk h.port h.src then permit h r (handle h r) s else countDiscard h.port .misaddressed s := by
  have hparse : parseRequest (encodeRequest r) = r := requestsRoundTrip r hwf
  simp only [deliver, requestFrame, deviceAddr, portOfZone_station, deliverDevice, if_true, hparse]
  cases sourceOk h.port h.src <;> rfl

/-- Settles O6: the bytes of a frame are read back as the frame, and its payload as what the command carries. -/
theorem frameBytesDoWhatTheirCommandDoes : Obligations.FrameBytesDoWhatTheirCommandDoes := by
  refine ⟨fun dt p f s hlen => congrArg _ (receiveFrame_wire dt p hlen s), fun i s hwf => ⟨fun h r e => ?_, fun h p e => ?_⟩⟩
  · have hfits : (requestFrame h r).payload.length ≤ 120 := payloadFits hwf (payloadOf_of_requestOf e)
    rw [exec_request e]
    refine congrArg _ ((receiveFrame_wire _ _ hfits s).trans ?_)
    rw [deliver_requestFrame h (wf_of_requestOf e hwf)]
    rfl
  · have hfits : (chainFrame h p).payload.length ≤ 120 := payloadFits hwf (payloadOf_of_chainOf e)
    have hparse : parsePayload (chainFrame h p).kind (chainFrame h p).payload = p := chainPayloadsRoundTrip i h p e hwf
    rw [exec_chain e]
    refine congrArg _ ((receiveFrame_wire _ _ hfits s).trans ?_)
    rw [hparse]
    rfl

/-! ## Discarded frames -/

theorem deliver_of_misaddressed {dt : Nat} {p : Port} {f : Frame} (h : sourceOk p f.src = false ∨ portOfZone f.dst.zone = none)
    (pay : Payload) (s : State) : deliver dt p f pay s = countDiscard p .misaddressed s := by
  unfold deliver
  cases hsrc : sourceOk p f.src with
  | false => rfl
  | true =>
    have hzone := h.resolve_left (by simp [hsrc])
    simp [hzone]

/-- Settles O8. -/
theorem discardedFramesAreCountedAlone : Obligations.DiscardedFramesAreCountedAlone := by
  refine ⟨fun dt p bs s h => ?_, fun i h p s e up bad => ?_⟩
  · change Host.Outcome.next (receiveFrame dt p bs s) = _
    simp only [receiveFrame, h]
  · rw [exec_chain e, chainArrival, arrive_of_up up]
    exact congrArg _ (deliver_of_misaddressed bad p _)

/-! ## Replies -/

/-- The port a source can lie behind is the port that serves its zone (R64, R65). -/
theorem portOfZone_of_sourceOk {p : Port} {src : Addr} (h : sourceOk p src = true) : portOfZone src.zone = some p := by
  cases p with
  | trunk =>
    simp only [sourceOk, Bool.and_eq_true, decide_eq_true_eq] at h
    simp [portOfZone, h.2]
  | stage z =>
    simp only [sourceOk, Bool.and_eq_true, decide_eq_true_eq] at h
    simp [portOfZone, h.2]
theorem handTo_of_up {p : Port} {s : State} (up : (s.port p).up = true) (f : Frame) :
    handTo p f s = s.setPort p { s.port p with tx := (s.port p).tx ++ [f] } := by
  simp [handTo, up]
theorem reply_of_source {h : ReqHdr} {s : State} (src : sourceOk h.port h.src = true) (up : (s.port h.port).up = true)
    (code : Nat) (st : Status) (kind : Nat) (res : List Byte) : reply h code st kind res s =
      s.setPort h.port { s.port h.port with tx := (s.port h.port).tx ++ [replyFrame h code st kind res] } := by
  simp only [reply, route, replyFrame, portOfZone_of_sourceOk src, handTo_of_up up]

/-- Settles O12. -/
theorem repliesWaitAtTheirPort : Obligations.RepliesWaitAtTheirPort :=
  fun _ code kind st res _ src up => reply_of_source src up code st kind res

/-! ## Notices -/

theorem notify_of_disabled {k : NoticeKind} {s : State} (h : s.enables[k.idx] = false) (stage slot : Nat)
    (detail : List Byte) : notify k stage slot detail s = setLatch k.idx.castSucc s := by
  simp [notify, h]
theorem notify_of_enabled {k : NoticeKind} {s : State} (h : s.enables[k.idx] = true) (stage slot : Nat)
    (detail : List Byte) : notify k stage slot detail s =
      handTo .trunk ⟨stationAddr, deviceAddr, kNotice, byteOf s.originSeq,
        e8 k.code ++ e8 stage ++ e8 slot ++ detail⟩
        { setLatch k.idx.castSucc s with originSeq := (s.originSeq + 1) % 256 } := by
  simp [notify, h, originate, route, stationAddr, portOfZone_station]

/-- Settles O13: the latch, then the frame handed to the trunk or counted there. -/
theorem noticesLatchThenSend : Obligations.NoticesLatchThenSend := by
  intro k stage slot detail s
  refine ⟨fun off => notify_of_disabled off .., fun on up => ?_, fun on down => ?_⟩
  · rw [notify_of_enabled on, handTo_of_up (by exact up)]; rfl
  · rw [notify_of_enabled on]
    simp only [handTo, State.port, setLatch, down]; rfl

/-! ## The tests of a stage port -/

/-- Settles O10: the tests are taken one after another. -/
theorem stagePortTestsInOrder : Obligations.StagePortTestsInOrder := by
  intro h z r lock hp
  refine ⟨fun hm => ?_, fun hm ht => ?_, fun hm ht hr hl => ?_, fun hm ht hlr => ?_⟩
  · simp [refusalOf, hm]
  · simp [refusalOf, hm, hp, ht]
  · simp [refusalOf, hm, hp, ht, hr, hl]
  · have hopen : (lock && !isRead r) = false := by rcases hlr with rfl | hr <;> simp [*]
    simp only [refusalOf, hm, hp, ht, hopen]
    cases ownStage r with
    | none => rfl
    | some st => by_cases e : st = z.val <;> simp [e]

/-! ## Power-on -/

/-- Settles O34: both sides are the same record. -/
theorem powerOnGivesItsValues : Obligations.PowerOnGivesItsValues := fun _ => rfl

end Sys2Proof.Machine
end

section
/-! Reads, site settings, staging and the requests that wait for a check: what an accepted request answers and stores
(R16, R58, R81, R122, R155, R160 to R162, R173, R179, R182, R186 to R193). -/

namespace Sys2Proof.Machine

/-- An accepted request whose handling is a change ends as that change does. -/
theorem exec_of_change {i : Instr} {h : ReqHdr} {r : Request} {s : State} {f : State → State}
    (e : requestOf i = some (h, r)) (a : Accepted h r s) (hf : handle h r = change f) :
    exec i s = .next (finish (arrived h.dt h.port s) (f (arrived h.dt h.port s))) := by
  rw [exec_of_accepted e a, hf]; rfl

/-! ## Operands -/

theorem stageOf_eq_some_iff (n : Nat) (z : Stage) : stageOf n = some z ↔ z.val = n := by
  unfold stageOf
  split <;> simp [Fin.ext_iff] <;> omega
theorem slotOf_eq_some_iff (n : Nat) (z : Slot) : slotOf n = some z ↔ z.val = n := by
  unfold slotOf
  split <;> simp [Fin.ext_iff] <;> omega
theorem groupOfNat_eq_some_iff (n : Nat) (g : Group) : groupOfNat n = some g ↔ g.val = n := by
  unfold groupOfNat
  split <;> simp [Fin.ext_iff] <;> omega
theorem profileNumber_eq_some_iff (n : Nat) (k : Fin 8) : profileNumber n = some k ↔ k.val = n := by
  unfold profileNumber
  split <;> simp [Fin.ext_iff] <;> omega
theorem chanOf_eq_some_iff (st sl : Nat) (c : Chan) : chanOf st sl = some c ↔ c.stage.val = st ∧ c.slot.val = sl := by
  obtain ⟨z, n⟩ := c
  rw [← stageOf_eq_some_iff, ← slotOf_eq_some_iff]
  unfold chanOf
  cases stageOf st <;> cases slotOf sl <;> simp
theorem gateModeOf_eq (n : Nat) : gateModeOf n = [GateMode.guard, .track, .block][n]? := by
  rcases n with _ | _ | _ | n <;> simp [gateModeOf]
theorem flagOf_eq (n : Nat) : flagOf n = [false, true][n]? := by
  rcases n with _ | _ | n <;> simp [flagOf]
theorem classOf_eq (n : Nat) : classOf n = [TxClass.low, .high][n]? := by
  rcases n with _ | _ | n <;> simp [classOf]
theorem priorityOf_eq (n : Nat) : priorityOf n = [Priority.normal, .lead][n]? := by
  rcases n with _ | _ | n <;> simp [priorityOf]
theorem flagOf_eq_some_iff (n : Nat) (b : Bool) : flagOf n = some b ↔ n = b.toNat := by
  rcases n with _ | _ | n <;> cases b <;> simp [flagOf]
theorem profileOf_eq_some_iff (q : Nat) (p : Option (Fin 8)) :
    profileOf q = some p ↔ q = (match p with | some k => k.val | none => 255) := by
  unfold profileOf
  cases p <;> split <;> simp [Fin.ext_iff] <;> omega
theorem gateMode_code {n : Nat} {m : GateMode} (h : gateModeOf n = some m) : m.code = n := by
  rw [gateModeOf_eq] at h
  rcases n with _ | _ | _ | n <;> simp at h <;> (subst h; rfl)
theorem mapM_flagOf_eq_some_iff (vs : List Nat) (bs : List Bool) :
    vs.mapM flagOf = some bs ↔ vs = bs.map Bool.toNat := by
  induction vs generalizing bs with
  | nil => cases bs <;> simp
  | cons v vs ih => cases bs <;> simp [List.mapM_cons, Option.bind_eq_some_iff, flagOf_eq_some_iff, ih]
theorem enablesOf_eq_some_iff (vs : List Nat) (bs : Vector Bool 15) :
    enablesOf vs = some bs ↔ vs = bs.toList.map Bool.toNat := by
  rw [← mapM_flagOf_eq_some_iff]
  unfold enablesOf
  cases vs.mapM flagOf with
  | none => simp
  | some xs =>
    simp only [Option.bind_some, Option.some.injEq]
    constructor
    · intro h
      split at h
      · obtain rfl := Option.some.inj h; rfl
      · cases h
    · rintro rfl
      rw [dif_pos (by simp)]
      rfl
theorem attrsOf_eq_some_iff (cl p q n : Nat) (x : Attrs) : attrsOf cl p q n = some x ↔
    [TxClass.low, .high][cl]? = some x.cls ∧ [Priority.normal, .lead][p]? = some x.priority
    ∧ q = (match x.profile with | some k => k.val | none => 255) ∧ [false, true][n]? = some x.pinned := by
  obtain ⟨c, r, k, b⟩ := x
  simp only [attrsOf, Option.bind_eq_bind, Option.bind_eq_some_iff, classOf_eq, priorityOf_eq, flagOf_eq,
    profileOf_eq_some_iff, Option.some.injEq, Attrs.mk.injEq]
  constructor
  · rintro ⟨c, hc, r, hr, k, hk, b, hb, rfl, rfl, rfl, rfl⟩
    exact ⟨hc, hr, hk, hb⟩
  · rintro ⟨hc, hr, hk, hb⟩
    exact ⟨c, hc, r, hr, k, hk, b, hb, rfl, rfl, rfl, rfl⟩

/-! ## Reads -/

/-- Settles O14. -/
theorem tableReadsOnlyAnswer : Obligations.TableReadsOnlyAnswer := by
  intro h s
  refine ⟨fun st sl c ha hc => ?channel, fun p ha => ?exclusions, fun n g ha hg => ?pool, fun n k ha hk => ?profile,
    fun ha => ?identity⟩
  all_goals rw [exec_of_accepted rfl ha]
  case channel => simp [handle, readChannel, hc]
  case exclusions => simp [handle, readExclusions]
  case pool => simp [handle, readPool, hg, e8]
  case profile => simp [handle, readProfile, hk]
  case identity => rfl

theorem counterRecords_arrived (dt : Nat) (p : Port) (s : State) : (arrived dt p s).counterRecords = s.counterRecords := by
  have hserving : (arrived dt p s).serving = s.serving := by
    have hhead : (arrived dt p s).head = s.head := by funext k; cases k <;> simp [State.head]
    simp only [State.serving, arrived_engine, hhead]
  simp only [State.counterRecords, encCounters, encOccupancy, encService, hserving, State.entriesIn, State.itemsOf,
    arrived_counters, arrived_trunkDiscards, arrived_heldDiscards, arrived_engine, arrived_heldFrames, arrived_table,
    arrived_backlog, arrived_commits, commitRec_arrived]

theorem clears_eq (h : ReqHdr) (b : Bool) : clears h b = decide (b = true ∧ h.port = .trunk) := by
  cases b <;> simp [clears]

/-- Settles O15. -/
theorem clearingReadsClearOnlyFromTheTrunk : Obligations.ClearingReadsClearOnlyFromTheTrunk := by
  intro h s clear b hb
  refine ⟨fun ha => ⟨?_, ?_⟩, fun start ha => ⟨?_, ?_⟩⟩
  · rintro ⟨rfl, hp⟩
    rw [exec_of_accepted rfl ha]
    simp [handle, readEvents, hb, clears_eq, hp, eFlag, e8, byteOf]
  · intro hno
    rw [exec_of_accepted rfl ha]
    have hoff : clears h b = false := by rw [clears_eq]; rcases hno with rfl | hp <;> simp [*]
    simp [handle, readEvents, hb, hoff, eFlag, e8, byteOf]
  · rintro ⟨rfl, hp, rfl⟩
    rw [exec_of_accepted rfl ha]
    simp [handle, readCounters, hb, clears_eq, hp, eFlag, e8, byteOf, counterRecords_arrived, zeroCounters,
      StageCounters.zero]
  · intro hno
    rw [exec_of_accepted rfl ha]
    have hoff : (clears h b && decide (start = 0)) = false := by
      rw [clears_eq]; rcases hno with rfl | hp | hs <;> simp [*]
    simp only [handle, readCounters, hb, hoff, counterRecords_arrived]
    rfl

/-! ## Site settings -/

theorem reply_eq_of_mode {n : Nat} {m : GateMode} (h : gateModeOf n = some m) : e8 m.code = [byteOf n] := by
  rw [gateMode_code h]; rfl
theorem eFlag_of_flagOf {n : Nat} {b : Bool} (h : flagOf n = some b) : eFlag b = [byteOf n] := by
  rw [(flagOf_eq_some_iff n b).mp h]; rfl

/-- A frame that is handed on leaves the link state of every port. -/
theorem up_route (f : Frame) (s : State) (p : Port) : ((route f s).port p).up = (s.port p).up := by
  unfold route
  split
  next q _ =>
    unfold handTo
    split
    · by_cases e : p = q
      · subst e; simp
      · rw [port_setPort_other _ _ e]
    · cases q <;> rfl
  · rfl
theorem setSpan_eq (h : ReqHdr) {st : Nat} {z : Stage} (hz : stageOf st = some z) {start : Nat} (hstart : start ≤ 8191)
    (k n : Nat) (s : State) : setSpan h st start k n s =
      let p : Span := ⟨start, max 1 (min 8 k), max 1 (min 96 n)⟩
      let t := replyOk h 0x2C (be16 p.start ++ [byteOf p.step, byteOf p.size]) { s with spans := s.spans.set z p }
      if (s.port (.stage z)).up = true ∧ s.surveys[z] = none then sendStanding z t else t := by
  have hgrid : offGrid start = false := by simpa using hstart
  simp only [setSpan, hz, hgrid, replyOk, reply, Bool.and_eq_true, Option.isNone_iff_eq_none]
  rfl

/-- Settles O16. -/
theorem siteSettingsAreStored : Obligations.SiteSettingsAreStored := by
  refine ⟨fun n => ⟨stageOf_eq_some_iff n, groupOfNat_eq_some_iff n, profileNumber_eq_some_iff n, gateModeOf_eq n,
    flagOf_eq n⟩, enablesOf_eq_some_iff, fun h s => ⟨?gate, ?lock, ?notices, ?span, ?confirm⟩⟩
  case gate =>
    intro st m z x ha hz hx
    rw [exec_of_accepted rfl ha]
    simp [handle, setGate, hz, hx, reply_eq_of_mode hx]
  case lock =>
    intro v b ha hb
    rw [exec_of_accepted rfl ha]
    simp [handle, setLock, hb, eFlag_of_flagOf hb]
  case notices =>
    intro vs bs ha hbs
    rw [exec_of_accepted rfl ha]
    simp [handle, setNotices, hbs]
  case span =>
    intro st start k n z ha hz hstart
    rw [exec_of_accepted rfl ha]
    refine congrArg _ ((setSpan_eq h hz hstart k n _).trans ?_)
    simp only [arrived_spans, arrived_surveys]
  case confirm =>
    intro v b ha hb
    rw [exec_of_change rfl ha rfl]
    simp [setConfirm, hb, State.inForce]

/-! ## Channels -/

/-- Settles O19. -/
theorem channelsAreDefinedAndRemoved : Obligations.ChannelsAreDefinedAndRemoved := by
  refine ⟨chanOf_eq_some_iff, attrsOf_eq_some_iff, fun h s st sl c hc => ⟨?define, ?remove⟩⟩
  case define =>
    intro cl p q n x ha hx
    rw [exec_of_change rfl ha rfl]
    simp only [defineChannel, hc, hx, chan_arrived, State.modChan, ChanRec.define]
    split <;> rfl
  case remove =>
    intro ha
    rw [exec_of_change rfl ha rfl]
    simp only [removeChannel, hc, chan_arrived]
    cases (s.chan c).state <;> simp [State.dropNote, refuse]

/-! ## Operator moves -/

/-- A MOVE to a frequency is BUSY, answered at once, or queued (R155, R188). -/
theorem moveTo_eq (h : ReqHdr) (c : Chan) (f : Nat) (roc : Bool) (s : State) : moveTo h c f roc s =
    if s.operBusy c = true then reply h 0x08 .busy 0 [] s
    else if (s.chan c).assigned = some f then replyOk h 0x08 (be16 f) s
    else queueOper h 0x08 c false roc (.given f) Search.start s := rfl

theorem queueOper_eq (h : ReqHdr) (code : Nat) (c : Chan) (rev roc : Bool) (w : Work) (q : Search) (s : State) :
    queueOper h code c rev roc w q s =
      { s with engine := { s.engine with admQ := s.engine.admQ ++ [.oper ⟨h, code, c, rev, roc, w, q⟩] } } := rfl
theorem start_eq : Search.start = ⟨[], 0, []⟩ := rfl
theorem refuse_eq (h : ReqHdr) (code : Nat) (st : Status) (s : State) : refuse h code st s = reply h code st 0 [] s := rfl

section
variable {st sl : Nat} {c : Chan} (hc : chanOf st sl = some c) (h : ReqHdr) {v : Nat} {roc : Bool}
  (hv : flagOf v = some roc) (s : State)
include hc

section
include hv

theorem moveChannel_given (f : Nat) : moveChannel h st sl 0 f v s =
    if (s.chan c).state = .unused then reply h 0x08 .notFound 0 [] s
    else if 8191 < f then reply h 0x08 .outOfGrid 0 [] s else moveTo h c f roc s := by
  simp [moveChannel, hc, hv, refuse_eq]
theorem moveChannel_relative {o : Nat} (ho : (signed16 o).natAbs ≤ 255) : moveChannel h st sl 1 o v s =
    if (s.chan c).state = .unused then reply h 0x08 .notFound 0 [] s else moveBy h c (signed16 o) roc s := by
  simp [moveChannel, hc, hv, refuse_eq, ho]
theorem moveChannel_pick (o : Nat) (hused : (s.chan c).state ≠ .unused) : moveChannel h st sl 2 o v s =
    if s.operBusy c = true then reply h 0x08 .busy 0 [] s
    else match searchNext c Search.start s with
      | (.more w q, t) => queueOper h 0x08 c false roc w q t
      | (_, t) => reply h 0x08 .refused 0 [] t := by
  simp only [moveChannel, hc, hv, hused, movePick, refuse_eq]
  simp <;> rfl
end

theorem revertChannel_eq : revertChannel h st sl s =
    if (s.chan c).state = .unused then reply h 0x09 .notFound 0 [] s
    else if s.operBusy c = true then reply h 0x09 .busy 0 [] s
    else if (s.chan c).prior = none then reply h 0x09 .notFound 0 [] s
    else queueOper h 0x09 c true false .prior Search.start s := by
  simp [revertChannel, hc, refuse_eq]
end

theorem moveBy_parked {c : Chan} {s : State} (hs : (s.chan c).state = .parked) (h : ReqHdr) (o : Int) (roc : Bool) :
    moveBy h c o roc s = reply h 0x08 .badRequest 0 [] s := by
  simp [moveBy, hs, refuse_eq]
theorem moveBy_assigned {c : Chan} {s : State} {f : Nat} (hs : (s.chan c).state ≠ .parked)
    (hf : (s.chan c).assigned = some f) (h : ReqHdr) (o : Int) (roc : Bool) : moveBy h c o roc s =
      if (f : Int) + o < 0 ∨ (8191 : Int) < f + o then reply h 0x08 .outOfGrid 0 [] s
      else moveTo h c ((f : Int) + o).toNat roc s := by
  simp only [moveBy, if_neg hs, hf, refuse_eq]; rfl

/-- Settles O23: each form of the request by its own lemma, in the state the arrival leaves. -/
theorem operatorMovesQueueTheirCheck : Obligations.OperatorMovesQueueTheirCheck := by
  intro h s st sl c hc
  refine ⟨?given, ?relative, ?refused, ?pick, ?revert⟩
  case given =>
    intro f v roc ha hv
    rw [exec_of_change rfl ha rfl, moveChannel_given hc h hv, moveTo_eq, chan_arrived]; rfl
  case relative =>
    intro o v roc f ha hv ho hunused hparked hf
    rw [exec_of_change rfl ha rfl, moveChannel_relative hc h hv _ ho, chan_arrived, if_neg hunused,
      moveBy_assigned (by rwa [chan_arrived]) (by rwa [chan_arrived]), moveTo_eq, chan_arrived]; rfl
  case refused =>
    intro o v roc ha hv ho
    refine ⟨fun hs => ?_, fun hs => ?_⟩
    · rw [exec_of_change rfl ha rfl, moveChannel_relative hc h hv _ ho, chan_arrived, if_pos hs]
    · rw [exec_of_change rfl ha rfl, moveChannel_relative hc h hv _ ho, chan_arrived, if_neg (by simp [hs]),
        moveBy_parked (by rwa [chan_arrived])]
  case pick =>
    intro o v roc ha hv hunused
    rw [exec_of_change rfl ha rfl, moveChannel_pick hc h hv _ o (by rwa [chan_arrived])]; rfl
  case revert =>
    intro ha
    rw [exec_of_change rfl ha rfl, revertChannel_eq hc, chan_arrived]; rfl

/-! ## CHECK -/

theorem queueCheck_eq (h : ReqHdr) (x : Subject) {f : Nat} (hf : f ≤ 8191) (s : State) : queueCheck h (some x) f s =
    if 8 ≤ s.engine.admQ.length then reply h 0x0C .busy 0 [] s else joinAdm (.whatIf h x f) s := by
  have hgrid : ¬ 8191 < f := by omega
  simp [queueCheck, hgrid, State.admFull, refuse]

/-- Settles O24. -/
theorem checksQueueAndOnlyAnswer : Obligations.ChecksQueueAndOnlyAnswer := by
  refine ⟨fun h ops x f s ha hf hops => ?queue, fun dt h x f v q s hv hcls hcand hq => ?done⟩
  case queue =>
    rcases hops with ⟨st, sl, c, rfl, hc, rfl⟩ | ⟨n, g, rfl, hg, rfl⟩
    · rw [exec_of_change (r := .checkChannel st sl f) rfl ha rfl, checkChannel, hc, Option.map_some, queueCheck_eq h _ hf]
      simp [joinAdm]
    · rw [exec_of_change (r := .checkGroup n f) rfl ha rfl, checkGroup, hg, Option.map_some, queueCheck_eq h _ hf]
      simp [joinAdm]
  case done =>
    have hserving : (passTime dt s).serving = some (.adm (.whatIf h x f), v) := by
      simp [State.serving, hv, State.head, hcls, hq]
    change Host.Outcome.next (completion dt whatIfAct s) = _
    simp only [completion, hserving, whatIfAct, Service.result, Service.outcome, hcand, Option.map_some, change]
    congr 2
    simp only [whatIfDone, leaveHead, endService, State.setService, encResult, eCount, e8]
    cases x with
    | chan c => simp [encFlags, hq, State.chan]
    | group g => simp [encFlags, hq, e8, o8]; rfl

/-! ## Staging -/

theorem targetOf_eq (t f : Nat) : targetOf t f = if t = 65534 then (if f ≤ 1 ∨ f = 255 then some .any else none)
    else if f ≤ 1 then some (.given t (f = 1)) else none := by
  unfold targetOf anyCode
  split
  · have hiff : (f = 255 ∨ f = 0 ∨ f = 1) ↔ (f ≤ 1 ∨ f = 255) := by omega
    simp [hiff]
  · rcases f with _ | _ | f <;> simp [flagOf]

theorem stagedOf_eq_some_iff (k : Nat) (ops : StagedOps) (e : Staged) : stagedOf k ops = some e ↔
    (k = 0 ∧ ops = .none ∧ e = .keep) ∨ (k = 1 ∧ ops = .none ∧ e = .drop)
    ∨ (∃ t f x, k = 2 ∧ ops = .change t f ∧ targetOf t f = some x ∧ e = .change x)
    ∨ ∃ t f c p q x y, k = 3 ∧ ops = .add t f c p q ∧ targetOf t f = some x ∧ attrsOf c p q 0 = some y
      ∧ e = .add x y.cls y.priority y.profile := by
  constructor
  · intro h
    unfold stagedOf at h
    split at h
    · exact .inl ⟨rfl, rfl, (Option.some.inj h).symm⟩
    · exact .inr (.inl ⟨rfl, rfl, (Option.some.inj h).symm⟩)
    next t f =>
      obtain ⟨x, hx, rfl⟩ := Option.map_eq_some_iff.mp h
      exact .inr (.inr (.inl ⟨t, f, x, rfl, rfl, hx, rfl⟩))
    next t f c p q =>
      simp only [Option.bind_eq_bind, Option.bind_eq_some_iff, Option.some.injEq] at h
      obtain ⟨x, hx, cl, hcl, pr, hpr, pf, hpf, rfl⟩ := h
      refine .inr (.inr (.inr ⟨t, f, c, p, q, x, ⟨cl, pr, pf, false⟩, rfl, rfl, hx, ?_, rfl⟩))
      simp [attrsOf, hcl, hpr, hpf, flagOf]
    · cases h
  · rintro (⟨rfl, rfl, rfl⟩ | ⟨rfl, rfl, rfl⟩ | ⟨t, f, x, rfl, rfl, hx, rfl⟩ | ⟨t, f, c, p, q, x, y, rfl, rfl, hx, hy, rfl⟩)
    · rfl
    · rfl
    · simp [stagedOf, hx]
    · simp only [attrsOf, Option.bind_eq_bind, Option.bind_eq_some_iff, Option.some.injEq] at hy
      obtain ⟨cl, hcl, pr, hpr, pf, hpf, b, -, rfl⟩ := hy
      simp [stagedOf, hx, hcl, hpr, hpf]

/-- Settles O25. -/
theorem stagingAndArmingAreStored : Obligations.StagingAndArmingAreStored := by
  refine ⟨targetOf_eq, stagedOf_eq_some_iff, fun h s => ⟨?stage, ?bad, ?arm⟩⟩
  case stage =>
    intro st sl k ops c e ha hc he
    rw [exec_of_accepted rfl ha]
    have hoff : targetOffGrid = fun f => decide (8191 < f ∧ f ≠ 65534) := by
      funext f
      by_cases h0 : f = 65534 <;> simp [targetOffGrid, anyCode, h0]
    simp [handle, stageChannel, hc, he, hoff, State.setStaged]
    rfl
  case bad =>
    intro st sl k ops ha hbad
    rw [exec_of_accepted rfl ha]
    have hnone : stageChannel h st sl k ops (arrived h.dt h.port s) = refuse h 0x10 .badRequest (arrived h.dt h.port s) := by
      unfold stageChannel
      rcases hbad with hb | hb
      · simp [hb]
      · cases chanOf st sl <;> simp [hb]
    exact congrArg _ hnone
  case arm =>
    intro st v z b ha hz hb
    rw [exec_of_accepted rfl ha]
    simp only [handle, armStage, hz, hb, eFlag_of_flagOf hb, arrived_arm]
    congr 2
    cases b with
    | true => simp
    | false =>
      simp only [cancelWait, State.waitDl, arrived_commits]
      cases s.commits[z] <;> simp [State.setCommit]

end Sys2Proof.Machine
end

section
/-! The tests of a request, the lock, proposals, passing frames, the Gate, deadlines and events that meet nothing (R66,
R82, R105, R112, R144, R148, R149, R164, R175 to R177, R181, R183, R184). -/

namespace Sys2Proof.Machine

/-! ## The lock -/

/-- The reads of R183 other than CHECK, from a stage port, answer and change nothing. -/
theorem handle_read_eq_reply {h : ReqHdr} {z : Fin 6} (hp : h.port = .stage z) {r : Request} (hread : isRead r = true)
    (hc : ∀ st sl c, r ≠ .checkChannel st sl c) (hg : ∀ g c, r ≠ .checkGroup g c) (s : State) :
    ∃ st kind res, handle h r s = reply h r.code st kind res s := by
  have hoff : ∀ b, clears h b = false := fun b => by simp [clears_eq, hp]
  cases r <;> simp only [isRead, Bool.false_eq_true] at hread
  case checkChannel st sl c => exact absurd rfl (hc st sl c)
  case checkGroup g c => exact absurd rfl (hg g c)
  case readChannel st sl =>
    simp only [handle, readChannel]
    cases chanOf st sl <;> exact ⟨_, _, _, rfl⟩
  case readExclusions p => exact ⟨_, _, _, rfl⟩
  case readPool g =>
    simp only [handle, readPool]
    cases groupOfNat g <;> exact ⟨_, _, _, rfl⟩
  case readProfile n =>
    simp only [handle, readProfile]
    cases profileNumber n <;> exact ⟨_, _, _, rfl⟩
  case readEvents c =>
    simp only [handle, readEvents, hoff]
    cases flagOf c <;> exact ⟨_, _, _, rfl⟩
  case readCounters c p =>
    simp only [handle, readCounters, hoff]
    cases flagOf c <;> exact ⟨_, _, _, rfl⟩
  case identify => exact ⟨_, _, _, rfl⟩

theorem ownStage_of_isRead {r : Request} (h : isRead r = true) : ownStage r = none := by
  cases r with
  | checkChannel | checkGroup | readChannel | readExclusions | readPool | readProfile | readEvents | readCounters | identify => rfl
  | _ => cases h

theorem refusalOf_locked {h : ReqHdr} {z : Fin 6} (hp : h.port = .stage z) (r : Request) :
    (∃ st, refusalOf h r true = some st) ∨ isRead r = true := by
  obtain ⟨hmal, honly, hlock, hown⟩ := stagePortTestsInOrder h z r true hp
  cases hm : isMalformed r with
  | true => exact .inl ⟨_, hmal hm⟩
  | false =>
    cases ht : trunkOnly r with
    | true => exact .inl ⟨_, honly hm ht⟩
    | false =>
      cases hr : isRead r with
      | true => exact .inr rfl
      | false => exact .inl ⟨_, hlock hm ht hr rfl⟩

/-- Settles O11: what the tests let pass is a read, and a read from a stage port is one reply. -/
theorem lockedStagePortsChangeNothing : Obligations.LockedStagePortsChangeNothing := by
  intro i h r z s e hp up src lock hcheck
  have hup : ((arrived h.dt h.port s).port h.port).up = true := arrived_up _ _ _
  suffices hreply : ∃ st kind res, request h r s = reply h r.code st kind res (arrived h.dt h.port s) by
    obtain ⟨st, kind, res, hreq⟩ := hreply
    refine ⟨replyFrame h r.code st kind res, rfl, rfl, rfl, ?_⟩
    rw [exec_request e, hreq, reply_of_source src hup]
  cases hno : refusalOf h r s.lock with
  | some st => exact ⟨st, 0, [], request_of_refused up src hno⟩
  | none =>
    rw [request_of_accepted ⟨up, src, hno⟩]
    rw [lock] at hno
    obtain ⟨st, hst⟩ | hread := refusalOf_locked hp r
    · rw [hst] at hno; cases hno
    · refine handle_read_eq_reply hp hread (fun st sl c hr => ?_) (fun g c hr => ?_) _
      all_goals
        subst hr
        cases i <;> simp only [requestOf, Option.some.injEq, Prod.mk.injEq, reduceCtorEq, and_false] at e
        next g ops => exact hcheck ops (by rw [e.1])

/-! ## Proposals -/

section
variable {st sl : Nat} {c : Chan} (hc : chanOf st sl = some c) (h : ReqHdr) {s : State}
include hc

theorem goChannel_none (he : s.entryOf c = none) : goChannel h st sl s = reply h 0x30 .notFound 0 [] s := by
  simp only [goChannel, hc, he]; rfl
theorem goChannel_other {e : Entry} (he : s.entryOf c = some e) (hs : e.state ≠ .proposed) :
    goChannel h st sl s = reply h 0x30 .busy 0 [byteOf e.state.code] s := by
  simp only [goChannel, hc, he, if_neg hs]; rfl
theorem goChannel_proposed {e : Entry} (he : s.entryOf c = some e) (hs : e.state = .proposed) :
    goChannel h st sl s = replyOk h 0x30 (o16 e.target ++ [byteOf (e.attempts + 1)]) (sendEntry c s) := by
  simp only [goChannel, hc, he, if_pos hs]; rfl
theorem dropChannel_none (he : s.entryOf c = none) : dropChannel h st sl s = reply h 0x31 .notFound 0 [] s := by
  simp only [dropChannel, hc, he]; rfl
theorem dropChannel_some {e : Entry} (he : s.entryOf c = some e) : dropChannel h st sl s = match e.state with
    | .proposed => replyOk h 0x31 [1#8] (endProposal e .dropped s)
    | .searching => replyOk h 0x31 [0#8] ((withdrawMove c s).dropEntry c)
    | .sent => reply h 0x31 .busy 0 [2#8] s
    | .locking => reply h 0x31 .busy 0 [3#8] s := by
  simp only [dropChannel, hc, he]
  cases hs : e.state <;> rfl
end

theorem entryOf_chan {s : State} {c : Chan} {e : Entry} (h : s.entryOf c = some e) : e.chan = c := by
  simpa using List.find?_some h
theorem mem_of_entryOf {s : State} {c : Chan} {e : Entry} (h : s.entryOf c = some e) : e ∈ s.table :=
  List.mem_of_find?_eq_some h

/-- An entry that is not the originator's own enters SENT with a TUNE of the device. -/
theorem sendEntry_of_target {s : State} {c : Chan} {e : Entry} {f : Nat} (he : s.entryOf c = some e) (ht : e.target = some f)
    (ho : e.origin ≠ .passed) : sendEntry c s = sendTune c f (s.putEntry (e.sent s.now)) := by
  simp only [sendEntry, he, ht, if_neg ho]

theorem goChannel_sends {st sl : Nat} {c : Chan} (hc : chanOf st sl = some c) (h : ReqHdr) {s : State} {e : Entry} {f : Nat}
    (he : s.entryOf c = some e) (hs : e.state = .proposed) (hf : e.target = some f) (ho : e.origin ≠ .passed) :
    goChannel h st sl s = replyOk h 0x30 (be16 f ++ [byteOf (e.attempts + 1)])
      (sendTune c f (s.putEntry { e with
        state := .sent, attempts := e.attempts + 1, replyDl := some (s.now + 300), lockDl := none, propDl := none })) := by
  have htarget : o16 e.target = be16 f := by rw [hf]; rfl
  rw [goChannel_proposed hc h he hs, sendEntry_of_target he hf ho, htarget]; rfl

/-- Settles O31. -/
theorem proposalsAreAnswered : Obligations.ProposalsAreAnswered := by
  intro h s
  refine ⟨fun st sl c ha hc => ?go, fun st sl ha hc => ?goBad, fun st sl ha hc => ?dropBad, fun st sl c ha hc => ?drop,
    fun ha => ?all⟩
  case go =>
    have hentry := entryOf_arrived h.dt h.port s c
    cases he : s.entryOf c with
    | none => rw [exec_of_change rfl ha rfl, goChannel_none hc h (hentry.trans he)]
    | some e =>
      refine ⟨fun hs => ?_, fun f hs hf ho => ?_⟩
      · rw [exec_of_change rfl ha rfl, goChannel_other hc h (hentry.trans he) hs]
      · rw [exec_of_change rfl ha rfl, goChannel_sends hc h (hentry.trans he) hs hf ho]
  case goBad => rw [exec_of_change rfl ha rfl]; simp only [goChannel, hc]; rfl
  case dropBad => rw [exec_of_change rfl ha rfl]; simp only [dropChannel, hc]; rfl
  case drop =>
    have hentry := entryOf_arrived h.dt h.port s c
    rw [exec_of_change rfl ha rfl]
    cases he : s.entryOf c with
    | none => rw [dropChannel_none hc h (hentry.trans he)]
    | some e =>
      rw [dropChannel_some hc h (hentry.trans he), endProposal, entryOf_chan he] <;> rfl
  case all =>
    rw [exec_of_change rfl ha rfl]
    simp only [goAll, arrived_table]
    rfl

/-! ## Passing frames -/

theorem chainFrame_dst (h : FrameHdr) (p : Payload) : (chainFrame h p).dst = h.dst := rfl
theorem chainFrame_src (h : FrameHdr) (p : Payload) : (chainFrame h p).src = h.src := rfl
theorem kind_ne_tune {i : Instr} {h : FrameHdr} {p : Payload} (e : chainOf i = some (h, p)) (hi : ∀ d, i ≠ .tune h d) :
    (chainFrame h p).kind ≠ kTune := by
  cases i <;> simp only [chainOf, Option.some.injEq, Prod.mk.injEq, reduceCtorEq] at e <;> obtain ⟨rfl, rfl⟩ := e
  case tune d => exact absurd rfl (hi d)
  all_goals simp [chainFrame, encodePayload, kTelemetry, kSweep, kCapability, kTuneReport, kTune]

/-- A frame that is no TUNE for a rack is passed on (R65, R66). -/
theorem deliver_eq_passOn {dt : Nat} {p out : Port} {f : Frame} (src : sourceOk p f.src = true)
    (hout : portOfZone f.dst.zone = some out) (hdev : f.dst ≠ deviceAddr)
    (hpass : f.kind ≠ kTune ∨ out = .trunk ∨ 4 ≤ f.dst.unit.toNat) (pay : Payload) (s : State) :
    deliver dt p f pay s = passOn p f out pay s := by
  simp only [deliver, src, Bool.not_true, Bool.false_eq_true, if_false, hout, if_neg hdev, deliverZone]
  cases out with
  | trunk => rfl
  | stage z =>
    cases hrack : rackOf f.dst with
    | none => rfl
    | some u =>
      refine if_neg (hpass.resolve_right ?_)
      rintro (hz | hu)
      · cases hz
      · rw [rackOf, dif_neg (by omega)] at hrack; cases hrack

/-- Settles O37. -/
theorem passingFramesAreHandedOnThenRead : Obligations.PassingFramesAreHandedOnThenRead := by
  intro i h p out s e hpass
  have hkind : (chainFrame h p).kind ≠ kTune ∨ out = .trunk ∨ 4 ≤ (chainFrame h p).dst.unit.toNat :=
    hpass.imp_left (kind_ne_tune e)
  refine ⟨fun z hz => ?_, fun hp up src hdev hout => ?_⟩
  · obtain ⟨hp, up, hzone, hdev, hout⟩ := hz
    have hne : h.src ≠ deviceAddr := by
      intro h0
      rw [h0] at hzone
      have : (6 : Nat) = z.val := hzone
      omega
    have src : sourceOk h.port (chainFrame h p).src = true := by
      rw [chainFrame_src, hp]; simp [sourceOk, hne, hzone]
    rw [exec_chain e, chainArrival, arrive_of_up (by rw [hp]; exact up),
      deliver_eq_passOn src (by exact hout) hdev hkind]
    simp only [passOn, hp, chainFrame_src]
  · rw [exec_chain e, chainArrival, arrive_of_up (by rw [hp]; exact up),
      deliver_eq_passOn (by rw [hp]; exact src) (by exact hout) hdev hkind]
    simp only [passOn, hp]

/-! ## The Gate -/

section
variable (z : Stage) (u : Fin 4)

theorem rackAddr_ne_device : (⟨byteOf z.val, byteOf u.val⟩ : Addr) ≠ deviceAddr := by
  intro h
  have hz : byteOf z.val = 6#8 := congrArg Addr.zone h
  have := congrArg BitVec.toNat hz
  rw [toNat_byteOf, Nat.mod_eq_of_lt (by omega)] at this
  simp at this
  omega
theorem portOfZone_rack : portOfZone (byteOf z.val) = some (.stage z) := by
  have hz : (byteOf z.val).toNat = z.val := by rw [toNat_byteOf]; omega
  simp only [portOfZone, hz]
  exact dif_pos z.isLt
theorem rackOf_rack : rackOf ⟨byteOf z.val, byteOf u.val⟩ = some u := by
  have hu : (byteOf u.val).toNat = u.val := by rw [toNat_byteOf]; omega
  simp only [rackOf, hu]
  exact dif_pos u.isLt

/-- A TUNE frame for a rack goes to the Gate (R65, R66). -/
theorem deliver_tune {dt : Nat} {p : Port} {f : Frame} (hdst : f.dst = ⟨byteOf z.val, byteOf u.val⟩)
    (src : sourceOk p f.src = true) (hkind : f.kind = kTune) (pay : Payload) (s : State) :
    deliver dt p f pay s = divertTune p f z u pay s := by
  simp only [deliver, src, Bool.not_true, Bool.false_eq_true, if_false, hdst, portOfZone_rack, rackAddr_ne_device,
    deliverZone, rackOf_rack, hkind, if_true]
end

theorem parseTune_malformed {n : List Nat} (h : n.length ≠ 4 ∨ ∃ x xs, n = x :: xs ∧ 8 ≤ x) : parseTune n = .other := by
  unfold parseTune
  split
  next r t1 t0 g =>
    rcases h with h | ⟨x, xs, hx, h8⟩
    · exact absurd rfl h
    · obtain rfl := (List.cons.inj hx).1
      exact if_neg (by omega)
  · rfl

theorem refuseTune_eq (f : Frame) (c : Chan) (t : Nat) (why : GateReason) (kind : Nat) (s : State) :
    refuseTune f c t why kind none none s =
      notifyChan .admissionRefused c ([byteOf why.code, byteOf kind] ++ be16 t ++ [f.src.zone, f.src.unit]
          ++ [255#8, 255#8, 255#8, 255#8])
        (bumpStage c.stage .refusals (route ⟨f.src, ⟨6#8, 1#8⟩, 0x21#8, f.seq,
          [byteOf (c.slot.val % 8)] ++ be16 t ++ [1#8, byteOf why.code, byteOf kind]⟩ s)) := by
  simp only [refuseTune, e8, eAddr, eChan, o8, List.append_assoc, List.cons_append, List.nil_append]
  rfl

/-- Settles O40: the rows of the examination are those of the statement. -/
theorem gateRowsInOrder : Obligations.GateRowsInOrder := by
  refine ⟨fun h d z u hd s hdst up src => ?rows, fun dt p f z u s hkind hdst hlen src up hbad => ?bad⟩
  case rows =>
    rw [exec_chain rfl, chainArrival, arrive_of_up up, deliver_tune z u (f := chainFrame h (.tune d)) hdst src rfl]
    simp only [divertTune, dif_pos hd]
    refine congrArg _ (congrArg (finish _) ?_)
    have hstage : (rackChan z u d.receiver hd).stage = z := rfl
    generalize rackChan z u d.receiver hd = c at *
    subst hstage
    simp only [examineTune, refuseTune_eq, arrived_gate, chan_arrived, State.alreadyThere, State.gateBusy, entryOf_arrived,
      heldOf_arrived, commitRec_arrived, arrived_heldFrames, State.admFull, State.tableFull, arrived_engine, arrived_table,
      Bool.or_eq_true, Bool.and_eq_true, decide_eq_true_eq, Bool.not_eq_true', Option.isNone_iff_eq_none, or_assoc, and_assoc]
    have htrack : trackTune (chainFrame h (.tune d)) c d.target (arrived h.dt h.port s) =
        let t := handTo (.stage c.stage) (chainFrame h (.tune d)) (arrived h.dt h.port s)
        if (s.chan c).settled = true ∧ s.entryOf c = none ∧ d.target ≤ 8191 ∧ (s.chan c).assigned ≠ some d.target then
          { t with notes := s.notes.filter (fun n => n.chan ≠ c) ++ [⟨c, d.target, h.src, h.seq⟩] }
        else t := by
      have hchan : (handTo (.stage c.stage) (chainFrame h (.tune d)) (arrived h.dt h.port s)).chan c = s.chan c := by
        rw [State.chan, handTo_chans]; exact chan_arrived ..
      have hentry : (handTo (.stage c.stage) (chainFrame h (.tune d)) (arrived h.dt h.port s)).entryOf c = s.entryOf c := by
        rw [State.entryOf, handTo_table]; exact entryOf_arrived ..
      simp only [trackTune, hchan, hentry, Bool.and_eq_true, Bool.not_eq_true', decide_eq_true_eq, offGrid_eq_decide,
        decide_eq_false_iff_not, not_lt, Option.isNone_iff_eq_none, State.dropNote, handTo_notes, arrived_notes, and_assoc]
      rfl
    rw [htrack]
    rfl
  case bad =>
    have hparse : parsePayload f.kind f.payload = .other := by
      have hne : parsePayload f.kind f.payload = parseTune (f.payload.map BitVec.toNat) := by rw [hkind]; rfl
      rw [hne]
      refine parseTune_malformed ?_
      rcases hbad with h4 | ⟨x, xs, hx, h8⟩
      · exact .inl (by simpa using h4)
      · exact .inr ⟨x.toNat, xs.map BitVec.toNat, by rw [hx]; rfl, h8⟩
    refine congrArg _ ((receiveFrame_wire dt p hlen s).trans ?_)
    rw [arrive_of_up up, deliver_tune z u hdst src hkind, hparse]
    rfl

/-! ## Deadlines -/

theorem expire_some (t : Nat) (f : State → State) (s : State) :
    expire (some t) f s = finish (passTime (t - s.now) s) (f (passTime (t - s.now) s)) := rfl
theorem onEntry_some {s : State} {c : Chan} {e : Entry} (h : s.entryOf c = some e) (f : Entry → State → State) :
    onEntry c f s = f e s := by
  simp only [onEntry, h]
theorem entryDl_some {s : State} {c : Chan} {e : Entry} (h : s.entryOf c = some e) (x : EntryState) :
    s.entryDl c x = if e.state = x then e.deadline else none := by
  simp only [State.entryDl, h]

theorem entryDl_none {s : State} {c : Chan} {x : EntryState} (h : ∀ e, s.entryOf c = some e → e.state ≠ x) :
    s.entryDl c x = none := by
  unfold State.entryDl
  split
  next e he => exact if_neg (h e he)
  · rfl

/-- Settles O41: each deadline is found, and its own effect follows in the state that stands at it. -/
theorem deadlinesExpireOnTime : Obligations.DeadlinesExpireOnTime := by
  intro z n s
  have hentry : ∀ {e : Entry} {dt : Nat}, s.entryOf ⟨z, n⟩ = some e → (passTime dt s).entryOf ⟨z, n⟩ = some e :=
    fun he => (entryOf_passTime ..).trans he
  refine ⟨fun d hs hd => ?window, fun d hd => ?settle, fun e d he => ⟨fun hs hd => ?proposal, fun hs hd => ?reply,
    fun hs hd => ?lock⟩, fun d hd => ?wait, fun v hv => ?survey⟩
  case window =>
    have hdl : s.windowDl ⟨z, n⟩ = some d := by simp only [State.windowDl, if_pos hs, hd]
    change Host.Outcome.next (expire (s.windowDl ⟨z, n⟩) (windowExpiry ⟨z, n⟩) s) = _
    rw [hdl, expire_some]
    simp only [windowExpiry, chan_passTime, hs, hd, Option.isSome_some, and_self, if_true]
    simp only [bumpStage, State.modChan, setChan_counters, passTime_counters, chan_passTime]
    rfl
  case settle =>
    change Host.Outcome.next (expire (s.chan ⟨z, n⟩).settle (settleExpiry ⟨z, n⟩) s) = _
    rw [hd, expire_some, settleExpiry, State.modChan, chan_passTime]
  case proposal =>
    change Host.Outcome.next (expire (s.entryDl ⟨z, n⟩ .proposed) _ s) = _
    rw [entryDl_some he, if_pos hs, Entry.deadline, hs]
    simp only [hd, expire_some, onEntry_some (hentry he), endProposal, entryOf_chan he]
  case reply =>
    change Host.Outcome.next (expire (s.entryDl ⟨z, n⟩ .sent) _ s) = _
    rw [entryDl_some he, if_pos hs, Entry.deadline, hs]
    simp only [hd, expire_some, onEntry_some (hentry he), sendEnded, entryOf_chan he]
    rfl
  case lock =>
    change Host.Outcome.next (expire (s.entryDl ⟨z, n⟩ .locking) _ s) = _
    rw [entryDl_some he, if_pos hs, Entry.deadline, hs]
    simp only [hd, expire_some, onEntry_some (hentry he)]
  case wait =>
    have hdl : s.waitDl z = some d := by simp only [State.waitDl, hd]
    change Host.Outcome.next (expire (s.waitDl z) (startCommit z .linkUp) s) = _
    rw [hdl, expire_some]
    rfl
  case survey =>
    have hdl : s.surveyDl z = some v.deadline := by simp only [State.surveyDl, hv, Option.map_some]
    change Host.Outcome.next (expire (s.surveyDl z) (endSurvey z .timeout) s) = _
    rw [hdl, expire_some]
    simp only [endSurvey, passTime_surveys, hv, clearSurvey]

/-! ## Events that meet nothing -/

theorem completion_of_other {s : State} (dt : Nat) {act : Served → Service → Option (State → State)}
    (h : ∀ r v, (passTime dt s).serving = some (r, v) → act r v = none) : completion dt act s = passTime dt s := by
  simp only [completion]
  split
  next r v hs => rw [h r v hs]
  · rfl
/-- The request in service is at the head of the queue of its service's class. -/
theorem serving_eq_some {s : State} {r : Served} {v : Service} (h : s.serving = some (r, v)) :
    s.engine.service = some v ∧ s.head v.cls = some r := by
  unfold State.serving at h
  split at h
  next w hw =>
    obtain ⟨x, hx, e⟩ := Option.map_eq_some_iff.mp h
    cases e
    exact ⟨hw, hx⟩
  · cases h
/-- The class of a request. -/
def Served.cls : Served → ReqClass
  | .move _ => .move
  | .adm _ => .admission
  | .com _ => .commit
  | .pool _ => .pool
theorem cls_of_head {s : State} {k : ReqClass} {r : Served} (h : s.head k = some r) : r.cls = k := by
  cases k <;> (obtain ⟨x, -, rfl⟩ := Option.map_eq_some_iff.mp h; rfl)

/-- Settles O42: no deadline, no expiry; a completion finds no service, or a request of another class. -/
theorem eventsThatMeetNothingDoNothing : Obligations.EventsThatMeetNothingDoNothing := by
  intro s
  refine ⟨fun h => by simp only [step, h], fun p h => ?silence, fun z n => ⟨fun h => ?window, fun h => ?settle,
    fun h => ?proposal, fun h => ?reply, fun h => ?lock, fun h => ?wait, fun h => ?survey⟩, fun dt => ?completions⟩
  case silence =>
    have hdl : s.silenceDl p = none := by
      unfold State.silenceDl
      rcases h with h | h <;> simp [h]
    change Host.Outcome.next (expire (s.silenceDl p) _ s) = _
    rw [hdl]; rfl
  case window =>
    have hdl : s.windowDl ⟨z, n⟩ = none := if_neg h
    change Host.Outcome.next (expire (s.windowDl ⟨z, n⟩) _ s) = _
    rw [hdl]; rfl
  case settle =>
    change Host.Outcome.next (expire (s.chan ⟨z, n⟩).settle _ s) = _
    rw [h]; rfl
  case wait =>
    have hdl : s.waitDl z = none := by
      unfold State.waitDl
      split
      next d hd => exact absurd hd (h d)
      · rfl
    change Host.Outcome.next (expire (s.waitDl z) _ s) = _
    rw [hdl]; rfl
  case survey =>
    have hdl : s.surveyDl z = none := by rw [State.surveyDl, h]; rfl
    change Host.Outcome.next (expire (s.surveyDl z) _ s) = _
    rw [hdl]; rfl
  case completions =>
    have hother : ∀ (act : Served → Service → Option (State → State)) (k : ReqClass),
        (∀ r v, r.cls ≠ k → act r v = none) → (∀ v, s.engine.service = some v → v.cls ≠ k) →
        completion dt act s = passTime dt s := by
      refine fun act k hact hs => completion_of_other dt fun r v hserving => ?_
      obtain ⟨hv, hhead⟩ := serving_eq_some hserving
      rw [passTime_engine] at hv
      exact hact r v (by rw [cls_of_head hhead]; exact hs v hv)
    refine ⟨fun hs => ?_, fun hs => ?_, fun hs => ?_, fun hs => ?_, fun hs => ?_, fun hs => ?_, fun hs => ?_, fun hs => ?_,
      fun hs => ?_⟩
    all_goals
      refine congrArg _ (hother _ _ (fun r v hr => ?_) hs)
      cases r <;> simp [Served.cls] at hr <;> rfl
  case proposal =>
    change Host.Outcome.next (expire (s.entryDl ⟨z, n⟩ .proposed) _ s) = _
    rw [entryDl_none h]; rfl
  case reply =>
    change Host.Outcome.next (expire (s.entryDl ⟨z, n⟩ .sent) _ s) = _
    rw [entryDl_none h]; rfl
  case lock =>
    change Host.Outcome.next (expire (s.entryDl ⟨z, n⟩ .locking) _ s) = _
    rw [entryDl_none h]; rfl

end Sys2Proof.Machine
end

section
/-! The state after reset (R195). -/

namespace Sys2Proof.Machine

theorem chan_reset (c : Chan) : State.reset.chan c = ChanRec.reset := by simp [State.chan, State.reset]
theorem pool_reset (g : Group) : State.reset.pool g = [] := by simp [State.pool, State.reset]
theorem bounded_reset : Bounded State.reset := by
  refine ⟨fun z => ?_, by decide, by decide, fun g => ?_, by decide, fun c => ?_⟩
  · simp [State.reset, StageCounters.zero, StageCounters.bounded]
  · simp [State.reset]
  · rw [chan_reset]; exact ⟨Nat.zero_le _, Nat.zero_le _⟩
theorem fits_reset : Fits State.reset := by
  refine ⟨Nat.zero_le _, Nat.zero_le _, Nat.zero_le _, Nat.zero_le _, Nat.zero_le _, List.Pairwise.nil, fun g => ?_⟩
  rw [pool_reset]; exact Nat.zero_le _
theorem unique_reset : Unique State.reset :=
  ⟨List.Pairwise.nil, List.Pairwise.nil, fun _ hi => absurd hi List.not_mem_nil, Nat.zero_le _⟩
theorem placed_reset : Placed State.reset := by
  refine ⟨unique_reset, fun c => ?_, fun _ he => absurd he List.not_mem_nil, fun _ hi => absurd hi List.not_mem_nil,
    fun c hc => ?_, List.Pairwise.nil, fun _ hm => absurd hm List.not_mem_nil⟩
  · rw [chan_reset]; rfl
  · rw [chan_reset] at hc; cases hc
theorem poolsClean_reset : PoolsClean State.reset := by
  intro g
  rw [pool_reset]
  exact ⟨List.Pairwise.nil, fun _ he => absurd he List.not_mem_nil⟩

/-- Settles O54. -/
theorem resetKeepsEveryPromise : Obligations.ResetKeepsEveryPromise :=
  ⟨bounded_reset, fits_reset, unique_reset, placed_reset, poolsClean_reset⟩

end Sys2Proof.Machine
end

section
/-! The tests of a request, and what their order answers (R64, R80, R183, R184). -/

namespace Sys2Proof.Machine

theorem exec_requestTested {i : Instr} {h : ReqHdr} {r : Request} (e : requestOf i = some (h, r)) (s : State) :
    exec i s = .next (if sourceOk h.port h.src then
      (match refusalOf h r (arrive h.dt h.port s).lock with
        | some st => reply h r.code st 0 [] (arrive h.dt h.port s)
        | none => handle h r (arrive h.dt h.port s))
      else countDiscard h.port .misaddressed (arrive h.dt h.port s)) := by
  rw [exec_request e]
  simp only [request, serve, permit]
  rfl

/-! ## Operands outside their values -/

theorem chanOf_eq_none {st sl : Nat} (h : 5 < st ∨ 31 < sl) : chanOf st sl = none := by
  cases hc : chanOf st sl with
  | none => rfl
  | some c => have := (chanOf_eq_some_iff st sl c).mp hc; omega
theorem stageOf_eq_none {st : Nat} (h : 5 < st) : stageOf st = none := dif_neg (by omega)
theorem groupOfNat_eq_none {g : Nat} (h : 3 < g) : groupOfNat g = none := dif_neg (by omega)
theorem profileNumber_eq_none {n : Nat} (h : 7 < n) : profileNumber n = none := dif_neg (by omega)
theorem flagOf_eq_none {n : Nat} (h : 1 < n) : flagOf n = none := by
  rw [flagOf_eq]; exact List.getElem?_eq_none (by exact h)
theorem gateModeOf_eq_none {n : Nat} (h : 2 < n) : gateModeOf n = none := by
  rw [gateModeOf_eq]; exact List.getElem?_eq_none (by exact h)
theorem attrsOf_eq_none {c p q n : Nat} (h : 1 < c ∨ 1 < p ∨ (7 < q ∧ q ≠ 255) ∨ 1 < n) : attrsOf c p q n = none := by
  cases hx : attrsOf c p q n with
  | none => rfl
  | some x =>
    obtain ⟨hc, hp, hq, hn⟩ := (attrsOf_eq_some_iff c p q n x).mp hx
    have hc2 : c < 2 := (List.getElem?_eq_some_iff.mp hc).1
    have hp2 : p < 2 := (List.getElem?_eq_some_iff.mp hp).1
    have hn2 : n < 2 := (List.getElem?_eq_some_iff.mp hn).1
    have hq2 : q < 8 ∨ q = 255 := by
      rw [hq]
      cases x.profile with
      | none => exact .inr rfl
      | some k => exact .inl k.isLt
    omega
theorem stageOf_of_le {st : Nat} (h : st ≤ 5) : stageOf st = some ⟨st, by omega⟩ := dif_pos (by omega)
theorem groupOfNat_of_le {g : Nat} (h : g ≤ 3) : groupOfNat g = some ⟨g, by omega⟩ := dif_pos (by omega)

theorem mapM_eq_none {α β : Type} {f : α → Option β} {xs : List α} {x : α} (hx : x ∈ xs) (hf : f x = none) :
    xs.mapM f = none := by
  induction xs with
  | nil => cases hx
  | cons y ys ih =>
    rw [List.mapM_cons]
    rcases List.mem_cons.mp hx with rfl | hy
    · simp [hf]
    · cases f y <;> simp [ih hy]
theorem length_of_mapM {α β : Type} {f : α → Option β} {xs : List α} {ys : List β} (h : xs.mapM f = some ys) :
    ys.length = xs.length := by
  induction xs generalizing ys with
  | nil => simp at h; subst h; rfl
  | cons x xs ih =>
    simp only [List.mapM_cons, Option.bind_eq_bind, Option.bind_eq_some_iff, Option.pure_def, Option.some.injEq] at h
    obtain ⟨_, _, zs, hzs, rfl⟩ := h
    simp [ih hzs]
theorem enablesOf_eq_none {vs : List Nat} (h : vs.length ≠ 15 ∨ ∃ v ∈ vs, 1 < v) : enablesOf vs = none := by
  cases hbs : enablesOf vs with
  | none => rfl
  | some bs =>
    have hvs := (enablesOf_eq_some_iff vs bs).mp hbs
    rcases h with hlen | ⟨v, hv, hgt⟩
    · exact absurd (by rw [hvs]; simp) hlen
    · rw [hvs] at hv
      obtain ⟨b, -, rfl⟩ := List.mem_map.mp hv
      cases b <;> simp at hgt
theorem sixOf_eq_none {α : Type} {xs : List α} (h : xs.length ≠ 6) : sixOf xs = none := dif_neg h
theorem groupsOf_eq_none {gs rs : List Nat}
    (h : gs.length ≠ 6 ∨ rs.length ≠ 6 ∨ (∃ g ∈ gs, 3 < g) ∨ ∃ x ∈ rs, x ≠ 1 ∧ x ≠ 2) : groupsOf gs rs = none := by
  have hsix : ∀ {β : Type} {f : Nat → Option β} {xs : List Nat}, (xs.length ≠ 6 ∨ ∃ x ∈ xs, f x = none) →
      (xs.mapM f).bind sixOf = none := by
    intro β f xs hx
    cases hm : xs.mapM f with
    | none => rfl
    | some ys =>
      rcases hx with hlen | ⟨x, hmem, hf⟩
      · exact sixOf_eq_none (by rw [length_of_mapM hm]; exact hlen)
      · rw [mapM_eq_none hmem hf] at hm; cases hm
  have hgr : (gs.mapM groupOfNat).bind sixOf = none ∨ (rs.mapM relOf).bind sixOf = none := by
    rcases h with h | h | ⟨g, hg, h3⟩ | ⟨x, hx, h1, h2⟩
    · exact .inl (hsix (.inl h))
    · exact .inr (hsix (.inl h))
    · exact .inl (hsix (.inr ⟨g, hg, groupOfNat_eq_none h3⟩))
    · exact .inr (hsix (.inr ⟨x, hx, by rw [relOf, if_neg h1, if_neg h2]⟩))
  rw [groupsOf]
  rcases hgr with h | h
  · rw [h]; rfl
  · rw [h]; cases (gs.mapM groupOfNat).bind sixOf <;> rfl

/-- Settles O9: the tests by `exec_requestTested`; an operand outside its values, and a frequency beyond the grid, request
by request. -/
theorem requestsAreTestedThenHandled : Obligations.RequestsAreTestedThenHandled := by
  refine ⟨fun i h r s e => ⟨fun src => ?_, fun src => ?_⟩, fun h c s up src => ?unknown, fun i h r s e ha => ⟨?outside, ?beyond⟩⟩
  · rw [exec_requestTested e, if_pos src] <;> rfl
  · rw [exec_requestTested e, if_neg (by simp [src])]
  case unknown =>
    rw [exec_request rfl, request_of_refused (st := .badRequest) up src rfl]; rfl
  case outside =>
    rw [exec_of_accepted e ha]
    generalize arrived h.dt h.port s = a
    intro hout
    refine congrArg _ ?_
    cases r
    case readChannel st sl => simp only [handle, readChannel, chanOf_eq_none hout, refuse_eq]; rfl
    case removeChannel st sl => simp only [handle, change, removeChannel, chanOf_eq_none hout, refuse_eq]; rfl
    case revert st sl => simp only [handle, change, revertChannel, chanOf_eq_none hout, refuse_eq]; rfl
    case release st sl => simp only [handle, change, releaseChannel, chanOf_eq_none hout, refuse_eq]; rfl
    case ackWatch st sl => simp only [handle, ackWatch, chanOf_eq_none hout, refuse_eq]; rfl
    case go st sl => simp only [handle, change, goChannel, chanOf_eq_none hout, refuse_eq]; rfl
    case drop st sl => simp only [handle, change, dropChannel, chanOf_eq_none hout, refuse_eq]; rfl
    case defineChannel st sl c p q n =>
      rcases hout with ho | ho
      · simp only [handle, change, defineChannel, chanOf_eq_none ho, refuse_eq]; rfl
      · simp only [handle, change, defineChannel, attrsOf_eq_none ho, refuse_eq]
        cases chanOf st sl <;> rfl
    case writeChannel st sl c p q n f =>
      rcases hout with ho | ho
      · simp only [handle, change, writeChannel, chanOf_eq_none ho, refuse_eq]; rfl
      · simp only [handle, change, writeChannel, attrsOf_eq_none ho, refuse_eq]
        cases chanOf st sl <;> rfl
    case move st sl form o v =>
      rcases hout with ho | ho | ho | ho
      · simp only [handle, change, moveChannel, chanOf_eq_none ho, refuse_eq]; rfl
      · simp only [handle, change, moveChannel, ho, true_or, if_true, refuse_eq]
        cases chanOf st sl <;> cases flagOf v <;> rfl
      · simp only [handle, change, moveChannel, flagOf_eq_none ho, refuse_eq]
        cases chanOf st sl <;> rfl
      · simp only [handle, change, moveChannel, ho, and_self, or_true, if_true, refuse_eq]
        cases chanOf st sl <;> cases flagOf v <;> rfl
    case checkChannel st sl f =>
      have hgrid : ¬ 8191 < f := by have := hout.1; omega
      simp [handle, change, checkChannel, queueCheck, chanOf_eq_none hout.2, refuse_eq, hgrid, Request.code]
    case checkGroup g f =>
      have hgrid : ¬ 8191 < f := by have := hout.1; omega
      simp [handle, change, checkGroup, queueCheck, groupOfNat_eq_none hout.2, refuse_eq, hgrid, Request.code]
    case stageChannel st sl k ops => simp only [handle, stageChannel, chanOf_eq_none hout, refuse_eq]; rfl
    case commitStage st => simp only [handle, change, commitStage, stageOf_eq_none hout, refuse_eq]; rfl
    case setSpan st x y w => simp only [handle, setSpan, stageOf_eq_none hout, refuse_eq]; rfl
    case survey st x y w p t => simp only [handle, change, orderSurvey, stageOf_eq_none hout, refuse_eq]; rfl
    case armStage st v =>
      rcases hout with ho | ho
      · simp only [handle, armStage, stageOf_eq_none ho, refuse_eq]; rfl
      · simp only [handle, armStage, flagOf_eq_none ho, refuse_eq]
        cases stageOf st <;> rfl
    case addExclusion f l k =>
      obtain ⟨hf, hl, hbad⟩ := hout
      have hgf : ¬ 8191 < f := by omega
      have hgl : ¬ 8191 < l := by omega
      simp [handle, change, addExclusion, hgf, hgl, hbad, refuse_eq, Request.code]
    case addPool g f => simp only [handle, change, addPool, groupOfNat_eq_none hout, refuse_eq]; rfl
    case removePool g f => simp only [handle, change, removePool, groupOfNat_eq_none hout, refuse_eq]; rfl
    case readPool g => simp only [handle, readPool, groupOfNat_eq_none hout, refuse_eq]; rfl
    case loadPool g n fs =>
      rcases hout with ho | ho
      · simp only [handle, change, loadPool, groupOfNat_eq_none ho, refuse_eq]; rfl
      · simp only [handle, change, loadPool, ho, if_true, refuse_eq]
        cases groupOfNat g <;> rfl
    case writeProfile n ops => simp only [handle, change, writeProfile, profileNumber_eq_none hout, refuse_eq]; rfl
    case readProfile n => simp only [handle, readProfile, profileNumber_eq_none hout, refuse_eq]; rfl
    case setGroups gs rs => simp only [handle, change, setGroups, groupsOf_eq_none hout, refuse_eq]; rfl
    case setGate st m =>
      rcases hout with ho | ho
      · simp only [handle, setGate, stageOf_eq_none ho, refuse_eq]; rfl
      · simp only [handle, setGate, gateModeOf_eq_none ho, refuse_eq]
        cases stageOf st <;> rfl
    case setLock v => simp only [handle, setLock, flagOf_eq_none hout, refuse_eq]; rfl
    case setConfirm v => simp only [handle, change, setConfirm, flagOf_eq_none hout, refuse_eq]; rfl
    case readEvents v => simp only [handle, readEvents, flagOf_eq_none hout, refuse_eq]; rfl
    case readCounters v p => simp only [handle, readCounters, flagOf_eq_none hout, refuse_eq]; rfl
    case setNotices vs => simp only [handle, setNotices, enablesOf_eq_none hout, refuse_eq]; rfl
    all_goals exact hout.elim
  case beyond =>
    rw [exec_of_accepted e ha]
    generalize arrived h.dt h.port s = a
    intro hout
    refine congrArg _ ?_
    cases r
    case setSpan st f x y =>
      simp [handle, setSpan, stageOf_of_le hout.1, hout.2, refuse_eq, Request.code]
    case survey st f x y p t =>
      simp [handle, change, orderSurvey, stageOf_of_le hout.1, hout.2, refuse_eq, Request.code]
    case addExclusion f l k =>
      simp [handle, change, addExclusion, show 8191 < f ∨ 8191 < l from hout, refuse_eq, Request.code]
    case removeExclusion f l =>
      simp [handle, change, removeExclusion, show 8191 < f ∨ 8191 < l from hout, refuse_eq, Request.code]
    case addPool g f =>
      simp [handle, change, addPool, groupOfNat_of_le hout.1, hout.2, refuse_eq, Request.code]
    case removePool g f =>
      simp [handle, change, removePool, groupOfNat_of_le hout.1, hout.2, refuse_eq, Request.code]
    case loadPool g n fs =>
      obtain ⟨hg, hn, hlen, hoff⟩ := hout
      have hn16 : ¬ 16 < n := by omega
      simp [handle, change, loadPool, groupOfNat_of_le hg, hn16, hlen, hoff, refuse_eq, Request.code]
    case checkChannel st sl f =>
      simp [handle, change, checkChannel, queueCheck, show 8191 < f from hout, refuse_eq, Request.code]
    case checkGroup g f =>
      simp [handle, change, checkGroup, queueCheck, show 8191 < f from hout, refuse_eq, Request.code]
    all_goals exact hout.elim

end Sys2Proof.Machine
end

section
/-! The places of the moves, channel by channel: the record's seat with the entries, items and MOVE requests of the channel.
The invariants of R6, R137, R139, R140 and R142 say something of each channel alone, and of the number of proposals. -/

namespace Sys2Proof.Machine

/-- The fields of a record that R6 speaks of; the others at their power-on values. -/
def ChanRec.seat (r : ChanRec) : ChanRec :=
  { ChanRec.reset with
    state := r.state, assigned := r.assigned, pending := r.pending, ret := r.ret, darkFrom := r.darkFrom
    heldCause := r.heldCause }
@[simp] theorem seat_state (r : ChanRec) : r.seat.state = r.state := rfl
@[simp] theorem seat_assigned (r : ChanRec) : r.seat.assigned = r.assigned := rfl
@[simp] theorem seat_pending (r : ChanRec) : r.seat.pending = r.pending := rfl
@[simp] theorem seat_ret (r : ChanRec) : r.seat.ret = r.ret := rfl
@[simp] theorem seat_darkFrom (r : ChanRec) : r.seat.darkFrom = r.darkFrom := rfl
@[simp] theorem seat_heldCause (r : ChanRec) : r.seat.heldCause = r.heldCause := rfl
@[simp] theorem seat_shaped (r : ChanRec) : r.seat.shaped = r.shaped := rfl
theorem occupied_seat (r : ChanRec) : r.seat.occupied = r.occupied := rfl
theorem occupied_of_seat_eq {r r' : ChanRec} (h : r'.seat = r.seat) : r'.occupied = r.occupied := by
  rw [← occupied_seat, h, occupied_seat]

/-- What a state says of one channel's move. -/
structure Place where
  seat : ChanRec
  entries : List Entry
  items : List Item
  moves : List MoveReq

def State.entriesAt (s : State) (c : Chan) : List Entry := s.table.filter fun e => e.chan = c
def State.itemsAt (s : State) (c : Chan) : List Item := s.backlog.filter fun i => i.chan = c
def State.movesAt (s : State) (c : Chan) : List MoveReq := s.engine.moveQ.filter fun m => m.chan = c
def State.place (s : State) (c : Chan) : Place := ⟨(s.chan c).seat, s.entriesAt c, s.itemsAt c, s.movesAt c⟩

@[simp] theorem place_seat (s : State) (c : Chan) : (s.place c).seat = (s.chan c).seat := rfl
@[simp] theorem place_entries (s : State) (c : Chan) : (s.place c).entries = s.entriesAt c := rfl
@[simp] theorem place_items (s : State) (c : Chan) : (s.place c).items = s.itemsAt c := rfl
@[simp] theorem place_moves (s : State) (c : Chan) : (s.place c).moves = s.movesAt c := rfl

/-- An entry stands with the seat of its channel (R137, R142, R143). -/
def Place.stands (p : Place) (e : Entry) : Bool :=
  match e.state with
  | .searching => (e.origin = .auto || e.origin = .ret) && (p.seat.state = .active || p.seat.state = .held)
  | .proposed | .sent | .locking =>
    p.seat.state = .moving && p.seat.pending = e.target
    && (decide (e.origin ≠ .auto ∧ e.origin ≠ .ret) || p.seat.ret = some .active)

/-- One channel's part of the invariants: one entry or item at most, a record of its shape, an entry that stands, an owner
for a move, a searching entry for a MOVE request. -/
structure Place.Sound (p : Place) : Prop where
  one : p.entries.length + p.items.length ≤ 1
  asks : p.moves.length ≤ 1
  shaped : p.seat.shaped = true
  stand : ∀ e ∈ p.entries, p.stands e = true
  owned : p.seat.state = .moving → (∃ e ∈ p.entries, e.state ≠ .searching) ∨ ∃ i ∈ p.items, i.want = .push
  searching : p.moves ≠ [] → ∃ e ∈ p.entries, e.state = .searching

/-- `Placed` without the standing of the items, which the close of each change brings about (R140). -/
def Sound (s : State) : Prop := (∀ c, (s.place c).Sound) ∧ s.proposedCount ≤ 8

/-! ## The invariants, read channel by channel -/

theorem length_filter_eq_count {α : Type} (f : α → Chan) (xs : List α) (c : Chan) :
    (xs.filter fun x => decide (f x = c)).length = (xs.map f).count c := by
  rw [List.count, List.countP_map, List.countP_eq_length_filter]
  rfl
theorem nodup_map_iff {α : Type} (f : α → Chan) (xs : List α) :
    (xs.map f).Nodup ↔ ∀ c, (xs.filter fun x => decide (f x = c)).length ≤ 1 := by
  simp only [List.nodup_iff_count_le_one, length_filter_eq_count]
theorem mem_entriesAt {s : State} {c : Chan} {e : Entry} : e ∈ s.entriesAt c ↔ e ∈ s.table ∧ e.chan = c := by
  simp [State.entriesAt]
theorem mem_itemsAt {s : State} {c : Chan} {i : Item} : i ∈ s.itemsAt c ↔ i ∈ s.backlog ∧ i.chan = c := by
  simp [State.itemsAt]
theorem mem_movesAt {s : State} {c : Chan} {m : MoveReq} : m ∈ s.movesAt c ↔ m ∈ s.engine.moveQ ∧ m.chan = c := by
  simp [State.movesAt]
theorem find?_eq_head?_filter {α : Type} (p : α → Bool) (xs : List α) : xs.find? p = (xs.filter p).head? := by
  rw [List.head?_filter]
theorem entryOf_eq_head? (s : State) (c : Chan) : s.entryOf c = (s.entriesAt c).head? := find?_eq_head?_filter _ _
theorem itemOf_eq_head? (s : State) (c : Chan) : s.itemOf c = (s.itemsAt c).head? := find?_eq_head?_filter _ _
theorem entryOf_eq_none_iff (s : State) (c : Chan) : s.entryOf c = none ↔ s.entriesAt c = [] := by
  rw [entryOf_eq_head?, List.head?_eq_none_iff]
theorem itemOf_eq_none_iff (s : State) (c : Chan) : s.itemOf c = none ↔ s.itemsAt c = [] := by
  rw [itemOf_eq_head?, List.head?_eq_none_iff]

theorem unique_iff (s : State) :
    Unique s ↔ (∀ c, (s.entriesAt c).length + (s.itemsAt c).length ≤ 1) ∧ s.proposedCount ≤ 8 := by
  unfold Unique
  rw [nodup_map_iff, nodup_map_iff]
  constructor
  · rintro ⟨hentries, hitems, hboth, hcount⟩
    refine ⟨fun c => ?_, hcount⟩
    have he : (s.entriesAt c).length ≤ 1 := hentries c
    have hi : (s.itemsAt c).length ≤ 1 := hitems c
    cases hx : s.itemsAt c with
    | nil => simpa using he
    | cons i is =>
      obtain ⟨hmem, rfl⟩ := mem_itemsAt.mp (hx ▸ List.mem_cons_self : i ∈ s.itemsAt c)
      have hnil := (entryOf_eq_none_iff s i.chan).mp (hboth i hmem)
      rw [← hx, hnil]; simpa using hi
  · rintro ⟨hone, hcount⟩
    refine ⟨fun c => ?_, fun c => ?_, fun i hi => ?_, hcount⟩
    · exact le_trans (Nat.le_add_right _ _) (hone c)
    · exact le_trans (Nat.le_add_left _ _) (hone c)
    · have hpos := List.length_pos_of_mem (mem_itemsAt.mpr ⟨hi, rfl⟩ : i ∈ s.itemsAt i.chan)
      have hnil : (s.entriesAt i.chan).length = 0 := by have := hone i.chan; omega
      rw [entryOf_eq_none_iff]; exact List.length_eq_zero_iff.mp hnil

theorem owned_iff (s : State) (c : Chan) : s.owned c = true ↔
    (∃ e ∈ s.entriesAt c, e.state ≠ .searching) ∨ ∃ i ∈ s.itemsAt c, i.want = .push := by
  simp only [State.owned, Bool.or_eq_true, List.any_eq_true, Bool.and_eq_true, decide_eq_true_eq, mem_entriesAt,
    mem_itemsAt, and_assoc]
theorem stands_place (s : State) (e : Entry) : (s.place e.chan).stands e = s.entryStands e := rfl

theorem placed_iff (s : State) : Placed s ↔ Sound s ∧ ∀ i ∈ s.backlog, s.itemStands i = true := by
  unfold Placed Sound
  rw [unique_iff, nodup_map_iff]
  constructor
  · rintro ⟨⟨hone, hcount⟩, hshaped, hstand, hitems, howned, hasks, hsearch⟩
    refine ⟨⟨fun c => ⟨hone c, hasks c, hshaped c, fun e he => ?_, fun hm => (owned_iff s c).mp (howned c hm),
      fun hne => ?_⟩, hcount⟩, hitems⟩
    · obtain ⟨hmem, rfl⟩ := mem_entriesAt.mp he
      exact hstand e hmem
    · obtain ⟨m, hm⟩ := List.exists_mem_of_ne_nil _ hne
      obtain ⟨hmem, rfl⟩ := mem_movesAt.mp hm
      obtain ⟨e, he, hc, hs⟩ := hsearch m hmem
      exact ⟨e, mem_entriesAt.mpr ⟨he, hc⟩, hs⟩
  · rintro ⟨⟨hplace, hcount⟩, hitems⟩
    refine ⟨⟨fun c => (hplace c).one, hcount⟩, fun c => (hplace c).shaped,
      fun e he => (hplace e.chan).stand e (mem_entriesAt.mpr ⟨he, rfl⟩), hitems,
      fun c hm => (owned_iff s c).mpr ((hplace c).owned hm), fun c => (hplace c).asks, fun m hm => ?_⟩
    obtain ⟨e, he, hs⟩ := (hplace m.chan).searching (List.ne_nil_of_mem (mem_movesAt.mpr ⟨hm, rfl⟩))
    obtain ⟨hmem, hc⟩ := mem_entriesAt.mp he
    exact ⟨e, hmem, hc, hs⟩

theorem Sound.unique {s : State} (h : Sound s) : Unique s := (unique_iff s).mpr ⟨fun c => (h.1 c).one, h.2⟩
theorem Placed.sound {s : State} (h : Placed s) : Sound s := ((placed_iff s).mp h).1

/-- Of a sound channel with an entry, it is the only one, and there is no item. -/
theorem Sound.entriesAt_eq {s : State} (h : Sound s) {c : Chan} {e : Entry} (he : s.entryOf c = some e) :
    s.entriesAt c = [e] ∧ s.itemsAt c = [] := by
  have hone : (s.entriesAt c).length + (s.itemsAt c).length ≤ 1 := (h.1 c).one
  rw [entryOf_eq_head?] at he
  cases hx : s.entriesAt c with
  | nil => rw [hx] at he; cases he
  | cons x xs =>
    rw [hx, List.length_cons] at hone
    rw [hx] at he
    obtain rfl : x = e := Option.some.inj he
    exact ⟨by rw [List.length_eq_zero_iff.mp (by omega : xs.length = 0)], List.length_eq_zero_iff.mp (by omega)⟩

/-- A change of one channel's place keeps the rest sound. -/
theorem Sound.of_local {s t : State} (h : Sound s) (hu : Unique s → Unique t) (c : Chan)
    (hother : ∀ d, d ≠ c → t.place d = s.place d) (hc : (t.place c).Sound) : Sound t := by
  refine ⟨fun d => ?_, (hu h.unique).2.2.2⟩
  by_cases e : d = c
  · rw [e]; exact hc
  · rw [hother d e]; exact h.1 d
theorem Sound.of_same {s t : State} (h : Sound s) (hu : Unique s → Unique t) (hsame : ∀ c, t.place c = s.place c) :
    Sound t := ⟨fun c => by rw [hsame]; exact h.1 c, (hu h.unique).2.2.2⟩

/-! ## What the updates of State do to the places -/

theorem place_congr {s t : State} (hchans : t.chans = s.chans) (htable : t.table = s.table)
    (hbacklog : t.backlog = s.backlog) (hmoves : t.engine.moveQ = s.engine.moveQ) (d : Chan) : t.place d = s.place d := by
  simp only [State.place, State.chan, State.entriesAt, State.itemsAt, State.movesAt, hchans, htable, hbacklog, hmoves]
theorem place_setChan (s : State) (c : Chan) (r : ChanRec) (d : Chan) :
    (s.setChan c r).place d = if d = c then { s.place d with seat := r.seat } else s.place d := by
  split
  next e => subst e; simp only [State.place, chan_setChan_same]; rfl
  next e => simp only [State.place, chan_setChan_other s r e]; rfl
theorem place_modChan (s : State) (c : Chan) (f : ChanRec → ChanRec) (d : Chan) :
    (s.modChan c f).place d = if d = c then { s.place d with seat := (f (s.chan c)).seat } else s.place d :=
  place_setChan s c _ d
/-- A change of a record outside its seat is none of a place. -/
theorem place_setChan_of_seat {s : State} {c : Chan} {r : ChanRec} (h : r.seat = (s.chan c).seat) (d : Chan) :
    (s.setChan c r).place d = s.place d := by
  rw [place_setChan]
  split
  next e => subst e; rw [h]; rfl
  · rfl

theorem filter_map_replace (xs : List Entry) (e : Entry) (d : Chan) :
    (xs.map fun x => if x.chan = e.chan then e else x).filter (fun x => x.chan = d) =
      if d = e.chan then (xs.filter fun x => x.chan = d).map (fun _ => e) else xs.filter fun x => x.chan = d := by
  induction xs with
  | nil => simp
  | cons x xs ih =>
    rw [List.map_cons]
    by_cases hx : x.chan = e.chan
    · by_cases hd : d = e.chan
      · subst hd; simp_all
      · have hne : e.chan ≠ d := fun h => hd h.symm
        simp_all
    · by_cases hd : d = e.chan
      · subst hd; simp_all
      · by_cases hxd : x.chan = d <;> simp_all
theorem filter_ne_filter_eq {α : Type} (f : α → Chan) (xs : List α) (c d : Chan) :
    (xs.filter fun x => decide (f x ≠ c)).filter (fun x => decide (f x = d)) =
      if d = c then [] else xs.filter fun x => decide (f x = d) := by
  rw [List.filter_filter]
  split
  next h => subst h; simp
  next h =>
    refine List.filter_congr fun x _ => ?_
    by_cases hx : f x = d
    · simp [hx, h]
    · simp [hx]
theorem filter_append_eq {α : Type} (f : α → Chan) (xs : List α) (y : α) (d : Chan) :
    (xs ++ [y]).filter (fun x => decide (f x = d)) =
      if d = f y then xs.filter (fun x => decide (f x = d)) ++ [y] else xs.filter fun x => decide (f x = d) := by
  rw [List.filter_append]
  by_cases h : f y = d
  · simp [h]
  · simp [h, Ne.symm h]

theorem place_putEntry (s : State) (e : Entry) (d : Chan) : (s.putEntry e).place d =
    if d = e.chan then { s.place d with entries := (s.entriesAt d).map fun _ => e } else s.place d := by
  have h : (s.putEntry e).entriesAt d = _ := filter_map_replace s.table e d
  simp only [State.place, h]
  split <;> rfl
theorem place_dropEntry (s : State) (c d : Chan) :
    (s.dropEntry c).place d = if d = c then { s.place d with entries := [] } else s.place d := by
  have h : (s.dropEntry c).entriesAt d = _ := filter_ne_filter_eq Entry.chan s.table c d
  simp only [State.place, h]
  split <;> rfl
theorem place_addEntry (s : State) (e : Entry) (d : Chan) : (addEntry e s).place d =
    if d = e.chan then { s.place d with entries := s.entriesAt d ++ [e] } else s.place d := by
  have h : (addEntry e s).entriesAt d = _ := filter_append_eq Entry.chan s.table e d
  simp only [State.place, h]
  split <;> rfl
theorem place_dropItem (s : State) (c d : Chan) :
    (s.dropItem c).place d = if d = c then { s.place d with items := [] } else s.place d := by
  have h : (s.dropItem c).itemsAt d = _ := filter_ne_filter_eq Item.chan s.backlog c d
  simp only [State.place, h]
  split <;> rfl
theorem place_joinBacklog (s : State) (i : Item) (d : Chan) : (joinBacklog i s).place d =
    if d = i.chan then { s.place d with items := s.itemsAt d ++ [i] } else s.place d := by
  have h : (joinBacklog i s).itemsAt d = _ := filter_append_eq Item.chan s.backlog i d
  simp only [State.place, h]
  split <;> rfl
theorem place_joinMove (s : State) (m : MoveReq) (d : Chan) : (joinMove m s).place d =
    if d = m.chan then { s.place d with moves := s.movesAt d ++ [m] } else s.place d := by
  have h : (joinMove m s).movesAt d = _ := filter_append_eq MoveReq.chan s.engine.moveQ m d
  simp only [State.place, h]
  split <;> rfl
theorem place_leaveHead_move {s : State} {m : MoveReq} (hm : s.head .move = some (.move m)) (d : Chan) :
    (leaveHead .move s).place d = if d = m.chan then { s.place d with moves := (s.movesAt d).tail } else s.place d := by
  obtain ⟨x, hx, hxm⟩ := Option.map_eq_some_iff.mp hm
  obtain rfl : x = m := by injection hxm
  cases hq : s.engine.moveQ with
  | nil => rw [hq] at hx; cases hx
  | cons y ys =>
    rw [hq] at hx
    obtain rfl : y = x := Option.some.inj hx
    have h : (leaveHead .move s).movesAt d = if d = y.chan then (s.movesAt d).tail else s.movesAt d := by
      simp only [State.movesAt, leaveHead, hq, List.tail_cons]
      by_cases e : y.chan = d
      · simp [e]
      · simp [e, Ne.symm e]
    simp only [State.place, h]
    split <;> rfl

@[simp] theorem place_setCap (s : State) (c : Chan) (e : Option Cap) (d : Chan) : (s.setCap c e).place d = s.place d := rfl
@[simp] theorem place_setStaged (s : State) (c : Chan) (e : Staged) (d : Chan) : (s.setStaged c e).place d = s.place d := rfl
@[simp] theorem place_setPool (s : State) (g : Group) (p : List PoolEntry) (d : Chan) :
    (s.setPool g p).place d = s.place d := rfl
@[simp] theorem place_setCommit (s : State) (z : Stage) (v : CommitState) (d : Chan) :
    (s.setCommit z v).place d = s.place d := rfl
@[simp] theorem place_setService (s : State) (v : Option Service) (d : Chan) : (s.setService v).place d = s.place d := rfl
@[simp] theorem place_dropNote (s : State) (c d : Chan) : (s.dropNote c).place d = s.place d := rfl
@[simp] theorem place_bumpStage (z : Stage) (k : Ctr) (s : State) (d : Chan) : (bumpStage z k s).place d = s.place d := rfl
@[simp] theorem place_bumpTrunk (s : State) (d : Chan) : (bumpTrunk s).place d = s.place d := rfl
@[simp] theorem place_setLatch (i : Fin 16) (s : State) (d : Chan) : (setLatch i s).place d = s.place d := rfl
@[simp] theorem place_setPort (s : State) (p : Port) (x : PortState) (d : Chan) : (s.setPort p x).place d = s.place d := by
  cases p <;> rfl
@[simp] theorem place_handTo (p : Port) (f : Frame) (s : State) (d : Chan) : (handTo p f s).place d = s.place d :=
  place_congr (handTo_chans ..) (handTo_table ..) (handTo_backlog ..) (by rw [handTo_engine]) d
@[simp] theorem place_originate (a : Addr) (k : Byte) (p : List Byte) (s : State) (d : Chan) :
    (originate a k p s).place d = s.place d :=
  place_congr (originate_chans ..) (originate_table ..) (originate_backlog ..) (by rw [originate_engine]) d
@[simp] theorem place_notifyChan (k : NoticeKind) (c : Chan) (b : List Byte) (s : State) (d : Chan) :
    (notifyChan k c b s).place d = s.place d :=
  place_congr (notifyChan_chans ..) (notifyChan_table ..) (notifyChan_backlog ..) (by rw [notifyChan_engine]) d
@[simp] theorem place_reflag (c : Chan) (s : State) (d : Chan) : (reflag c s).place d = s.place d :=
  place_setChan_of_seat (r := { s.chan c with exclConflict := (s.conflictOf c).isSome }) rfl d
@[simp] theorem place_demotePools (g : Group) (s : State) (d : Chan) : (demotePools g s).place d = s.place d := by
  rw [demotePools_changes_pools]; rfl
@[simp] theorem place_bumpGen (g : Group) (s : State) (d : Chan) : (bumpGen g s).place d = s.place d := by
  rw [bumpGen, place_demotePools]; rfl
@[simp] theorem place_unpool (g : Group) (f : Nat) (s : State) (d : Chan) : (unpool g f s).place d = s.place d := rfl
@[simp] theorem place_appendPool (g : Group) (f : Nat) (x : PoolState) (l : Option Nat) (s : State) (d : Chan) :
    (appendPool g f x l s).place d = s.place d := by
  rw [appendPool_changes_pools]; rfl
@[simp] theorem place_markEntry (g : Group) (f : Nat) (b : Bool) (s : State) (d : Chan) :
    (markEntry g f b s).place d = s.place d := rfl

/-! ## What the updates of State do to the channels they do not name -/

theorem bumpGen_chans (g : Group) (s : State) : (bumpGen g s).chans = s.chans := by
  rw [bumpGen, demotePools_changes_pools]
theorem bumpGen_table (g : Group) (s : State) : (bumpGen g s).table = s.table := by
  rw [bumpGen, demotePools_changes_pools]

/-! ## Reservation, completion and release -/

theorem seat_reserve (t : Nat) (r : ChanRec) : (ChanRec.reserve t r).seat =
    { r.seat with pending := some t, ret := r.state.resting, state := .moving } := rfl
theorem place_reserve (s : State) (c : Chan) (t : Nat) (d : Chan) : (reserve c t s).place d =
    if d = c then { s.place d with seat := ((s.chan c).reserve t).seat, items := [] } else s.place d := by
  simp only [reserve, place_reflag, place_unpool, place_bumpGen, place_dropNote, place_dropItem, place_modChan]
  split
  next e => subst e; simp
  · rfl
theorem place_release (s : State) (c d : Chan) : (release c s).place d =
    if d = c then { s.place d with seat := (s.chan c).release.seat } else s.place d := by
  rw [release, place_reflag, place_modChan]
theorem place_complete (s : State) (c : Chan) (t : Nat) (b : Bool) (d : Chan) : (complete c t b s).place d =
    if d = c then { s.place d with seat := ((s.chan c).complete t b).seat } else s.place d := by
  rw [complete, place_reflag, place_modChan]
theorem place_adopt (s : State) (c : Chan) (f : Nat) (k : AdoptKind) (d : Chan) : (adopt c f k s).place d =
    if d = c then { s.place d with
      seat := ((s.chan c).adopt f (s.freshWatch (s.chan c).profile) k).seat, items := [] } else s.place d := by
  simp only [adopt, place_reflag, place_unpool, place_bumpGen, place_dropItem, place_modChan]
  split
  next e => subst e; simp
  · rfl

end Sys2Proof.Machine
end

section
/-! What every operation keeps, said once as a relation of two states that composes: the queue of commands, the clock's
direction, the settings, and the bounds and shapes that need no owner of a move (R3, R16, R21, R41, R46, R98, R120, R137). -/

namespace Sys2Proof.Machine

/-! ## Records -/

/-- Every persistence lies in 1 to 8 (R98). -/
def ProfilesOk (ps : Vector Profile 8) : Prop :=
  ∀ n : Fin 8, 1 ≤ ps[n].level1.persistence ∧ ps[n].level1.persistence ≤ 8
    ∧ 1 ≤ ps[n].level2.persistence ∧ ps[n].level2.persistence ≤ 8
/-- The record's part of `Watched`. -/
def ChanRec.WatchOk (ps : Vector Profile 8) (r : ChanRec) : Prop :=
  r.watch.run1 ≤ 8 ∧ r.watch.run2 ≤ 8 ∧ ((r.state = .unused ∨ r.state = .parked ∨ r.state = .dark) → r.watch.st = .off)
  ∧ ∀ n, r.profile = some n → r.watch.below ps[n] = true
theorem watched_iff (s : State) : Watched s ↔ ProfilesOk s.profiles ∧ ∀ c, (s.chan c).WatchOk s.profiles := Iff.rfl

/-- A record keeps the bounds of its history and its move count, and the runs of its watch. -/
structure ChanRec.Fair (ps : Vector Profile 8) (r r' : ChanRec) : Prop where
  history : r.history.length ≤ 3 → r'.history.length ≤ 3
  moveCount : r.moveCount ≤ 255 → r'.moveCount ≤ 255
  watch : ProfilesOk ps → r.WatchOk ps → r'.WatchOk ps

theorem fair_refl (ps : Vector Profile 8) (r : ChanRec) : r.Fair ps r := ⟨id, id, fun _ => id⟩
theorem ChanRec.Fair.trans {ps : Vector Profile 8} {a b c : ChanRec} (h : a.Fair ps b) (g : b.Fair ps c) : a.Fair ps c :=
  ⟨fun x => g.1 (h.1 x), fun x => g.2 (h.2 x), fun p x => g.3 p (h.3 p x)⟩

/-! ## The relation -/

/-- One stage's part of `Linked` (R163, R164, R171). -/
def LinkedAt (z : Stage) (s : State) : Prop := s.commits[z] ≠ .idle → (s.port (.stage z)).up = true
/-- What every operation keeps. `k`: the pools stay clean whatever the places of the moves are. `q`: the queues stay within
R46 whatever the commits are. -/
structure Sane (q k : Bool) (s t : State) : Prop where
  pending : t.pending = s.pending
  now : s.now ≤ t.now
  settings : t.settings = s.settings
  bounded : Bounded s → Bounded t
  fits : Fits s → Fits t
  unique : Unique s → Unique t
  linked : ∀ z, LinkedAt z s → LinkedAt z t
  watched : Watched s → Watched t
  clean : k = true → PoolsClean s → PoolsClean t
  queued : q = true → Queued s → Queued t

variable {q k : Bool}

theorem Sane.refl (s : State) : Sane q k s s := ⟨rfl, le_rfl, rfl, id, id, id, fun _ => id, id, fun _ => id, fun _ => id⟩
theorem Sane.trans {s t u : State} (h : Sane q k s t) (g : Sane q k t u) : Sane q k s u where
  pending := g.pending.trans h.pending
  now := h.now.trans g.now
  settings := g.settings.trans h.settings
  bounded := fun x => g.bounded (h.bounded x)
  fits := fun x => g.fits (h.fits x)
  unique := fun x => g.unique (h.unique x)
  linked := fun z x => g.linked z (h.linked z x)
  watched := fun x => g.watched (h.watched x)
  clean := fun e x => g.clean e (h.clean e x)
  queued := fun e x => g.queued e (h.queued e x)
theorem Sane.weaken {q' k' : Bool} {s t : State} (h : Sane q k s t) (hq : q' = true → q = true) (hk : k' = true → k = true) :
    Sane q' k' s t := { h with clean := fun e => h.clean (hk e), queued := fun e => h.queued (hq e) }
theorem Sane.allLinked {s t : State} (h : Sane q k s t) (hl : Linked s) : Linked t := fun z => h.linked z (hl z)
theorem Sane.withClean {s t : State} (h : Sane q false s t) (hc : PoolsClean s → PoolsClean t) : Sane q k s t :=
  { h with clean := fun _ => hc }
theorem Sane.withQueued {s t : State} (h : Sane false k s t) (hq : Queued s → Queued t) : Sane q k s t :=
  { h with queued := fun _ => hq }
theorem sane_ite {p : Prop} [Decidable p] {s t u : State} (ht : p → Sane q k s t) (hu : ¬ p → Sane q k s u) :
    Sane q k s (if p then t else u) := by
  split
  next h => exact ht h
  next h => exact hu h
theorem sane_foldl {α : Type} {f : State → α → State} (h : ∀ s a, Sane q k s (f s a)) (xs : List α) (s : State) :
    Sane q k s (xs.foldl f s) := by
  induction xs generalizing s with
  | nil => exact Sane.refl s
  | cons x xs ih => exact (h s x).trans (ih _)

/-! ## Updates that no promise speaks of -/

section
variable (s : State)

theorem sane_latches (v : Vector Bool 16) : Sane q k s { s with latches := v } :=
  ⟨rfl, le_rfl, rfl, id, id, id, fun _ => id, id, fun _ => id, fun _ => id⟩
theorem sane_freeCount (n : Nat) : Sane q k s { s with freeCount := n } :=
  ⟨rfl, le_rfl, rfl, id, id, id, fun _ => id, id, fun _ => id, fun _ => id⟩
theorem sane_caps (v : Vector (Option Cap) 192) : Sane q k s { s with caps := v } :=
  ⟨rfl, le_rfl, rfl, id, id, id, fun _ => id, id, fun _ => id, fun _ => id⟩
theorem sane_surveys (v : Vector (Option Survey) 6) : Sane q k s { s with surveys := v } :=
  ⟨rfl, le_rfl, rfl, id, id, id, fun _ => id, id, fun _ => id, fun _ => id⟩
theorem sane_staging (v : Vector Staged 192) : Sane q k s { s with staging := v } :=
  ⟨rfl, le_rfl, rfl, id, id, id, fun _ => id, id, fun _ => id, fun _ => id⟩
theorem sane_arm (v : Vector Bool 6) : Sane q k s { s with arm := v } :=
  ⟨rfl, le_rfl, rfl, id, id, id, fun _ => id, id, fun _ => id, fun _ => id⟩
theorem sane_notes (v : List TrackNote) : Sane q k s { s with notes := v } :=
  ⟨rfl, le_rfl, rfl, id, id, id, fun _ => id, id, fun _ => id, fun _ => id⟩
theorem sane_rules (r : Rules) : Sane q k s
    { s with spacing := r.spacing, settlePeriod := r.settle, proposalTimeout := r.proposal, opts := r.opts } :=
  ⟨rfl, le_rfl, rfl, id, id, id, fun _ => id, id, fun _ => id, fun _ => id⟩
theorem sane_setService (v : Option Service) : Sane q k s (s.setService v) :=
  ⟨rfl, le_rfl, rfl, id, id, id, fun _ => id, id, fun _ => id, fun _ => id⟩
theorem sane_joinMove (m : MoveReq) : Sane q k s (joinMove m s) :=
  ⟨rfl, le_rfl, rfl, id, id, id, fun _ => id, id, fun _ => id, fun _ => id⟩
theorem sane_moveQ (ms : List MoveReq) : Sane q k s { s with engine := { s.engine with moveQ := ms } } :=
  ⟨rfl, le_rfl, rfl, id, id, id, fun _ => id, id, fun _ => id, fun _ => id⟩
end

/-! ## Counters, generations and the clock -/

section
variable (s : State)

theorem bounded_bump {c : StageCounters} (h : c.bounded = true) (k : Ctr) : (c.bump k).bounded = true := by
  cases k <;> simp_all [StageCounters.bounded, StageCounters.bump, satInc_le]
theorem sane_bumpStage (z : Stage) (x : Ctr) : Sane q k s (bumpStage z x s) := by
  refine ⟨rfl, le_rfl, rfl, fun h => ?_, id, id, fun _ => id, id, fun _ => id, fun _ => id⟩
  obtain ⟨hcounters, hrest⟩ := h
  refine ⟨fun y => ?_, hrest⟩
  by_cases e : z.val = y.val
  · simp only [bumpStage, Fin.getElem_fin, ← e, Vector.getElem_set_self]
    exact bounded_bump (hcounters z) x
  · simpa only [bumpStage, Fin.getElem_fin, Vector.getElem_set_ne _ _ e] using hcounters y
theorem sane_bumpTrunk : Sane q k s (bumpTrunk s) :=
  ⟨rfl, le_rfl, rfl, fun ⟨h1, _, h3⟩ => ⟨h1, satInc_le _, h3⟩, id, id, fun _ => id, id, fun _ => id, fun _ => id⟩
theorem sane_countDiscard (p : Port) (x : Ctr) : Sane q k s (countDiscard p x s) := by
  cases p with
  | trunk => exact sane_bumpTrunk s
  | stage z => exact sane_bumpStage s z x
theorem bounded_zero (z : Stage) : ((Vector.replicate 6 StageCounters.zero)[z]).bounded = true := by
  simp [StageCounters.zero, StageCounters.bounded]
theorem sane_zeroCounters : Sane q k s (zeroCounters s) :=
  ⟨rfl, le_rfl, rfl, fun ⟨_, _, _, h⟩ => ⟨bounded_zero, Nat.zero_le _, Nat.zero_le _, h⟩, id, id, fun _ => id, id, fun _ => id,
    fun _ => id⟩
theorem sane_originSeq : Sane q k s { s with originSeq := (s.originSeq + 1) % 256 } :=
  ⟨rfl, le_rfl, rfl, fun ⟨h1, h2, h3, h4, _, h6⟩ => ⟨h1, h2, h3, h4, Nat.mod_lt _ (by decide), h6⟩, id, id, fun _ => id, id,
    fun _ => id, fun _ => id⟩
theorem sane_gens (g : Group) : Sane q k s { s with gens := s.gens.set g ((s.gens[g] + 1) % 65536) } := by
  refine ⟨rfl, le_rfl, rfl, fun h => ?_, id, id, fun _ => id, id, fun _ => id, fun _ => id⟩
  obtain ⟨h1, h2, h3, hgens, h5⟩ := h
  refine ⟨h1, h2, h3, fun y => ?_, h5⟩
  by_cases e : g.val = y.val
  · simp only [Fin.getElem_fin, ← e, Vector.getElem_set_self]
    exact Nat.mod_lt _ (by decide)
  · simpa only [Fin.getElem_fin, Vector.getElem_set_ne _ _ e] using hgens y
theorem linked_of_up {s t : State} (hc : t.commits = s.commits)
    (hup : ∀ z : Stage, (s.port (.stage z)).up = true → (t.port (.stage z)).up = true) (z : Stage) (h : LinkedAt z s) :
    LinkedAt z t := fun hz => hup z (h (by rwa [hc] at hz))
theorem sane_setPort {p : Port} {x : PortState} (h : ∀ z, p = .stage z → (s.port p).up = true → x.up = true) :
    Sane q k s (s.setPort p x) := by
  cases p with
  | trunk => exact ⟨rfl, le_rfl, rfl, id, id, id, fun _ => id, id, fun _ => id, fun _ => id⟩
  | stage z =>
    refine ⟨rfl, le_rfl, rfl, id, id, id, linked_of_up rfl fun y hy => ?_, id, fun _ => id, fun _ => id⟩
    by_cases e : Port.stage y = .stage z
    · rw [e, port_setPort_same]
      exact h z rfl (by rwa [e] at hy)
    · rw [port_setPort_other _ _ e]; exact hy
theorem sane_passTime (dt : Nat) : Sane q k s (passTime dt s) := by
  have hup : ∀ z, LinkedAt z s → LinkedAt z (passTime dt s) :=
    linked_of_up (passTime_commits dt s) fun z hz => (passTime_up dt (.stage z) s).trans hz
  unfold passTime at hup ⊢
  split at hup
  next h => rw [if_pos h]; exact Sane.refl s
  next h =>
    rw [if_neg h]
    exact ⟨rfl, Nat.le_add_right _ _, rfl, id, id, id, hup, id, fun _ => id, fun _ => id⟩
end

/-! ## Frames, replies and notices -/

section
variable (s : State)

theorem sane_handTo (p : Port) (f : Frame) : Sane q k s (handTo p f s) := by
  unfold handTo
  split
  next up => exact sane_setPort s fun _ _ _ => up
  next => cases p with
    | trunk => exact sane_bumpTrunk s
    | stage z => exact Sane.refl s
theorem sane_route (f : Frame) : Sane q k s (route f s) := by
  unfold route
  split
  · exact sane_handTo s _ f
  · exact Sane.refl s
theorem sane_originate (a : Addr) (x : Byte) (b : List Byte) : Sane q k s (originate a x b s) :=
  (sane_originSeq s).trans (sane_route _ _)
theorem sane_setLatch (i : Fin 16) : Sane q k s (setLatch i s) := sane_latches s _
theorem sane_notify (x : NoticeKind) (st sl : Nat) (b : List Byte) : Sane q k s (notify x st sl b s) := by
  unfold notify
  dsimp only
  split
  · exact (sane_setLatch s _).trans (sane_originate _ _ _ _)
  · exact sane_setLatch s _
theorem sane_notifyChan (x : NoticeKind) (c : Chan) (b : List Byte) : Sane q k s (notifyChan x c b s) :=
  sane_notify s _ _ _ _
theorem sane_reply (h : ReqHdr) (code : Nat) (st : Status) (x : Nat) (b : List Byte) : Sane q k s (reply h code st x b s) :=
  sane_route s _
theorem sane_refuse (h : ReqHdr) (code : Nat) (st : Status) : Sane q k s (refuse h code st s) := sane_route s _
end

/-! ## Pools -/

theorem poolsClean_of {s t : State}
    (hfreqs : ∀ g, ((s.pool g).map (·.freq)).Nodup → ((t.pool g).map (·.freq)).Nodup)
    (hocc : ∀ g, ∀ e ∈ t.pool g, t.occupiedIn g e.freq = true → ∃ e' ∈ s.pool g, s.occupiedIn g e'.freq = true)
    (h : PoolsClean s) : PoolsClean t := by
  refine fun g => ⟨hfreqs g (h g).1, fun e he => ?_⟩
  cases ho : t.occupiedIn g e.freq with
  | false => rfl
  | true =>
    obtain ⟨e', he', ho'⟩ := hocc g e he ho
    rw [(h g).2 e' he'] at ho'; cases ho'

theorem fits_setPool {s : State} {g : Group} {p : List PoolEntry} (hlen : (s.pool g).length ≤ 16 → p.length ≤ 16)
    (h : Fits s) : Fits (s.setPool g p) := by
  obtain ⟨h1, h2, h3, h4, h5, h6, hpools⟩ := h
  refine ⟨h1, h2, h3, h4, h5, h6, fun y => ?_⟩
  by_cases e : y = g
  · subst e; rw [pool_setPool_same]; exact hlen (hpools y)
  · rw [pool_setPool_other s p e]; exact hpools y
theorem sane_setPool {s : State} {g : Group} {p : List PoolEntry} (hlen : (s.pool g).length ≤ 16 → p.length ≤ 16)
    (hnodup : ((s.pool g).map (·.freq)).Nodup → (p.map (·.freq)).Nodup)
    (hocc : ∀ e ∈ p, (∃ e' ∈ s.pool g, e'.freq = e.freq) ∨ s.occupiedIn g e.freq = false) :
    Sane q k s (s.setPool g p) := by
  refine ⟨rfl, le_rfl, rfl, id, fits_setPool hlen, id, fun _ => id, id, fun _ => ?_, fun _ => id⟩
  refine fun h y => ?_
  by_cases e : y = g
  · subst e
    rw [pool_setPool_same]
    refine ⟨hnodup (h y).1, fun x hx => ?_⟩
    rcases hocc x hx with ⟨x', hx', hf⟩ | hfree
    · rw [← hf]; exact (h y).2 x' hx'
    · exact hfree
  · rw [pool_setPool_other s p e]; exact h y
/-- Entries that change beside their frequency, or leave, keep a pool. -/
theorem sane_filterPool (s : State) (g : Group) (p : PoolEntry → Bool) : Sane q k s (s.setPool g ((s.pool g).filter p)) :=
  sane_setPool (fun h => (List.length_filter_le _ _).trans h) (fun h => (List.filter_sublist.map _).nodup h)
    fun e he => .inl ⟨e, (List.mem_filter.mp he).1, rfl⟩
theorem sane_mapPool (s : State) (g : Group) {f : PoolEntry → PoolEntry} (hf : ∀ e, (f e).freq = e.freq) :
    Sane q k s (s.setPool g ((s.pool g).map f)) := by
  refine sane_setPool (fun h => by rwa [List.length_map]) (fun h => ?_) fun e he => ?_
  · rw [List.map_map]
    have hcomp : (fun e : PoolEntry => e.freq) ∘ f = fun e => e.freq := funext hf
    rwa [hcomp]
  · obtain ⟨x, hx, rfl⟩ := List.mem_map.mp he
    exact .inl ⟨x, hx, (hf x).symm⟩

theorem freq_demote (e : PoolEntry) : e.demote.freq = e.freq := by unfold PoolEntry.demote; split <;> rfl
section
variable (s : State)

theorem sane_demotePools (g : Group) : Sane q k s (demotePools g s) :=
  sane_foldl (fun s h => sane_mapPool s h freq_demote) _ s
theorem sane_bumpGen (g : Group) : Sane q k s (bumpGen g s) := (sane_gens s g).trans (sane_demotePools _ g)
theorem sane_unpool (g : Group) (f : Nat) : Sane q k s (unpool g f s) := sane_filterPool s g _
theorem sane_markEntry (g : Group) (f : Nat) (b : Bool) : Sane q k s (markEntry g f b s) :=
  sane_mapPool s g fun e => by split <;> rfl
theorem sane_blockEntry (g : Group) (f : Nat) : Sane q k s (blockEntry g f s) :=
  sane_mapPool s g fun e => by split <;> rfl
theorem sane_poolCheckDone (g : Group) (f : Nat) (r : Result) : Sane q k s (poolCheckDone g f r s) :=
  sane_mapPool s g fun e => by split <;> rfl
theorem freq_sweep (fl dw : Nat) (xs : List (Nat × Nat)) (e : PoolEntry) : (e.sweep fl dw xs).freq = e.freq := by
  simp only [PoolEntry.sweep, apply_ite PoolEntry.freq, ite_self]
theorem sane_sweepPool (g : Group) (xs : List (Nat × Nat)) : Sane q k s (sweepPool g xs s) :=
  sane_mapPool s g (freq_sweep _ _ xs)
/-- A frequency the pool does not hold and no channel of the group occupies is added at its end. -/
theorem sane_pushPool {s : State} {g : Group} {e : PoolEntry} (hroom : (s.pool g).length < 16)
    (hnew : ∀ x ∈ s.pool g, x.freq ≠ e.freq) (hfree : s.occupiedIn g e.freq = false) :
    Sane q k s (s.setPool g (s.pool g ++ [e])) := by
  refine sane_setPool (fun _ => by simpa using hroom) (fun h => ?_) fun x hx => ?_
  · rw [List.map_append]
    refine List.Nodup.append h (List.nodup_singleton _) ?_
    simp only [List.map_cons, List.map_nil, List.disjoint_singleton, List.mem_map, not_exists, not_and]
    exact fun x hx => hnew x hx
  · rcases List.mem_append.mp hx with hx | hx
    · exact .inl ⟨x, hx, rfl⟩
    · rw [List.mem_singleton.mp hx]; exact .inr hfree
theorem sane_appendPool (g : Group) (f : Nat) (x : PoolState) (l : Option Nat) : Sane q k s (appendPool g f x l s) := by
  unfold appendPool
  split
  next h =>
    simp only [Bool.and_eq_true, decide_eq_true_eq, Bool.not_eq_true', List.any_eq_false] at h
    obtain ⟨⟨hroom, hnew⟩, hfree⟩ := h
    exact sane_pushPool hroom hnew hfree
  · exact Sane.refl s
theorem sane_recycle (c : Chan) (v : Option Nat) (o : Origin) : Sane q k s (recycle c v o s) := by
  unfold recycle
  split
  · exact sane_ite (fun _ => sane_appendPool s _ _ _ _) fun _ => Sane.refl s
  · exact Sane.refl s
end

/-! ## The records, channel by channel -/

theorem length_allChans : allChans.length = 192 := by decide +kernel
theorem map_idx_allChans : allChans.map (fun c => c.idx.val) = List.range 192 := by decide +kernel
theorem mem_allChans (c : Chan) : c ∈ allChans := by
  simp only [allChans, stageChans, List.mem_flatMap, List.mem_map]
  exact ⟨c.stage, List.mem_finRange _, c.slot, List.mem_finRange _, rfl⟩
theorem mem_recs {s : State} {c : Chan} {r : ChanRec} : (c, r) ∈ s.recs ↔ r = s.chan c := by
  have hidx : ∀ (n : Nat) (h : n < allChans.length), allChans[n].idx.val = n := fun n h => by
    have hmap := List.getElem_map (fun c : Chan => c.idx.val) (l := allChans) (i := n) (h := by rwa [List.length_map])
    rw [← hmap]
    simp only [map_idx_allChans, List.getElem_range]
  constructor
  · intro h
    obtain ⟨n, hn, he⟩ := List.getElem_of_mem h
    simp only [State.recs, List.getElem_zip, Prod.mk.injEq, Vector.getElem_toList] at he
    obtain ⟨hc, hr⟩ := he
    have hlt : n < allChans.length := by
      simp only [State.recs, List.length_zip] at hn; omega
    have hn' : c.idx.val = n := by rw [← hc]; exact hidx n hlt
    rw [← hr]
    simp only [State.chan, Fin.getElem_fin, hn']
  · rintro rfl
    have hlt : c.idx.val < (allChans.zip s.chans.toList).length := by
      rw [List.length_zip, length_allChans, Vector.length_toList]; omega
    have h := List.getElem_mem hlt
    rw [List.getElem_zip] at h
    have hc : allChans[c.idx.val]'(by rw [length_allChans]; exact c.idx.isLt) = c :=
      Chan.idx_inj (Fin.ext (hidx _ _))
    rw [hc] at h
    exact h
theorem occupiedIn_iff {s : State} {g : Group} {f : Nat} :
    s.occupiedIn g f = true ↔ ∃ c, s.groupOf c = g ∧ f ∈ (s.chan c).occupied := by
  simp only [State.occupiedIn, List.any_eq_true, Bool.and_eq_true, decide_eq_true_eq, List.contains_iff_mem]
  constructor
  · rintro ⟨⟨c, r⟩, hmem, hg, hf⟩
    exact ⟨c, hg, mem_recs.mp hmem ▸ hf⟩
  · rintro ⟨c, hg, hf⟩
    exact ⟨(c, s.chan c), mem_recs.mpr rfl, hg, hf⟩
end Sys2Proof.Machine
end

section
/-! The updates of records, entries, items and queues, each with what must hold for it to keep the promises of `Sane`. -/

namespace Sys2Proof.Machine

variable {q k : Bool}

theorem noClean {p : Prop} (h : false = true) : p := nomatch h

/-! ## Records -/

theorem chan_setChan (s : State) (c : Chan) (r : ChanRec) (d : Chan) :
    (s.setChan c r).chan d = if d = c then r else s.chan d := by
  split
  next e => rw [e, chan_setChan_same]
  next e => exact chan_setChan_other s r e
theorem chan_modChan (s : State) (c : Chan) (f : ChanRec → ChanRec) (d : Chan) :
    (s.modChan c f).chan d = if d = c then f (s.chan c) else s.chan d := chan_setChan s c _ d

/-- What a channel occupies from now on it occupied before: the pools stay clean. -/
theorem poolsClean_of_occupied {s t : State} (hpools : t.pools = s.pools) (hcouple : t.couple = s.couple)
    (hocc : ∀ c, (t.chan c).occupied ⊆ (s.chan c).occupied) (h : PoolsClean s) : PoolsClean t := by
  have hpool : ∀ g, t.pool g = s.pool g := fun g => by rw [State.pool, hpools, State.pool]
  refine poolsClean_of (fun g => by rw [hpool]; exact id) (fun g e he ho => ?_) h
  obtain ⟨c, hg, hf⟩ := occupiedIn_iff.mp ho
  refine ⟨e, hpool g ▸ he, occupiedIn_iff.mpr ⟨c, ?_, hocc c hf⟩⟩
  rw [← hg, State.groupOf, State.groupOf, hcouple]

/-- Every record of a state changes fairly and occupies no more. -/
theorem sane_chans {s : State} {v : Vector ChanRec 192}
    (hfair : ∀ c, (s.chan c).Fair s.profiles (State.chan { s with chans := v } c))
    (hocc : k = true → ∀ c, (State.chan { s with chans := v } c).occupied ⊆ (s.chan c).occupied) :
    Sane q k s { s with chans := v } where
  pending := rfl
  now := le_rfl
  settings := rfl
  bounded := fun ⟨h1, h2, h3, h4, h5, h6⟩ =>
    ⟨h1, h2, h3, h4, h5, fun c => ⟨(hfair c).history (h6 c).1, (hfair c).moveCount (h6 c).2⟩⟩
  fits := id
  unique := id
  linked := fun _ => id
  watched := fun h => ⟨h.1, fun c => (hfair c).watch h.1 (h.2 c)⟩
  clean := fun hk => poolsClean_of_occupied (s := s) (t := { s with chans := v }) rfl rfl (hocc hk)
  queued := fun _ => id
theorem sane_setChan {s : State} {c : Chan} {r : ChanRec} (hfair : (s.chan c).Fair s.profiles r)
    (hocc : k = true → r.occupied ⊆ (s.chan c).occupied) : Sane q k s (s.setChan c r) := by
  refine sane_chans (fun d => ?_) fun hk d => ?_
  · change ChanRec.Fair _ _ ((s.setChan c r).chan d)
    rw [chan_setChan]; split
    next e => rw [e]; exact hfair
    · exact fair_refl _ _
  · change ((s.setChan c r).chan d).occupied ⊆ _
    rw [chan_setChan]; split
    next e => rw [e]; exact hocc hk
    · exact List.Subset.refl _
theorem sane_modChan {s : State} {c : Chan} {f : ChanRec → ChanRec} (hfair : (s.chan c).Fair s.profiles (f (s.chan c)))
    (hocc : k = true → (f (s.chan c)).occupied ⊆ (s.chan c).occupied) : Sane q k s (s.modChan c f) :=
  sane_setChan hfair hocc

/-! ## Fair changes of a record -/

section
variable {ps : Vector Profile 8} {r : ChanRec}

/-- Only what the bounds and the watch do not speak of has changed, or the watch is OFF. -/
theorem fair_off {r' : ChanRec} (hh : r'.history = r.history) (hm : r'.moveCount = r.moveCount)
    (hw : r'.watch = Watch.off) : r.Fair ps r' := by
  refine ⟨by rw [hh]; exact id, by rw [hm]; exact id, fun _ _ => ?_⟩
  unfold ChanRec.WatchOk
  rw [hw]
  exact ⟨Nat.zero_le _, Nat.zero_le _, fun _ => rfl, fun _ _ => rfl⟩
/-- The watch stands in a channel that is none of UNUSED, PARKED and DARK. -/
theorem fair_lit {r' : ChanRec} (hh : r.history.length ≤ 3 → r'.history.length ≤ 3)
    (hm : r.moveCount ≤ 255 → r'.moveCount ≤ 255) (hw : r'.watch = r.watch) (hp : r'.profile = r.profile)
    (hs : r'.state = .active ∨ r'.state = .held ∨ r'.state = .moving) : r.Fair ps r' := by
  refine ⟨hh, hm, fun _ ⟨h1, h2, _, h4⟩ => ?_⟩
  unfold ChanRec.WatchOk
  rw [hw, hp]
  refine ⟨h1, h2, fun hoff => ?_, h4⟩
  rcases hs with hs | hs | hs <;> simp [hs] at hoff
/-- State, watch and profile stand. -/
theorem fair_same {r' : ChanRec} (hh : r'.history = r.history) (hm : r'.moveCount = r.moveCount)
    (hw : r'.watch = r.watch) (hp : r'.profile = r.profile) (hs : r'.state = r.state) : r.Fair ps r' := by
  refine ⟨by rw [hh]; exact id, by rw [hm]; exact id, fun _ h => ?_⟩
  unfold ChanRec.WatchOk at h ⊢
  rwa [hw, hp, hs]
/-- A watch that has just been armed is below every persistence. -/
theorem armed_below (hps : ProfilesOk ps) (n : Fin 8) : Watch.armed.below ps[n] = true := by
  obtain ⟨h1, _, h2, _⟩ := hps n
  exact Bool.and_eq_true_iff.mpr ⟨decide_eq_true h1, decide_eq_true h2⟩
/-- A fresh watch in a channel that is none of UNUSED, PARKED and DARK. -/
theorem fair_armed {r' : ChanRec} (hh : r.history.length ≤ 3 → r'.history.length ≤ 3)
    (hm : r.moveCount ≤ 255 → r'.moveCount ≤ 255) (hw : r'.watch = Watch.armed ∨ r'.watch = Watch.off)
    (hs : r'.watch = Watch.armed → r'.state = .active ∨ r'.state = .held ∨ r'.state = .moving) : r.Fair ps r' := by
  refine ⟨hh, hm, fun hps _ => ?_⟩
  unfold ChanRec.WatchOk
  rcases hw with hw | hw
  · have hlit := hs hw
    rw [hw]
    refine ⟨Nat.zero_le _, Nat.zero_le _, fun hoff => ?_, fun n _ => armed_below hps n⟩
    rcases hlit with hs | hs | hs <;> simp [hs] at hoff
  · rw [hw]
    exact ⟨Nat.zero_le _, Nat.zero_le _, fun _ => rfl, fun _ _ => rfl⟩
theorem freshWatch_cases (s : State) (p : Option (Fin 8)) : s.freshWatch p = Watch.armed ∨ s.freshWatch p = Watch.off := by
  unfold State.freshWatch; split
  · exact .inl rfl
  · exact .inr rfl
theorem rewatch_cases (s : State) (r : ChanRec) : s.rewatch r = Watch.off ∨
    ((r.state = .active ∨ r.state = .held ∨ r.state = .moving) ∧ s.rewatch r = Watch.armed) := by
  unfold State.rewatch
  split
  next h => exact (freshWatch_cases s r.profile).symm.imp id fun e => ⟨h, e⟩
  · exact .inl rfl

theorem fair_forward (v : Option Nat) : r.history.length ≤ 3 → (r.forward v).history.length ≤ 3 := by
  intro h
  unfold ChanRec.forward
  split
  · exact h
  · dsimp only; split
    · exact (List.length_take_le _ _)
    · exact h
theorem forward_moveCount (v : Option Nat) : (r.forward v).moveCount = r.moveCount := by
  unfold ChanRec.forward; split <;> rfl
theorem forward_watch (v : Option Nat) : (r.forward v).watch = r.watch := by
  unfold ChanRec.forward; split <;> rfl
theorem forward_profile (v : Option Nat) : (r.forward v).profile = r.profile := by
  unfold ChanRec.forward; split <;> rfl

theorem fair_reserve (t : Nat) : r.Fair ps (r.reserve t) := by
  refine ⟨id, id, fun hps ⟨h1, h2, h3, h4⟩ => ?_⟩
  unfold ChanRec.WatchOk ChanRec.reserve Watch.freeze
  dsimp only
  split
  · exact ⟨Nat.zero_le _, Nat.zero_le _, by simp, fun n _ => armed_below hps n⟩
  · exact ⟨h1, h2, by simp, h4⟩
theorem fair_complete (t : Nat) (b : Bool) : r.Fair ps (r.complete t b) := by
  have hcount : (r.complete t b).moveCount ≤ 255 := satInc_le _
  refine fair_lit (fun h => ?_) (fun _ => hcount) ?_ ?_ (.inl rfl)
  · cases b
    · exact fair_forward _ h
    · exact (List.length_tail (l := r.history) ▸ (Nat.sub_le _ _).trans h)
  · cases b
    · exact forward_watch _
    · rfl
  · cases b
    · exact forward_profile _
    · rfl
theorem fair_release : r.Fair ps r.release := by
  unfold ChanRec.release
  split
  · cases hr : r.ret with
    | none => exact fair_same rfl rfl rfl rfl rfl
    | some x =>
      cases x with
      | parked => exact fair_off rfl rfl rfl
      | active => exact fair_lit id id rfl rfl (.inl rfl)
      | held => exact fair_lit id id rfl rfl (.inr (.inl rfl))
  · exact fair_same rfl rfl rfl rfl rfl
/-- An adoption off plan is one of a channel with a watch. -/
theorem fair_adopt (s : State) (f : Nat) (x : AdoptKind)
    (hlit : x = .offPlan → r.state = .active ∨ r.state = .held) :
    r.Fair ps (r.adopt f (s.freshWatch r.profile) x) := by
  cases x with
  | track =>
    exact fair_armed (fair_forward _) (fun h => (forward_moveCount (r := r) _).symm ▸ h) (freshWatch_cases s _)
      fun _ => .inl rfl
  | offPlan => exact fair_armed id id (freshWatch_cases s _) fun _ => (hlit rfl).imp id .inl
  | dark =>
    refine fair_armed id id (freshWatch_cases s _) fun _ => ?_
    by_cases h : r.darkFrom = some .held <;> simp [ChanRec.adopt, h]
theorem fair_park : r.Fair ps r.park := fair_off rfl rfl rfl
theorem fair_goDark : r.Fair ps r.goDark := by
  unfold ChanRec.goDark
  split
  · exact fair_off rfl rfl rfl
  · exact fair_off rfl rfl rfl
  · exact fair_off rfl rfl rfl
  all_goals exact fair_refl _ _
theorem fair_zeroReturn : r.Fair ps r.zeroReturn := fair_same rfl rfl rfl rfl rfl
end

/-! ## What a record occupies -/

section
variable {r : ChanRec}

theorem occupied_none_pending (r : ChanRec) : (r.assigned.toList ++ (none : Option Nat).toList) ⊆ r.occupied := by
  simp [ChanRec.occupied]
theorem occupied_release : r.release.occupied ⊆ r.occupied := by
  unfold ChanRec.release
  split
  · split
    · exact occupied_none_pending r
    · exact occupied_none_pending r
  · exact occupied_none_pending r
theorem assigned_goDark : r.goDark.assigned = r.assigned := by unfold ChanRec.goDark; split <;> rfl
theorem pending_goDark : r.goDark.pending = r.pending := by unfold ChanRec.goDark; split <;> rfl
theorem occupied_goDark : r.goDark.occupied = r.occupied := by
  rw [ChanRec.occupied, assigned_goDark, pending_goDark, ChanRec.occupied]
end

/-! ## Reservation, completion, release and adoption -/

section
variable (s : State)

theorem sane_reflag (c : Chan) : Sane q k s (reflag c s) :=
  sane_modChan (fair_same rfl rfl rfl rfl rfl) fun _ => List.Subset.refl _
theorem sane_reflagAll (cs : List Chan) : Sane q k s (reflagAll cs s) := sane_foldl (fun s c => sane_reflag s c) cs s
theorem sane_release (c : Chan) : Sane q k s (release c s) :=
  (sane_modChan fair_release fun _ => occupied_release).trans (sane_reflag _ c)
theorem sane_dropNote (c : Chan) : Sane q k s (s.dropNote c) := sane_notes s _

/-- A backlog that loses items keeps every promise. -/
theorem sane_filterBacklog (p : Item → Bool) : Sane q k s { s with backlog := s.backlog.filter p } := by
  refine ⟨rfl, le_rfl, rfl, id, id, fun ⟨h1, h2, h3, h4⟩ => ?_, fun _ => id, id, fun _ => id, fun _ => id⟩
  exact ⟨h1, (List.filter_sublist.map _).nodup h2, fun i hi => h3 i (List.mem_of_mem_filter hi), h4⟩
theorem sane_dropItem (c : Chan) : Sane q k s (s.dropItem c) := sane_filterBacklog s _
theorem sane_pruneBacklog : Sane q k s (pruneBacklog s) := sane_filterBacklog s _

/-! ### The frequencies of the pools -/

/-- The frequencies a pool holds, in list order. -/
def State.poolFreqs (s : State) (g : Group) : List Nat := (s.pool g).map (·.freq)
theorem poolsClean_iff : PoolsClean s ↔
    ∀ g, (s.poolFreqs g).Nodup ∧ ∀ f ∈ s.poolFreqs g, s.occupiedIn g f = false := by
  simp only [PoolsClean, State.poolFreqs, List.forall_mem_map]
theorem poolFreqs_mapPool (g : Group) {f : PoolEntry → PoolEntry} (hf : ∀ e, (f e).freq = e.freq) (h : Group) :
    (s.setPool g ((s.pool g).map f)).poolFreqs h = s.poolFreqs h := by
  unfold State.poolFreqs
  by_cases e : h = g
  · rw [e, pool_setPool_same, List.map_map]
    exact List.map_congr_left fun x _ => hf x
  · rw [pool_setPool_other s _ e]
theorem poolFreqs_bumpGen (g h : Group) : (bumpGen g s).poolFreqs h = s.poolFreqs h := by
  have hfold : ∀ (gs : List Group) (x : State),
      (gs.foldl (fun s h => s.setPool h ((s.pool h).map PoolEntry.demote)) x).poolFreqs h = x.poolFreqs h := by
    intro gs
    induction gs with
    | nil => exact fun _ => rfl
    | cons y gs ih => exact fun x => (ih _).trans (poolFreqs_mapPool x y freq_demote h)
  exact hfold _ _
theorem poolFreqs_unpool (g : Group) (f : Nat) (h : Group) : (unpool g f s).poolFreqs h =
    if h = g then (s.poolFreqs h).filter fun x => x ≠ f else s.poolFreqs h := by
  unfold State.poolFreqs unpool
  split
  next e => rw [e, pool_setPool_same, List.filter_map]; rfl
  next e => rw [pool_setPool_other s _ e]

/-- A channel comes to occupy a frequency, which leaves its group's pool in the same change (R124). -/
theorem poolsClean_occupy {s t : State} {c : Chan} {f : Nat} (hcouple : t.couple = s.couple)
    (hfreqs : ∀ h, t.poolFreqs h = if h = s.groupOf c then (s.poolFreqs h).filter fun x => x ≠ f else s.poolFreqs h)
    (hother : ∀ d, d ≠ c → (t.chan d).occupied = (s.chan d).occupied)
    (hocc : ∀ x ∈ (t.chan c).occupied, x ∈ (s.chan c).occupied ∨ x = f) (h : PoolsClean s) : PoolsClean t := by
  rw [poolsClean_iff] at h ⊢
  intro g
  obtain ⟨hnodup, hfree⟩ := h g
  have hsub : (t.poolFreqs g).Sublist (s.poolFreqs g) := by
    rw [hfreqs]; split
    · exact List.filter_sublist
    · exact List.Sublist.refl _
  refine ⟨hsub.nodup hnodup, fun x hx => Bool.eq_false_iff.mpr fun ho => ?_⟩
  have hno := hfree x (hsub.subset hx)
  obtain ⟨d, hd, hmem⟩ := occupiedIn_iff.mp ho
  have hd' : s.groupOf d = g := by rw [← hd, State.groupOf, State.groupOf, hcouple]
  have hold : x ∈ (s.chan d).occupied → False := fun hm => by
    rw [occupiedIn_iff.mpr ⟨d, hd', hm⟩] at hno; cases hno
  by_cases e : d = c
  · subst e
    rcases hocc x hmem with hm | rfl
    · exact hold hm
    · rw [hfreqs, if_pos hd'.symm] at hx
      simp at hx
  · exact hold (hother d e ▸ hmem)

theorem couple_bumpGen (g : Group) (s : State) : (bumpGen g s).couple = s.couple := by
  rw [bumpGen, demotePools_changes_pools]
theorem chan_bumpGen (g : Group) (s : State) (c : Chan) : (bumpGen g s).chan c = s.chan c := by
  rw [State.chan, bumpGen_chans, State.chan]
theorem poolFreqs_reflag (c : Chan) (s : State) (h : Group) : (reflag c s).poolFreqs h = s.poolFreqs h := rfl
theorem occupied_reflag (c : Chan) (s : State) (d : Chan) : ((reflag c s).chan d).occupied = (s.chan d).occupied := by
  unfold reflag
  rw [chan_modChan]; split
  next e => rw [e]; rfl
  · rfl
/-- The record, its group's pool and its flag after a change that gives a channel a frequency. -/
theorem poolsClean_settle {s s1 : State} {c : Chan} {f : Nat} {r : ChanRec} (hpools : s1.pools = s.pools)
    (hcouple : s1.couple = s.couple) (hchans : s1.chans = (s.setChan c r).chans)
    (hocc : ∀ x ∈ r.occupied, x ∈ (s.chan c).occupied ∨ x = f) (h : PoolsClean s) :
    PoolsClean (reflag c (unpool (s.groupOf c) f (bumpGen (s.groupOf c) s1))) := by
  have hchan : ∀ d, ((reflag c (unpool (s.groupOf c) f (bumpGen (s.groupOf c) s1))).chan d).occupied =
      ((s.setChan c r).chan d).occupied := fun d => by
    rw [occupied_reflag]
    change ((bumpGen (s.groupOf c) s1).chan d).occupied = _
    rw [chan_bumpGen, State.chan, hchans, State.chan]
  refine poolsClean_occupy (s := s) (c := c) (f := f) ?_ (fun g => ?_) (fun d hd => ?_) (fun x hx => ?_) h
  · exact (couple_bumpGen _ s1).trans hcouple
  · rw [poolFreqs_reflag, poolFreqs_unpool, poolFreqs_bumpGen]
    simp only [State.poolFreqs, State.pool, hpools]
  · rw [hchan, chan_setChan_other s r hd]
  · rw [hchan, chan_setChan_same] at hx; exact hocc x hx

theorem sane_reserve (c : Chan) (t : Nat) : Sane q k s (reserve c t s) := by
  have hsane : Sane q false s (reserve c t s) :=
    ((((sane_modChan (fair_reserve t) (fun h => noClean h)).trans (sane_dropItem _ c)).trans (sane_dropNote _ c)).trans
      (sane_bumpGen _ _)).trans ((sane_unpool _ _ _).trans (sane_reflag _ c))
  refine hsane.withClean (poolsClean_settle (r := (s.chan c).reserve t) rfl rfl rfl fun x hx => ?_)
  rcases List.mem_append.mp hx with hx | hx
  · exact .inl (List.mem_append_left _ hx)
  · exact .inr (by simpa [ChanRec.reserve] using hx)
theorem sane_adopt {s : State} {c : Chan} {f : Nat} {x : AdoptKind}
    (hlit : x = .offPlan → (s.chan c).state = .active ∨ (s.chan c).state = .held) : Sane q k s (adopt c f x s) := by
  have hsane : Sane q false s (adopt c f x s) :=
    (((sane_modChan (fair_adopt s f x hlit) (fun h => noClean h)).trans (sane_dropItem _ c)).trans
      (sane_bumpGen _ _)).trans ((sane_unpool _ _ _).trans (sane_reflag _ c))
  refine hsane.withClean (poolsClean_settle
    (r := (s.chan c).adopt f (s.freshWatch (s.chan c).profile) x) rfl rfl rfl fun y hy => .inr ?_)
  cases x <;> simpa [ChanRec.adopt, ChanRec.occupied] using hy
theorem assigned_complete (r : ChanRec) (t : Nat) (b : Bool) : (r.complete t b).occupied = [t] := by
  cases b <;> rfl
/-- A completion vacates the assigned frequency; the pools stay clean where the new one was occupied already. -/
theorem sane_complete {s : State} {c : Chan} {t : Nat} {b : Bool} (hocc : k = true → t ∈ (s.chan c).occupied) :
    Sane q k s (complete c t b s) := by
  refine (sane_modChan (fair_complete t b) fun hk => ?_).trans (sane_reflag _ c)
  rw [assigned_complete]
  exact List.cons_subset.mpr ⟨hocc hk, List.nil_subset _⟩
end

end Sys2Proof.Machine
end

section
/-! The updates of the retune table, the backlog, the queues and the commits, each with what must hold for it to keep the
promises of `Sane`. -/

namespace Sys2Proof.Machine

variable {q k : Bool}

/-! ## The retune table -/

theorem proposedCount_eq (s : State) : s.proposedCount = s.table.countP fun e => e.state = .proposed := by
  rw [State.proposedCount, ← List.countP_eq_length_filter]
/-- Entries leave the table. -/
theorem sane_filterTable (s : State) (p : Entry → Bool) : Sane q k s { s with table := s.table.filter p } := by
  refine ⟨rfl, le_rfl, rfl, id, fun ⟨h1, h2⟩ => ⟨(List.length_filter_le _ _).trans h1, h2⟩, ?_, fun _ => id, id, fun _ => id,
    fun _ => id⟩
  rintro ⟨h1, h2, h3, h4⟩
  refine ⟨(List.filter_sublist.map _).nodup h1, h2, fun i hi => ?_, ?_⟩
  · have hnone := h3 i hi
    rw [State.entryOf, List.find?_eq_none] at hnone ⊢
    exact fun x hx => hnone x (List.mem_of_mem_filter hx)
  · rw [proposedCount_eq] at h4 ⊢
    exact (List.filter_sublist.countP_le).trans h4
theorem sane_dropEntry (s : State) (c : Chan) : Sane q k s (s.dropEntry c) := sane_filterTable s _

/-- The entry that takes the place of its channel's. -/
def Entry.replacing (e x : Entry) : Entry := if x.chan = e.chan then e else x
theorem chan_replacing (e x : Entry) : (e.replacing x).chan = x.chan := by
  unfold Entry.replacing; split
  next h => exact h.symm
  · rfl
theorem putEntry_table (s : State) (e : Entry) : (s.putEntry e).table = s.table.map e.replacing := rfl
theorem chans_putEntry (s : State) (e : Entry) : (s.putEntry e).table.map (·.chan) = s.table.map (·.chan) := by
  rw [putEntry_table, List.map_map]
  exact List.map_congr_left fun x _ => chan_replacing e x
theorem entryOf_none_congr {s t : State} (h : t.table.map (·.chan) = s.table.map (·.chan)) (c : Chan) :
    t.entryOf c = none ↔ s.entryOf c = none := by
  have key : ∀ x : State, x.entryOf c = none ↔ c ∉ x.table.map (·.chan) := fun x => by
    simp [State.entryOf, List.find?_eq_none]
  rw [key, key, h]
theorem entryOf_eq_some {s : State} {c : Chan} {e : Entry} (h : s.entryOf c = some e) : e ∈ s.table ∧ e.chan = c :=
  ⟨mem_of_entryOf h, entryOf_chan h⟩

/-- In a table without repeats the entry found is the only one of its channel. -/
theorem eq_of_entryOf {s : State} {c : Chan} {e x : Entry} (hn : (s.table.map (·.chan)).Nodup)
    (h : s.entryOf c = some e) (hx : x ∈ s.table) (hc : x.chan = c) : x = e := by
  obtain ⟨he, hec⟩ := entryOf_eq_some h
  exact List.inj_on_of_nodup_map hn hx he (hc.trans hec.symm)
theorem count_putEntry {s : State} {e : Entry} (hn : (s.table.map (·.chan)).Nodup)
    (hp : e.state = .proposed → s.proposedCount < 8 ∨ ∃ x, s.entryOf e.chan = some x ∧ x.state = .proposed)
    (h : s.proposedCount ≤ 8) : (s.putEntry e).proposedCount ≤ 8 := by
  rw [proposedCount_eq] at h hp ⊢
  rw [putEntry_table, List.countP_map]
  by_cases hs : e.state = .proposed
  · rcases hp hs with hlt | ⟨x, hx, hxs⟩
    · have hone : s.table.countP (fun y => y.chan = e.chan) ≤ 1 := by
        rw [List.countP_eq_length_filter]
        exact (nodup_map_iff Entry.chan s.table).mp hn e.chan
      have hor : s.table.countP ((fun y => decide (y.state = .proposed)) ∘ e.replacing) ≤
          s.table.countP (fun y => y.state = .proposed) + s.table.countP (fun y => y.chan = e.chan) := by
        refine le_trans (List.countP_mono_left (q := fun y => decide (y.state = .proposed) || decide (y.chan = e.chan))
          fun y _ hy => ?_) ?_
        · by_cases hc : y.chan = e.chan
          · simp [hc]
          · simpa [Entry.replacing, hc] using hy
        · generalize s.table = ys
          induction ys with
          | nil => simp
          | cons y ys ih =>
            simp only [List.countP_cons]
            by_cases h1 : y.state = .proposed <;> by_cases h2 : y.chan = e.chan <;> simp [h1, h2] <;> omega
      omega
    · refine le_trans (List.countP_mono_left fun y hy hyp => ?_) h
      by_cases hc : y.chan = e.chan
      · rw [eq_of_entryOf hn hx hy hc]; simpa using hxs
      · simpa [Entry.replacing, hc] using hyp
  · refine le_trans (List.countP_mono_left fun y _ hy => ?_) h
    by_cases hc : y.chan = e.chan
    · simp [Entry.replacing, hc, hs] at hy
    · simpa [Entry.replacing, hc] using hy
/-- An entry of the same channel and state takes an entry's place. -/
theorem proposedCount_putEntry {s : State} {e e' : Entry} (hn : (s.table.map (·.chan)).Nodup)
    (he : s.entryOf e.chan = some e) (hchan : e'.chan = e.chan) (hstate : e'.state = e.state) :
    (s.putEntry e').proposedCount = s.proposedCount := by
  rw [proposedCount_eq, proposedCount_eq, putEntry_table, List.countP_map]
  refine List.countP_congr fun x hx => ?_
  by_cases hc : x.chan = e.chan
  · rw [eq_of_entryOf hn he hx hc]; simp [Entry.replacing, hchan, hstate]
  · simp [Entry.replacing, hchan, hc]
theorem sane_putEntry {s : State} {e : Entry} (hp : (s.table.map (·.chan)).Nodup → e.state = .proposed →
      s.proposedCount < 8 ∨ ∃ x, s.entryOf e.chan = some x ∧ x.state = .proposed) :
    Sane q k s (s.putEntry e) := by
  refine ⟨rfl, le_rfl, rfl, id, fun ⟨h1, h2⟩ => ⟨?_, h2⟩, ?_, fun _ => id, id, fun _ => id, fun _ => id⟩
  · rwa [putEntry_table, List.length_map]
  · rintro ⟨h1, h2, h3, h4⟩
    refine ⟨by rwa [chans_putEntry], h2, fun i hi => ?_, count_putEntry h1 (hp h1) h4⟩
    exact (entryOf_none_congr (chans_putEntry s e) i.chan).mpr (h3 i hi)
theorem unique_addEntry {s : State} {e : Entry} (hu : Unique s) (hs : e.state ≠ .proposed)
    (hentry : s.entryOf e.chan = none) (hitem : s.itemOf e.chan = none) : Unique (addEntry e s) := by
  obtain ⟨h1, h2, h3, h4⟩ := hu
  have hchan : ∀ x ∈ s.table, x.chan ≠ e.chan := by
    simpa [State.entryOf, List.find?_eq_none] using hentry
  refine ⟨?_, h2, fun i hi => ?_, ?_⟩
  · change ((s.table ++ [e]).map (·.chan)).Nodup
    rw [List.map_append, List.nodup_append]
    refine ⟨h1, List.nodup_singleton _, fun a ha b hb => ?_⟩
    obtain ⟨x, hx, rfl⟩ := List.mem_map.mp ha
    rw [List.map_singleton, List.mem_singleton] at hb
    rw [hb]; exact hchan x hx
  · change (s.table ++ [e]).find? _ = none
    have hne : i.chan ≠ e.chan := by
      have := List.find?_eq_none.mp hitem i hi
      simpa using this
    have hold : s.table.find? (fun x => x.chan = i.chan) = none := h3 i hi
    simp [List.find?_append, hold, hne.symm]
  · rw [proposedCount_eq] at h4 ⊢
    change (s.table ++ [e]).countP _ ≤ 8
    rw [List.countP_append]
    simpa [hs] using h4
theorem fits_addEntry {s : State} {e : Entry} (hroom : s.table.length < 12) (h : Fits s) : Fits (addEntry e s) := by
  refine ⟨?_, h.2⟩
  change (s.table ++ [e]).length ≤ 12
  rw [List.length_append]; exact hroom
theorem sane_addEntry {s : State} {e : Entry} (hroom : s.table.length < 12) (hs : e.state ≠ .proposed)
    (hentry : s.entryOf e.chan = none) (hitem : s.itemOf e.chan = none) : Sane q k s (addEntry e s) :=
  ⟨rfl, le_rfl, rfl, id, fits_addEntry hroom, fun hu => unique_addEntry hu hs hentry hitem, fun _ => id, id, fun _ => id,
    fun _ => id⟩

/-! ## The backlog -/

theorem unique_joinBacklog {s : State} {i : Item} (hu : Unique s) (hentry : s.entryOf i.chan = none)
    (hitem : s.itemOf i.chan = none) : Unique (joinBacklog i s) := by
  obtain ⟨h1, h2, h3, h4⟩ := hu
  have hchan : ∀ x ∈ s.backlog, x.chan ≠ i.chan := by
    simpa [State.itemOf, List.find?_eq_none] using hitem
  refine ⟨h1, ?_, fun j hj => ?_, h4⟩
  · change ((s.backlog ++ [i]).map (·.chan)).Nodup
    rw [List.map_append, List.nodup_append]
    refine ⟨h2, List.nodup_singleton _, fun a ha b hb => ?_⟩
    obtain ⟨x, hx, rfl⟩ := List.mem_map.mp ha
    rw [List.map_singleton, List.mem_singleton] at hb
    rw [hb]; exact hchan x hx
  · rcases List.mem_append.mp hj with hj | hj
    · exact h3 j hj
    · rw [List.mem_singleton.mp hj]; exact hentry
theorem sane_joinBacklog {s : State} {i : Item} (hentry : s.entryOf i.chan = none) (hitem : s.itemOf i.chan = none) :
    Sane q k s (joinBacklog i s) :=
  ⟨rfl, le_rfl, rfl, id, id, fun hu => unique_joinBacklog hu hentry hitem, fun _ => id, id, fun _ => id, fun _ => id⟩
theorem sane_mapBacklog (s : State) {f : Item → Item} (hf : ∀ i, (f i).chan = i.chan) :
    Sane q k s { s with backlog := s.backlog.map f } := by
  refine ⟨rfl, le_rfl, rfl, id, id, fun ⟨h1, h2, h3, h4⟩ => ⟨h1, ?_, fun i hi => ?_, h4⟩, fun _ => id, id, fun _ => id,
    fun _ => id⟩
  · change ((s.backlog.map f).map (·.chan)).Nodup
    rw [List.map_map]
    have hcomp : (fun i : Item => i.chan) ∘ f = fun i => i.chan := funext hf
    rwa [hcomp]
  · obtain ⟨j, hj, rfl⟩ := List.mem_map.mp hi
    rw [hf]; exact h3 j hj
/-- An entry takes the place of an item of its channel. -/
theorem entryOf_of_item {s : State} (hu : Unique s) {i : Item} (hi : i ∈ s.backlog) : s.entryOf i.chan = none :=
  hu.2.2.1 i hi
theorem itemOf_of_entry {s : State} (hu : Unique s) {c : Chan} {e : Entry} (he : s.entryOf c = some e) :
    s.itemOf c = none := by
  rw [itemOf_eq_none_iff]
  cases hx : s.itemsAt c with
  | nil => rfl
  | cons i is =>
    obtain ⟨hi, rfl⟩ := mem_itemsAt.mp (hx ▸ List.mem_cons_self : i ∈ s.itemsAt c)
    rw [entryOf_of_item hu hi] at he; cases he
@[simp] theorem entryOf_dropEntry (s : State) (c : Chan) : (s.dropEntry c).entryOf c = none := by
  simp [State.entryOf, State.dropEntry]
@[simp] theorem itemOf_dropItem (s : State) (c : Chan) : (s.dropItem c).itemOf c = none := by
  simp [State.itemOf, State.dropItem]

/-- An item gives way to an entry of its channel. -/
theorem sane_enter {s : State} {e : Entry} (hroom : s.table.length < 12) (hs : e.state ≠ .proposed)
    (hentry : Unique s → s.entryOf e.chan = none) : Sane q k s (addEntry e (s.dropItem e.chan)) where
  pending := rfl
  now := le_rfl
  settings := rfl
  bounded := id
  fits := fits_addEntry (s := s.dropItem e.chan) hroom
  unique := fun hu => unique_addEntry ((sane_dropItem (q := true) (k := true) s e.chan).unique hu) hs (hentry hu)
    (itemOf_dropItem s e.chan)
  linked := fun _ => id
  watched := id
  clean := fun _ => id
  queued := fun _ => id
/-- An entry gives way to an item of its channel. -/
theorem sane_requeue {s : State} {i : Item} {e : Entry} (he : s.entryOf i.chan = some e) :
    Sane q k s (joinBacklog i (s.dropEntry i.chan)) where
  pending := rfl
  now := le_rfl
  settings := rfl
  bounded := id
  fits := (sane_dropEntry (q := true) (k := true) s i.chan).fits
  unique := fun hu => unique_joinBacklog ((sane_dropEntry (q := true) (k := true) s i.chan).unique hu)
    (entryOf_dropEntry s i.chan) (itemOf_of_entry hu he)
  linked := fun _ => id
  watched := id
  clean := fun _ => id
  queued := fun _ => id

/-! ## The queues -/

theorem queued_iff (s : State) : Queued s ↔ s.engine.poolQ.Nodup ∧ ((s.engine.comQ.map ComReq.chan).map (·.stage)).Nodup
    ∧ ∀ c ∈ s.engine.comQ.map ComReq.chan, ∃ r, s.commitRec c.stage = some r ∧ r.phase = .stepping c.slot := by
  simp only [Queued, List.map_map, List.forall_mem_map]
  rfl
theorem sane_engine {s : State} {e : Engine} (hadm : s.engine.admQ.length ≤ 8 → e.admQ.length ≤ 8)
    (hdef : s.engine.deferred.length ≤ 4 → e.deferred.length ≤ 4)
    (hpool : q = true → s.engine.poolQ.Nodup → e.poolQ.Nodup)
    (hcom : q = true → (e.comQ.map ComReq.chan).Sublist (s.engine.comQ.map ComReq.chan)) :
    Sane q k s { s with engine := e } := by
  refine ⟨rfl, le_rfl, rfl, id, fun ⟨h1, h2, h3, h4⟩ => ⟨h1, hadm h2, hdef h3, h4⟩, id, fun _ => id, id, fun _ => id, fun hq => ?_⟩
  rw [queued_iff, queued_iff]
  rintro ⟨h1, h2, h3⟩
  exact ⟨hpool hq h1, ((hcom hq).map _).nodup h2, fun c hc => h3 c ((hcom hq).subset hc)⟩

theorem sane_endService (s : State) : Sane q k s (endService s) := sane_setService s none
theorem sane_discardIf (b : Bool) (s : State) : Sane q k s (discardIf b s) := by
  cases b
  · exact Sane.refl s
  · exact sane_endService s
theorem sane_leaveHead (x : ReqClass) (s : State) : Sane q k s (leaveHead x s) := by
  have htail : s.engine.admQ.tail.length ≤ s.engine.admQ.length := by rw [List.length_tail]; exact Nat.sub_le _ _
  cases x with
  | move => exact sane_engine id id (fun _ => id) fun _ => List.Sublist.refl _
  | admission => exact sane_engine htail.trans id (fun _ => id) fun _ => List.Sublist.refl _
  | commit => exact sane_engine id id (fun _ => id) fun _ => (List.tail_sublist _).map _
  | pool => exact sane_engine id id (fun _ h => (List.tail_sublist _).nodup h) fun _ => List.Sublist.refl _
theorem sane_replaceMove (s : State) (m : MoveReq) : Sane q k s (replaceHead (.move m) s) :=
  sane_engine id id (fun _ => id) fun _ => List.Sublist.refl _
theorem sane_replaceAdm (s : State) (a : AdmReq) : Sane q k s (replaceHead (.adm a) s) := by
  refine sane_engine (fun h => ?_) id (fun _ => id) fun _ => List.Sublist.refl _
  rw [List.length_cons, List.length_tail]; omega
/-- The head of the COMMIT queue asks for further work of the same channel. -/
theorem sane_replaceCom {s : State} {x y : ComReq} (hx : q = true → s.head .commit = some (.com x))
    (hc : y.chan = x.chan) : Sane q k s (replaceHead (.com y) s) := by
  refine sane_engine id id (fun _ => id) fun hq => ?_
  have h := hx hq
  cases hcom : s.engine.comQ with
  | nil => simp [State.head, hcom] at h
  | cons w ws =>
    obtain rfl : w = x := by simpa [State.head, hcom] using h
    simp [hc]
theorem sane_joinAdm {s : State} (a : AdmReq) (h : s.engine.admQ.length < 8) : Sane q k s (joinAdm a s) := by
  refine sane_engine (fun _ => ?_) id (fun _ => id) fun _ => List.Sublist.refl _
  rw [List.length_append]; exact h
theorem length_of_admFull {s : State} (h : ¬ s.admFull = true) : s.engine.admQ.length < 8 := by
  simpa [State.admFull] using h
/-- A step joins the COMMIT queue: `Queued` is its caller's to keep. -/
theorem sane_joinCom (s : State) (r : ComReq) : Sane false k s (joinCom r s) :=
  sane_engine id id (fun h => noClean h) fun h => noClean h
theorem sane_joinPool {s : State} {g : Group} (h : g ∉ s.engine.poolQ) : Sane q k s (joinPool g s) := by
  refine sane_engine id id (fun _ hn => ?_) fun _ => List.Sublist.refl _
  exact List.nodup_append.mpr ⟨hn, List.nodup_singleton _, fun a ha b hb => by
    rw [List.mem_singleton.mp hb]; exact fun e => h (e ▸ ha)⟩
theorem sane_defer {s : State} (d : Deferred) (h : s.engine.deferred.length < 4) :
    Sane q k s { s with engine := { s.engine with deferred := s.engine.deferred ++ [d] } } := by
  refine sane_engine id (fun _ => ?_) (fun _ => id) fun _ => List.Sublist.refl _
  rw [List.length_append]; exact h

/-! ## Held frames, exclusions and commits -/

theorem sane_heldFrames {s : State} {v : List HeldFrame} (h : s.heldFrames.length ≤ 8 → v.length ≤ 8) :
    Sane q k s { s with heldFrames := v } :=
  ⟨rfl, le_rfl, rfl, id, fun ⟨h1, h2, h3, h4, h5⟩ => ⟨h1, h2, h3, h h4, h5⟩, id, fun _ => id, id, fun _ => id, fun _ => id⟩
theorem sane_dropHeld (c : Chan) (s : State) : Sane q k s (dropHeld c s) :=
  sane_heldFrames (List.length_filter_le _ _).trans
theorem sane_excl {s : State} {v : List Excl} (h : s.excl.length ≤ 48 → v.length ≤ 48)
    (hsort : s.excl.Pairwise (fun x y => x.before y = true) → v.Pairwise (fun x y => x.before y = true)) :
    Sane q k s { s with excl := v } :=
  ⟨rfl, le_rfl, rfl, id, fun ⟨h1, h2, h3, h4, h5, h6, h7⟩ => ⟨h1, h2, h3, h4, h h5, hsort h6, h7⟩, id, fun _ => id, id,
    fun _ => id, fun _ => id⟩

theorem commits_setCommit (s : State) (z y : Stage) (v : CommitState) :
    (s.setCommit z v).commits[y] = if y = z then v else s.commits[y] := by
  split
  next e => subst e; simp [State.setCommit]
  next e =>
    have hne : z.val ≠ y.val := fun h => e (Fin.ext h.symm)
    simp [State.setCommit, Vector.getElem_set_ne _ _ hne]
theorem commitRec_eq_some {s : State} {z : Stage} {r : CommitRec} :
    s.commitRec z = some r ↔ s.commits[z] = .committing r := by
  unfold State.commitRec
  cases s.commits[z] <;> simp
/-- A commit state is replaced at a stage that is UP or whose commit runs or waits already, or it becomes idle. A step of it
in the queue stays its current one. -/
theorem sane_setCommit {s : State} {z : Stage} {v : CommitState}
    (hlink : (s.port (.stage z)).up = true ∨ v = .idle ∨ s.commits[z] ≠ .idle)
    (hphase : q = true → ∀ r n, s.commits[z] = .committing r → r.phase = .stepping n →
      ∃ r', v = .committing r' ∧ r'.phase = .stepping n) : Sane q k s (s.setCommit z v) := by
  refine ⟨rfl, le_rfl, rfl, id, id, id, fun y h hy => ?_, id, fun _ => id, fun hq ⟨h1, h2, h3⟩ => ⟨h1, h2, fun x hx => ?_⟩⟩
  · rw [commits_setCommit] at hy
    split at hy
    next e =>
      subst e
      rcases hlink with hup | hidle | hbusy
      · exact hup
      · exact absurd hidle hy
      · exact h hbusy
    · exact h hy
  · obtain ⟨r, hr, hn⟩ := h3 x hx
    simp only [commitRec_eq_some] at hr ⊢
    rw [commits_setCommit]
    split
    next e =>
      rw [e] at hr
      exact hphase hq r x.slot hr hn
    · exact ⟨r, hr, hn⟩
/-- A change of a record that keeps its phase. -/
theorem sane_modCommit (z : Stage) {f : CommitRec → CommitRec} (hf : ∀ r, (f r).phase = r.phase) (s : State) :
    Sane q k s (modCommit z f s) := by
  unfold modCommit
  split
  next r hr =>
    have hc := commitRec_eq_some.mp hr
    refine sane_setCommit (.inr (.inr (by rw [hc]; exact fun h => nomatch h))) fun _ r' n hr' hn => ?_
    rw [hc] at hr'
    obtain rfl : r = r' := by injection hr'
    exact ⟨f r, rfl, (hf r).trans hn⟩
  · exact Sane.refl s
/-- Any change of a record: `Queued` is its caller's to keep. -/
theorem sane_rephase (z : Stage) (f : CommitRec → CommitRec) (s : State) : Sane false k s (modCommit z f s) := by
  unfold modCommit
  split
  next r hr =>
    have hc := commitRec_eq_some.mp hr
    exact sane_setCommit (.inr (.inr (by rw [hc]; exact fun h => nomatch h))) fun h => noClean h
  · exact Sane.refl s

end Sys2Proof.Machine
end

section
/-! What every operation keeps beside `Sane`: the places of the moves, and with them the pools (R6, R120, R137, R140, R142).
The updates that touch no place first. -/

namespace Sys2Proof.Machine

variable {q : Bool}

/-- `Sane`, and the places stay sound; from a sound state the pools stay clean. -/
structure Run (q : Bool) (s t : State) : Prop where
  sane : Sane q false s t
  sound : Sound s → Sound t
  clean : Sound s → PoolsClean s → PoolsClean t

theorem Run.refl (s : State) : Run q s s := ⟨Sane.refl s, id, fun _ => id⟩
theorem Run.trans {s t u : State} (h : Run q s t) (g : Run q t u) : Run q s u :=
  ⟨h.sane.trans g.sane, fun x => g.sound (h.sound x), fun x y => g.clean (h.sound x) (h.clean x y)⟩
theorem Run.weaken {s t : State} (h : Run q s t) : Run false s t :=
  ⟨h.sane.weaken (fun e => noClean e) id, h.sound, h.clean⟩
theorem Run.withQueued {s t : State} (h : Run false s t) (hq : Queued s → Queued t) : Run q s t :=
  ⟨h.sane.withQueued hq, h.sound, h.clean⟩
/-- What a run needs of the places it may take from a sound state. -/
theorem Run.of_sound {s t : State} (hsane : Sane q false s t) (h : Sound s → Run false s t) : Run q s t :=
  ⟨hsane, fun x => (h x).sound x, fun x y => (h x).clean x y⟩
/-- An update that keeps the pools clean whatever the places are. -/
theorem Run.of_sane {s t : State} (h : Sane q true s t) (hsound : Sound s → Sound t) : Run q s t :=
  ⟨h.weaken id (fun e => noClean e), hsound, fun _ => h.clean rfl⟩
theorem Run.of_same {s t : State} (h : Sane q true s t) (hplace : ∀ c, t.place c = s.place c) : Run q s t :=
  Run.of_sane h fun hs => hs.of_same h.unique hplace
theorem Run.of_local {s t : State} (h : Sane q true s t) (c : Chan) (hother : ∀ d, d ≠ c → t.place d = s.place d)
    (hc : Sound s → (t.place c).Sound) : Run q s t :=
  Run.of_sane h fun hs => hs.of_local h.unique c hother (hc hs)
theorem run_ite {p : Prop} [Decidable p] {s t u : State} (ht : p → Run q s t) (hu : ¬ p → Run q s u) :
    Run q s (if p then t else u) := by
  split
  next h => exact ht h
  next h => exact hu h
theorem run_foldl {α : Type} {f : State → α → State} (h : ∀ s a, Run q s (f s a)) (xs : List α) (s : State) :
    Run q s (xs.foldl f s) := by
  induction xs generalizing s with
  | nil => exact Run.refl s
  | cons x xs ih => exact (h s x).trans (ih _)

/-! ## One channel's place -/

theorem Place.Sound.entries_cases {p : Place} (h : p.Sound) :
    (p.entries = [] ∧ p.items.length ≤ 1) ∨ ∃ e, p.entries = [e] ∧ p.items = [] := by
  have hone := h.one
  cases he : p.entries with
  | nil => exact .inl ⟨rfl, by rw [he] at hone; simpa using hone⟩
  | cons e es =>
    rw [he, List.length_cons] at hone
    rw [List.length_eq_zero_iff.mp (by omega : es.length = 0)]
    exact .inr ⟨e, rfl, List.length_eq_zero_iff.mp (by omega)⟩
theorem Place.Sound.moves_of_entries_nil {p : Place} (h : p.Sound) (he : p.entries = []) : p.moves = [] := by
  by_contra hne
  obtain ⟨e, hmem, _⟩ := h.searching hne
  rw [he] at hmem; cases hmem
theorem Place.Sound.moves_of_entry {p : Place} (h : p.Sound) {e : Entry} (he : p.entries = [e])
    (hs : e.state ≠ .searching) : p.moves = [] := by
  by_contra hne
  obtain ⟨x, hmem, hx⟩ := h.searching hne
  rw [he, List.mem_singleton] at hmem
  exact hs (hmem ▸ hx)
/-- A channel without an entry. -/
theorem place_idle {p : Place} (he : p.entries = []) (hi : p.items.length ≤ 1) (hm : p.moves = [])
    (hshaped : p.seat.shaped = true) (hown : p.seat.state = .moving → ∃ i ∈ p.items, i.want = .push) : p.Sound where
  one := by rw [he]; simpa using hi
  asks := by rw [hm]; exact Nat.zero_le _
  shaped := hshaped
  stand := fun e hmem => by rw [he] at hmem; cases hmem
  owned := fun h => .inr (hown h)
  searching := fun h => absurd hm h
/-- A channel with an entry that is not SEARCHING. -/
theorem place_moving {p : Place} {e : Entry} (he : p.entries = [e]) (hi : p.items = []) (hm : p.moves = [])
    (hshaped : p.seat.shaped = true) (hs : e.state ≠ .searching) (hstands : p.stands e = true) : p.Sound where
  one := by rw [he, hi]; exact le_rfl
  asks := by rw [hm]; exact Nat.zero_le _
  shaped := hshaped
  stand := fun x hx => by rw [he, List.mem_singleton] at hx; rwa [hx]
  owned := fun _ => .inl ⟨e, by rw [he]; exact List.mem_singleton_self e, hs⟩
  searching := fun h => absurd hm h
/-- A channel with a SEARCHING entry. -/
theorem place_searching {p : Place} {e : Entry} (he : p.entries = [e]) (hi : p.items = []) (hm : p.moves.length ≤ 1)
    (hshaped : p.seat.shaped = true) (hs : e.state = .searching) (hstands : p.stands e = true) : p.Sound where
  one := by rw [he, hi]; exact le_rfl
  asks := hm
  shaped := hshaped
  stand := fun x hx => by rw [he, List.mem_singleton] at hx; rwa [hx]
  owned := fun h => by
    rw [Place.stands, hs] at hstands
    simp [h] at hstands
  searching := fun _ => ⟨e, by rw [he]; exact List.mem_singleton_self e, hs⟩

/-- What a standing entry says of its channel, SEARCHING or not. -/
theorem stands_searching {p : Place} {e : Entry} (hs : e.state = .searching) : p.stands e = true ↔
    (e.origin = .auto ∨ e.origin = .ret) ∧ (p.seat.state = .active ∨ p.seat.state = .held) := by
  simp [Place.stands, hs]
theorem stands_moving {p : Place} {e : Entry} (hs : e.state ≠ .searching) : p.stands e = true ↔
    p.seat.state = .moving ∧ p.seat.pending = e.target
      ∧ ((e.origin ≠ .auto ∧ e.origin ≠ .ret) ∨ p.seat.ret = some .active) := by
  cases h : e.state
  · exact absurd h hs
  all_goals simp [Place.stands, h, and_assoc]

/-- The channel of a sound state's entry. -/
theorem Sound.stands {s : State} (h : Sound s) {c : Chan} {e : Entry} (he : s.entryOf c = some e) :
    (s.place c).stands e = true :=
  (h.1 c).stand e (by rw [place_entries, (h.entriesAt_eq he).1]; exact List.mem_singleton_self e)
theorem Sound.shaped {s : State} (h : Sound s) (c : Chan) : (s.chan c).shaped = true := (h.1 c).shaped
theorem Sound.searching_state {s : State} (h : Sound s) {c : Chan} {e : Entry} (he : s.entryOf c = some e)
    (hs : e.state = .searching) : (s.chan c).state = .active ∨ (s.chan c).state = .held :=
  ((stands_searching hs).mp (h.stands he)).2
theorem Sound.moving_state {s : State} (h : Sound s) {c : Chan} {e : Entry} (he : s.entryOf c = some e)
    (hs : e.state ≠ .searching) : (s.chan c).state = .moving ∧ (s.chan c).pending = e.target
      ∧ ((e.origin ≠ .auto ∧ e.origin ≠ .ret) ∨ (s.chan c).ret = some .active) :=
  (stands_moving hs).mp (h.stands he)
theorem Sound.movesAt_of_entry {s : State} (h : Sound s) {c : Chan} {e : Entry} (he : s.entryOf c = some e)
    (hs : e.state ≠ .searching) : s.movesAt c = [] := (h.1 c).moves_of_entry (h.entriesAt_eq he).1 hs
theorem Sound.movesAt_of_none {s : State} (h : Sound s) {c : Chan} (he : s.entryOf c = none) : s.movesAt c = [] :=
  (h.1 c).moves_of_entries_nil ((entryOf_eq_none_iff s c).mp he)
theorem Sound.itemsAt_length {s : State} (h : Sound s) (c : Chan) : (s.itemsAt c).length ≤ 1 :=
  (Nat.le_add_left _ _).trans (h.1 c).one

/-! ## Updates that touch no place -/

section
variable (s : State)

theorem run_latches (v : Vector Bool 16) : Run q s { s with latches := v } := .of_same (sane_latches s v) fun _ => rfl
theorem run_freeCount (n : Nat) : Run q s { s with freeCount := n } := .of_same (sane_freeCount s n) fun _ => rfl
theorem run_caps (v : Vector (Option Cap) 192) : Run q s { s with caps := v } := .of_same (sane_caps s v) fun _ => rfl
theorem run_surveys (v : Vector (Option Survey) 6) : Run q s { s with surveys := v } :=
  .of_same (sane_surveys s v) fun _ => rfl
theorem run_staging (v : Vector Staged 192) : Run q s { s with staging := v } := .of_same (sane_staging s v) fun _ => rfl
theorem run_arm (v : Vector Bool 6) : Run q s { s with arm := v } := .of_same (sane_arm s v) fun _ => rfl
theorem run_notes (v : List TrackNote) : Run q s { s with notes := v } := .of_same (sane_notes s v) fun _ => rfl
theorem run_rules (r : Rules) : Run q s
    { s with spacing := r.spacing, settlePeriod := r.settle, proposalTimeout := r.proposal, opts := r.opts } :=
  .of_same (sane_rules s r) fun _ => rfl
theorem run_setService (v : Option Service) : Run q s (s.setService v) := .of_same (sane_setService s v) fun _ => rfl
theorem run_endService : Run q s (endService s) := run_setService s none
theorem run_discardIf (b : Bool) : Run q s (discardIf b s) := by
  cases b
  · exact Run.refl s
  · exact run_endService s
theorem run_bumpStage (z : Stage) (x : Ctr) : Run q s (bumpStage z x s) := .of_same (sane_bumpStage s z x) fun _ => rfl
theorem run_bumpTrunk : Run q s (bumpTrunk s) := .of_same (sane_bumpTrunk s) fun _ => rfl
theorem run_countDiscard (p : Port) (x : Ctr) : Run q s (countDiscard p x s) := by
  cases p with
  | trunk => exact run_bumpTrunk s
  | stage z => exact run_bumpStage s z x
theorem run_zeroCounters : Run q s (zeroCounters s) := .of_same (sane_zeroCounters s) fun _ => rfl
theorem run_setPort {p : Port} {x : PortState} (h : ∀ z, p = .stage z → (s.port p).up = true → x.up = true) :
    Run q s (s.setPort p x) := .of_same (sane_setPort s h) (place_setPort s p x)
theorem run_passTime (dt : Nat) : Run q s (passTime dt s) :=
  .of_same (sane_passTime s dt) (place_congr (passTime_chans ..) (passTime_table ..) (passTime_backlog ..)
    (by rw [passTime_engine]))
theorem run_handTo (p : Port) (f : Frame) : Run q s (handTo p f s) := .of_same (sane_handTo s p f) (place_handTo p f s)
theorem run_route (f : Frame) : Run q s (route f s) := by
  unfold route; split
  · exact run_handTo s _ f
  · exact Run.refl s
theorem run_originate (a : Addr) (x : Byte) (b : List Byte) : Run q s (originate a x b s) :=
  .of_same (sane_originate s a x b) (place_originate a x b s)
theorem run_setLatch (i : Fin 16) : Run q s (setLatch i s) := run_latches s _
theorem run_notify (x : NoticeKind) (st sl : Nat) (b : List Byte) : Run q s (notify x st sl b s) := by
  unfold notify
  dsimp only
  split
  · exact (run_setLatch s _).trans (run_originate _ _ _ _)
  · exact run_setLatch s _
theorem run_notifyChan (x : NoticeKind) (c : Chan) (b : List Byte) : Run q s (notifyChan x c b s) := run_notify s _ _ _ _
theorem run_reply (h : ReqHdr) (code : Nat) (st : Status) (x : Nat) (b : List Byte) : Run q s (reply h code st x b s) :=
  run_route s _
theorem run_replyOk (h : ReqHdr) (code : Nat) (b : List Byte) : Run q s (replyOk h code b s) := run_route s _
theorem run_refuse (h : ReqHdr) (code : Nat) (st : Status) : Run q s (refuse h code st s) := run_route s _

/-! ### Pools -/

theorem run_filterPool (g : Group) (p : PoolEntry → Bool) : Run q s (s.setPool g ((s.pool g).filter p)) :=
  .of_same (sane_filterPool s g p) fun _ => rfl
theorem run_mapPool (g : Group) {f : PoolEntry → PoolEntry} (hf : ∀ e, (f e).freq = e.freq) :
    Run q s (s.setPool g ((s.pool g).map f)) := .of_same (sane_mapPool s g hf) fun _ => rfl
theorem run_bumpGen (g : Group) : Run q s (bumpGen g s) := .of_same (sane_bumpGen s g) (place_bumpGen g s)
theorem run_unpool (g : Group) (f : Nat) : Run q s (unpool g f s) := run_filterPool s g _
theorem run_markEntry (g : Group) (f : Nat) (b : Bool) : Run q s (markEntry g f b s) :=
  .of_same (sane_markEntry s g f b) fun _ => rfl
theorem run_blockEntry (g : Group) (f : Nat) : Run q s (blockEntry g f s) := .of_same (sane_blockEntry s g f) fun _ => rfl
theorem run_poolCheckDone (g : Group) (f : Nat) (r : Result) : Run q s (poolCheckDone g f r s) :=
  .of_same (sane_poolCheckDone s g f r) fun _ => rfl
theorem run_sweepPool (g : Group) (xs : List (Nat × Nat)) : Run q s (sweepPool g xs s) :=
  .of_same (sane_sweepPool s g xs) fun _ => rfl
theorem run_appendPool (g : Group) (f : Nat) (x : PoolState) (l : Option Nat) : Run q s (appendPool g f x l s) :=
  .of_same (sane_appendPool s g f x l) (place_appendPool g f x l s)
theorem place_recycle (c : Chan) (v : Option Nat) (o : Origin) (d : Chan) : (recycle c v o s).place d = s.place d := by
  unfold recycle; split
  · split
    · exact place_appendPool ..
    · rfl
  · rfl
theorem run_recycle (c : Chan) (v : Option Nat) (o : Origin) : Run q s (recycle c v o s) :=
  .of_same (sane_recycle s c v o) (place_recycle s c v o)

/-! ### Records, but for their seats -/

theorem run_setChan {c : Chan} {r : ChanRec} (hfair : (s.chan c).Fair s.profiles r) (hseat : r.seat = (s.chan c).seat) :
    Run q s (s.setChan c r) :=
  .of_same (sane_setChan hfair fun _ => by rw [occupied_of_seat_eq hseat]; exact List.Subset.refl _)
    (place_setChan_of_seat hseat)
theorem run_modChan {c : Chan} {f : ChanRec → ChanRec} (hfair : (s.chan c).Fair s.profiles (f (s.chan c)))
    (hseat : (f (s.chan c)).seat = (s.chan c).seat) : Run q s (s.modChan c f) := run_setChan s hfair hseat
theorem run_reflag (c : Chan) : Run q s (reflag c s) := .of_same (sane_reflag s c) (place_reflag c s)
theorem run_reflagAll (cs : List Chan) : Run q s (reflagAll cs s) := run_foldl (fun s c => run_reflag s c) cs s
theorem run_zeroReturn (c : Chan) : Run q s (s.modChan c ChanRec.zeroReturn) := run_modChan s fair_zeroReturn rfl

/-! ### Queues, held frames, exclusions and commits -/

theorem run_engine {e : Engine} (h : Sane q true s { s with engine := e }) (hm : e.moveQ = s.engine.moveQ) :
    Run q s { s with engine := e } := .of_same h fun d => by simp only [State.place, State.movesAt, hm]; rfl
theorem run_joinAdm (a : AdmReq) (h : s.engine.admQ.length < 8) : Run q s (joinAdm a s) := .of_same (sane_joinAdm a h) fun _ => rfl
theorem run_joinCom (r : ComReq) : Run false s (joinCom r s) := .of_same (sane_joinCom s r) fun _ => rfl
theorem run_joinPool {g : Group} (h : g ∉ s.engine.poolQ) : Run q s (joinPool g s) := .of_same (sane_joinPool h) fun _ => rfl
theorem run_replaceAdm (a : AdmReq) : Run q s (replaceHead (.adm a) s) := .of_same (sane_replaceAdm s a) fun _ => rfl
theorem run_replaceCom {x y : ComReq} (hx : q = true → s.head .commit = some (.com x)) (hc : y.chan = x.chan) :
    Run q s (replaceHead (.com y) s) := .of_same (sane_replaceCom hx hc) fun _ => rfl
theorem run_defer (d : Deferred) (h : s.engine.deferred.length < 4) :
    Run q s { s with engine := { s.engine with deferred := s.engine.deferred ++ [d] } } := .of_same (sane_defer d h) fun _ => rfl
theorem run_heldFrames {v : List HeldFrame} (h : s.heldFrames.length ≤ 8 → v.length ≤ 8) :
    Run q s { s with heldFrames := v } := .of_same (sane_heldFrames h) fun _ => rfl
theorem run_dropHeld (c : Chan) : Run q s (dropHeld c s) := .of_same (sane_dropHeld c s) fun _ => rfl
theorem run_setCommit {z : Stage} {v : CommitState}
    (hlink : (s.port (.stage z)).up = true ∨ v = .idle ∨ s.commits[z] ≠ .idle)
    (hphase : q = true → ∀ r n, s.commits[z] = .committing r → r.phase = .stepping n →
      ∃ r', v = .committing r' ∧ r'.phase = .stepping n) : Run q s (s.setCommit z v) :=
  .of_same (sane_setCommit hlink hphase) fun _ => rfl
theorem place_modCommit (z : Stage) (f : CommitRec → CommitRec) (d : Chan) : (modCommit z f s).place d = s.place d := by
  unfold modCommit; split <;> rfl
theorem run_modCommit (z : Stage) {f : CommitRec → CommitRec} (hf : ∀ r, (f r).phase = r.phase) :
    Run q s (modCommit z f s) := .of_same (sane_modCommit z hf s) (place_modCommit s z f)
theorem run_rephase (z : Stage) (f : CommitRec → CommitRec) : Run false s (modCommit z f s) :=
  .of_same (sane_rephase z f s) (place_modCommit s z f)
theorem run_dropNote (c : Chan) : Run q s (s.dropNote c) := run_notes s _
theorem run_setCap (c : Chan) (e : Option Cap) : Run q s (s.setCap c e) := run_caps s _
theorem run_setStaged (c : Chan) (e : Staged) : Run q s (s.setStaged c e) := run_staging s _
end

/-! ## The MOVE queue and the backlog lose what they held -/

section
variable (s : State)

/-- MOVE requests leave. -/
theorem run_moves {t : State} (h : Sane q true s t) (hplace : ∀ c, (t.place c).moves.Sublist (s.movesAt c)
    ∧ t.place c = { s.place c with moves := (t.place c).moves }) : Run q s t := by
  refine Run.of_sane h fun hs => ⟨fun c => ?_, (h.unique hs.unique).2.2.2⟩
  obtain ⟨hsub, heq⟩ := hplace c
  obtain ⟨h1, h2, h3, h4, h5, h6⟩ := hs.1 c
  rw [heq]
  exact ⟨h1, hsub.length_le.trans h2, h3, h4, h5, fun hne => h6 fun hnil => hne (List.sublist_nil.mp (hnil ▸ hsub))⟩
theorem run_filterMoves (p : MoveReq → Bool) :
    Run q s { s with engine := { s.engine with moveQ := s.engine.moveQ.filter p } } :=
  run_moves s (sane_engine id id (fun _ => id) fun _ => List.Sublist.refl _) fun _ =>
    ⟨List.Sublist.filter _ List.filter_sublist, rfl⟩
theorem run_leaveHead (x : ReqClass) : Run q s (leaveHead x s) := by
  cases x with
  | move =>
    exact run_moves s (sane_leaveHead .move s) fun c => ⟨List.Sublist.filter _ (List.tail_sublist _), rfl⟩
  | admission => exact .of_same (sane_leaveHead .admission s) fun _ => rfl
  | commit => exact .of_same (sane_leaveHead .commit s) fun _ => rfl
  | pool => exact .of_same (sane_leaveHead .pool s) fun _ => rfl

theorem itemsAt_filter (p : Item → Bool) (c : Chan) :
    State.itemsAt { s with backlog := s.backlog.filter p } c = (s.itemsAt c).filter p := by
  simp only [State.itemsAt, List.filter_filter]
  exact List.filter_congr fun _ _ => Bool.and_comm _ _
/-- Items leave the backlog; a PUSH item of a MOVING channel stays. -/
theorem run_filterBacklog {p : Item → Bool}
    (hp : Sound s → ∀ i ∈ s.backlog, i.want = .push → (s.chan i.chan).state = .moving → p i = true) :
    Run q s { s with backlog := s.backlog.filter p } := by
  have hsane : Sane q true s { s with backlog := s.backlog.filter p } := sane_filterBacklog s p
  refine Run.of_sane hsane fun hs => ⟨fun c => ?_, (hsane.unique hs.unique).2.2.2⟩
  obtain ⟨h1, h2, h3, h4, h5, h6⟩ := hs.1 c
  have hitems : (State.place { s with backlog := s.backlog.filter p } c).items = (s.itemsAt c).filter p :=
    itemsAt_filter s p c
  refine ⟨?_, h2, h3, h4, fun hm => ?_, h6⟩
  · rw [hitems]
    exact (Nat.add_le_add_left (List.length_filter_le _ _) _).trans h1
  · refine (h5 hm).imp id fun ⟨i, hi, hw⟩ => ⟨i, ?_, hw⟩
    obtain ⟨hmem, hic⟩ := mem_itemsAt.mp hi
    subst hic
    rw [hitems]
    exact List.mem_filter.mpr ⟨hi, hp hs i hmem hw hm⟩
/-- SEARCH and RETURN items leave. -/
theorem run_filterItems {p : Item → Bool} (hp : ∀ i, i.want = .push → p i = true) :
    Run q s { s with backlog := s.backlog.filter p } := run_filterBacklog s fun _ i _ hw _ => hp i hw
theorem Sound.pending_of_moving {s : State} (h : Sound s) {c : Chan} (hm : (s.chan c).state = .moving) :
    (s.chan c).pending.isSome = true := by
  have hshaped := h.shaped c
  simp only [ChanRec.shaped, hm, Bool.and_eq_true] at hshaped
  exact hshaped.1.1
theorem run_pruneBacklog : Run q s (pruneBacklog s) := by
  refine run_filterBacklog s fun hs i hi hw hm => ?_
  have hnone := entryOf_of_item hs.unique hi
  simp [State.itemStands, hw, hm, hs.pending_of_moving hm, hnone]
theorem run_dropItem {c : Chan} (h : Sound s → (s.chan c).state ≠ .moving) : Run q s (s.dropItem c) := by
  refine run_filterBacklog s fun hs i _ _ hm => decide_eq_true fun e => ?_
  exact h hs (e ▸ hm)
end

/-! ## Entries -/

section
variable {s : State}

theorem run_dropEntry {c : Chan} (h : Sound s → s.movesAt c = [] ∧ (s.chan c).state ≠ .moving) :
    Run q s (s.dropEntry c) := by
  refine .of_local (sane_dropEntry s c) c (fun d hd => by rw [place_dropEntry, if_neg hd]) fun hs => ?_
  obtain ⟨hmoves, hstate⟩ := h hs
  rw [place_dropEntry, if_pos rfl]
  exact place_idle rfl (hs.itemsAt_length c) hmoves (hs.shaped c) fun hm => absurd hm hstate
/-- An entry changes but for its channel, its state, its origin and its target. -/
theorem run_putEntry {e e' : Entry} (he : s.entryOf e.chan = some e) (hchan : e'.chan = e.chan)
    (hstate : e'.state = e.state) (horigin : e'.origin = e.origin) (htarget : e'.target = e.target) :
    Run q s (s.putEntry e') := by
  have hsane : Sane q true s (s.putEntry e') :=
    sane_putEntry fun _ h => .inr ⟨e, by rw [hchan]; exact he, by rw [← hstate]; exact h⟩
  refine .of_local hsane e.chan (fun d hd => by rw [place_putEntry, if_neg (hchan ▸ hd)]) fun hs => ?_
  obtain ⟨hentries, hitems⟩ := hs.entriesAt_eq he
  obtain ⟨h1, h2, h3, h4, h5, h6⟩ := hs.1 e.chan
  have hstands := hs.stands he
  rw [place_putEntry, if_pos hchan.symm, hentries, List.map_singleton]
  by_cases hsearch : e.state = .searching
  · exact place_searching (e := e') rfl hitems h2 h3 (hstate.trans hsearch)
      ((stands_searching (hstate.trans hsearch)).mpr (horigin ▸ (stands_searching hsearch).mp hstands))
  · have hsearch' : e'.state ≠ .searching := hstate ▸ hsearch
    refine place_moving (e := e') rfl hitems (hs.movesAt_of_entry he hsearch) h3 hsearch'
      ((stands_moving hsearch').mpr ?_)
    rw [horigin, htarget]
    exact (stands_moving hsearch).mp hstands
/-- An entry that is not SEARCHING goes to another such state. -/
theorem run_moveEntry {e e' : Entry} (hsane : Sane q true s (s.putEntry e')) (he : s.entryOf e.chan = some e)
    (hs : e.state ≠ .searching) (hchan : e'.chan = e.chan) (hs' : e'.state ≠ .searching)
    (horigin : e'.origin = e.origin) (htarget : e'.target = e.target) : Run q s (s.putEntry e') := by
  refine .of_local hsane e.chan (fun d hd => by rw [place_putEntry, if_neg (hchan ▸ hd)]) fun hsound => ?_
  obtain ⟨hentries, hitems⟩ := hsound.entriesAt_eq he
  have hstands := hsound.stands he
  rw [place_putEntry, if_pos hchan.symm, hentries, List.map_singleton]
  refine place_moving (e := e') rfl hitems (hsound.movesAt_of_entry he hs) (hsound.1 e.chan).shaped hs'
    ((stands_moving hs').mpr ?_)
  rw [horigin, htarget]
  exact (stands_moving hs).mp hstands
/-- An item joins the backlog for a channel with neither entry nor item. -/
theorem run_joinBacklog {i : Item} (hentry : s.entryOf i.chan = none) (hitem : s.itemOf i.chan = none) :
    Run q s (joinBacklog i s) := by
  refine .of_local (sane_joinBacklog hentry hitem) i.chan
    (fun d hd => by rw [place_joinBacklog, if_neg hd]) fun hs => ?_
  obtain ⟨h1, h2, h3, h4, h5, h6⟩ := hs.1 i.chan
  rw [place_joinBacklog, if_pos rfl, (itemOf_eq_none_iff s i.chan).mp hitem]
  refine place_idle ((entryOf_eq_none_iff s i.chan).mp hentry) le_rfl (hs.movesAt_of_none hentry) h3 fun hm => ?_
  rcases h5 hm with ⟨e, he, _⟩ | ⟨j, hj, _⟩
  · rw [place_entries, (entryOf_eq_none_iff s i.chan).mp hentry] at he; cases he
  · rw [place_items, (itemOf_eq_none_iff s i.chan).mp hitem] at hj; cases hj
end

end Sys2Proof.Machine
end

section
/-! The Engine, the replacement search, and the beginnings and ends of moves keep what `Run` says (R46 to R60, R131 to R154). -/

namespace Sys2Proof.Machine

variable {q : Bool}

/-! ## Free choices -/

theorem run_usePick (n : Nat) (s : State) : Run q s (usePick n s) := run_ite (fun _ => Run.refl s) fun _ => run_freeCount s _
theorem freeOrder_perm {α : Type} (n : Nat) (xs : List α) (s : State) : (freeOrder n xs s).1.Perm xs := by
  induction n generalizing xs s with
  | zero => exact List.Perm.refl _
  | succ n ih =>
    simp only [freeOrder]
    split
    next x hx =>
      obtain ⟨hlt, rfl⟩ := List.getElem?_eq_some_iff.mp hx
      exact ((ih _ _).cons _).trans (List.getElem_cons_eraseIdx_perm hlt)
    · exact List.Perm.refl _
theorem usePick_eq (n : Nat) (s : State) : ∃ m, usePick n s = { s with freeCount := m } := by
  unfold usePick; split
  · exact ⟨s.freeCount, rfl⟩
  · exact ⟨_, rfl⟩
theorem freeOrder_state {α : Type} (n : Nat) (xs : List α) (s : State) :
    ∃ m, (freeOrder n xs s).2 = { s with freeCount := m } := by
  induction n generalizing xs s with
  | zero => exact ⟨s.freeCount, rfl⟩
  | succ n ih =>
    simp only [freeOrder]
    split
    · obtain ⟨m, hm⟩ := usePick_eq xs.length s
      obtain ⟨m', hm'⟩ := ih (xs.eraseIdx (freePick s xs.length)) (usePick xs.length s)
      exact ⟨m', by rw [hm', hm]⟩
    · exact ⟨s.freeCount, rfl⟩

/-! ## The Engine -/

/-- Pools without a request join the POOL queue. -/
theorem run_joinPools {gs : List Group} {s : State} (hn : gs.Nodup) (hnew : ∀ g ∈ gs, g ∉ s.engine.poolQ) :
    Run q s (gs.foldl (fun s g => joinPool g s) s) := by
  induction gs generalizing s with
  | nil => exact Run.refl s
  | cons g gs ih =>
    obtain ⟨hg, hn⟩ := List.nodup_cons.mp hn
    refine (run_joinPool s (hnew g List.mem_cons_self)).trans (ih hn fun x hx hmem => ?_)
    rcases List.mem_append.mp hmem with hmem | hmem
    · exact hnew x (List.mem_cons_of_mem g hx) hmem
    · exact hg (List.mem_singleton.mp hmem ▸ hx)
theorem run_queueRechecks (s : State) : Run q s (queueRechecks s) := by
  unfold queueRechecks
  dsimp only
  generalize hgs : ((List.finRange 4).filter fun g => s.needsRecheck g && !s.engine.poolQ.contains g) = gs
  have hperm := freeOrder_perm gs.length gs s
  obtain ⟨m, hm⟩ := freeOrder_state gs.length gs s
  rw [hm]
  refine (run_freeCount s m).trans (run_joinPools ?_ fun g hg hmem => ?_)
  · rw [hperm.nodup_iff, ← hgs]
    exact (List.nodup_finRange 4).filter _
  · have hmem' := hperm.mem_iff.mp hg
    rw [← hgs, List.mem_filter] at hmem'
    have hno := (Bool.and_eq_true_iff.mp hmem'.2).2
    rw [Bool.not_eq_true', List.contains_eq_mem, decide_eq_false_iff_not] at hno
    exact hno hmem
theorem run_endRevert (o : Oper) (s : State) : Run q s (endRevert o s) := run_refuse s _ _ _
theorem run_restartService (s : State) : Run q s (restartService s) := by
  unfold restartService
  split
  · exact Run.refl s
  · refine run_ite (fun _ => Run.refl s) fun _ => run_ite (fun _ => ?_) fun _ => run_setService s _
    split
    · exact run_setService s _
    · split
      · exact ((run_endService s).trans (run_leaveHead _ .admission)).trans (run_endRevert _ _)
      · exact run_setService s _
theorem run_beginService (cls : ReqClass) (r : Served) (f : Option Nat) (s : State) : Run q s (beginService cls r f s) :=
  run_setService s _
theorem run_unmark (w : Work) (s : State) : Run q s (w.unmark s) := by
  cases w with
  | pool g f => exact run_markEntry s g f false
  | _ => exact Run.refl s
theorem run_withdrawMove (c : Chan) (s : State) : Run q s (withdrawMove c s) :=
  ((run_discardIf s _).trans (run_foldl (fun s (m : MoveReq) => run_unmark m.work s) _ _)).trans (run_filterMoves _ _)
theorem run_withdrawGuard (c : Chan) (s : State) : Run q s (withdrawGuard c s) :=
  (run_discardIf s _).trans (run_engine _ (sane_engine (List.length_filter_le _ _).trans id (fun _ => id)
    fun _ => List.Sublist.refl _) rfl)
theorem run_withdrawCommit (z : Stage) (s : State) : Run q s (withdrawCommit z s) :=
  ((run_discardIf s _).trans (run_foldl (fun s (r : ComReq) => run_unmark r.work s) _ _)).trans
    (run_engine _ (sane_engine id id (fun _ => id) fun _ => List.filter_sublist.map _) rfl)
theorem run_conflictAdopted (c : Chan) (f : Nat) (x : AdoptKind) (v : Verdict) (a b : Option Chan) (s : State) :
    Run q s (conflictAdopted c f x v a b s) := run_notifyChan s _ _ _
theorem run_queuePost (c : Chan) (f : Nat) (x : AdoptKind) (s : State) : Run q s (queuePost c f x s) :=
  run_ite (fun _ => run_conflictAdopted c f x _ _ _ s) fun h => run_joinAdm s _ (length_of_admFull h)

/-! ## The replacement search -/

theorem run_searchNext (c : Chan) (x : Search) (s : State) : Run q s (searchNext c x s).2 := by
  unfold searchNext
  dsimp only
  split
  · exact Run.refl s
  · split
    · exact run_markEntry s _ _ _
    · exact Run.refl s
theorem run_candidateDone (c : Chan) (x : Search) (g : Group) (f : Nat) (r : Result) (s : State) :
    Run q s (candidateDone c x g f r s).2 := by
  unfold candidateDone
  dsimp only
  refine (run_markEntry s g f false).trans ?_
  split
  · split
    · exact Run.refl _
    · exact run_searchNext _ _ _
  · refine Run.trans ?_ (run_searchNext _ _ _)
    exact run_ite (fun _ => run_blockEntry _ _ _) fun _ => Run.refl _
theorem run_searchDone (c : Chan) (w : Work) (x : Search) (o : Outcome) (s : State) : Run q s (searchDone c w x o s).2 := by
  unfold searchDone
  split
  · exact run_candidateDone c x _ _ _ s
  · split <;> exact Run.refl s
  · exact Run.refl s
/-- A search and a candidate change pools and marks alone. -/
theorem searchNext_changes_pools (c : Chan) (x : Search) (s : State) :
    (searchNext c x s).2 = { s with pools := (searchNext c x s).2.pools } := by
  unfold searchNext
  dsimp only
  split
  · rfl
  · split <;> rfl
theorem candidateDone_changes_pools (c : Chan) (x : Search) (g : Group) (f : Nat) (r : Result) (s : State) :
    (candidateDone c x g f r s).2 = { s with pools := (candidateDone c x g f r s).2.pools } := by
  unfold candidateDone
  dsimp only
  split
  · split
    · rfl
    · rw [searchNext_changes_pools]; rfl
  · rw [searchNext_changes_pools]
    split <;> rfl
theorem searchDone_changes_pools (c : Chan) (w : Work) (x : Search) (o : Outcome) (s : State) :
    (searchDone c w x o s).2 = { s with pools := (searchDone c w x o s).2.pools } := by
  unfold searchDone
  split
  · exact candidateDone_changes_pools c x _ _ _ s
  · split <;> rfl
  · rfl

/-! ## Holds and commits -/

theorem shaped_held {r : ChanRec} (h : r.shaped = true) (hs : r.state = .active ∨ r.state = .held) (x : HeldCause) :
    ({ r with state := .held, heldCause := some x } : ChanRec).shaped = true := by
  rcases hs with hs | hs <;> simp_all [ChanRec.shaped]
theorem sane_setHeld (c : Chan) (x : HeldCause) (s : State) {k : Bool} : Sane q k s (setHeld c x s) :=
  sane_modChan (fair_lit id id rfl rfl (.inr (.inl rfl))) fun _ => List.Subset.refl _
theorem place_setHeld (c : Chan) (x : HeldCause) (s : State) (d : Chan) : (setHeld c x s).place d = if d = c then
    { s.place d with seat := ({ s.chan c with state := .held, heldCause := some x } : ChanRec).seat } else s.place d :=
  place_modChan s c _ d
/-- An ACTIVE or HELD channel becomes HELD. -/
theorem run_setHeld {c : Chan} {x : HeldCause} {s : State}
    (h : Sound s → (s.chan c).state = .active ∨ (s.chan c).state = .held) : Run q s (setHeld c x s) := by
  refine .of_local (sane_setHeld c x s) c (fun d hd => by rw [place_setHeld, if_neg hd]) fun hs => ?_
  have hlit := h hs
  obtain ⟨h1, h2, h3, h4, h5, h6⟩ := hs.1 c
  rw [place_setHeld, if_pos rfl]
  refine ⟨h1, h2, shaped_held h3 hlit x, fun e he => ?_, fun hm => (nomatch hm), h6⟩
  have hstands := h4 e he
  by_cases hsearch : e.state = .searching
  · exact (stands_searching hsearch).mpr ⟨((stands_searching hsearch).mp hstands).1, .inr rfl⟩
  · have hmoving := ((stands_moving hsearch).mp hstands).1
    rcases hlit with hlit | hlit <;> simp [hlit] at hmoving
theorem run_notifyHeld (c : Chan) (x : HeldCause) (s : State) : Run q s (notifyHeld c x s) := run_notifyChan s _ _ _
theorem sane_doubleFault (c : Chan) (s : State) {k : Bool} : Sane q k s (doubleFault c s) :=
  ((sane_setHeld c _ s).trans (sane_setLatch _ _)).trans (sane_notifyChan _ _ _ _)
theorem run_doubleFault {c : Chan} {s : State}
    (h : Sound s → (s.chan c).state = .active ∨ (s.chan c).state = .held) : Run q s (doubleFault c s) :=
  ((run_setHeld h).trans (run_setLatch _ _)).trans (run_notifyHeld _ _ _)

theorem run_pushEnded (c : Chan) (done : Bool) (s : State) : Run q s (pushEnded c done s) := by
  unfold pushEnded
  split
  next r hr =>
    refine run_ite (fun _ => ?_) fun _ => Run.refl s
    have hc := commitRec_eq_some.mp hr
    refine run_setCommit s (.inr (.inr (by rw [hc]; exact fun h => nomatch h))) fun _ r' n hr' hn => ?_
    rw [hc] at hr'
    obtain rfl : r = r' := by injection hr'
    cases done <;> exact ⟨_, rfl, hn⟩
  · exact Run.refl s

/-! ## Sending -/

theorem run_sendTune (c : Chan) (t : Nat) (s : State) : Run q s (sendTune c t s) := run_originate s _ _ _
theorem sendEntry_none {c : Chan} {s : State} (h : s.entryOf c = none) : sendEntry c s = s := by
  simp only [sendEntry, h]
/-- What a send does to the table, and the TUNE it may send. -/
theorem sendEntry_some {c : Chan} {s : State} {e : Entry} (h : s.entryOf c = some e) :
    sendEntry c s = s.putEntry (e.sent s.now) ∨ ∃ t, sendEntry c s = sendTune c t (s.putEntry (e.sent s.now)) := by
  simp only [sendEntry, h]
  split
  · split
    · exact .inl rfl
    · exact .inr ⟨_, rfl⟩
  · exact .inl rfl
theorem sane_sendEntry (c : Chan) (s : State) {k : Bool} : Sane q k s (sendEntry c s) := by
  cases h : s.entryOf c with
  | none => rw [sendEntry_none h]; exact Sane.refl s
  | some e =>
    have hput : Sane q k s (s.putEntry (e.sent s.now)) := sane_putEntry fun _ hp => nomatch hp
    rcases sendEntry_some h with heq | ⟨t, heq⟩
    · rw [heq]; exact hput
    · rw [heq]; exact hput.trans (sane_originate _ _ _ _)
theorem place_sendEntry {c : Chan} {s : State} {e : Entry} (h : s.entryOf c = some e) (d : Chan) :
    (sendEntry c s).place d = (s.putEntry (e.sent s.now)).place d := by
  rcases sendEntry_some h with heq | ⟨t, heq⟩
  · rw [heq]
  · rw [heq, sendTune, place_originate]
theorem run_sendEntry {c : Chan} {s : State} (h : Sound s → ∀ e, s.entryOf c = some e → e.state ≠ .searching) :
    Run q s (sendEntry c s) := by
  refine Run.of_sound (sane_sendEntry c s) fun hs => ?_
  cases he : s.entryOf c with
  | none => rw [sendEntry_none he]; exact Run.refl s
  | some e =>
    have hc := entryOf_chan he
    have hput : Run false s (s.putEntry (e.sent s.now)) :=
      run_moveEntry (sane_putEntry fun _ hp => nomatch hp) (by rw [hc]; exact he) (h hs e he) rfl (fun hp => nomatch hp)
        rfl rfl
    rcases sendEntry_some he with heq | ⟨t, heq⟩
    · rw [heq]; exact hput
    · rw [heq]; exact hput.trans (run_sendTune _ _ _)

/-! ## Endings of a search without a move -/

theorem sane_noCandidate (c : Chan) (x : Search) (s : State) {k : Bool} : Sane q k s (noCandidate c x s) :=
  (((sane_setHeld c _ s).trans (sane_dropEntry _ c)).trans (sane_bumpStage _ _ _)).trans (sane_notifyChan _ _ _ _)
theorem run_noCandidate {c : Chan} {x : Search} {s : State}
    (h : Sound s → s.movesAt c = [] ∧ ((s.chan c).state = .active ∨ (s.chan c).state = .held)) :
    Run q s (noCandidate c x s) := by
  refine Run.of_sound (sane_noCandidate c x s) fun hs => ?_
  obtain ⟨hmoves, hlit⟩ := h hs
  refine (((run_setHeld fun _ => hlit).trans (run_dropEntry fun _ => ⟨hmoves, ?_⟩)).trans (run_bumpStage _ _ _)).trans
    (run_notifyChan _ _ _ _)
  rw [setHeld, chan_modChan_same]; exact fun h => nomatch h
theorem returnSkip_fair (b : Bool) (ps : Vector Profile 8) (r : ChanRec) :
    r.Fair ps (if b then r.zeroReturn else { r with returnWatch := none }) := by
  cases b
  · exact fair_same rfl rfl rfl rfl rfl
  · exact fair_zeroReturn
theorem run_skipRecord (c : Chan) (b : Bool) (s : State) :
    Run q s (s.modChan c fun r => if b then r.zeroReturn else { r with returnWatch := none }) :=
  run_modChan s (returnSkip_fair b _ _) (by cases b <;> rfl)
theorem sane_returnSkip (c : Chan) (b : Bool) (s : State) : Sane q false s (returnSkip c b s) :=
  ((sane_dropEntry s c).trans (run_skipRecord c b _).sane).trans (sane_bumpStage _ _ _)
theorem run_returnSkip {c : Chan} {b : Bool} {s : State}
    (h : Sound s → s.movesAt c = [] ∧ (s.chan c).state ≠ .moving) : Run q s (returnSkip c b s) :=
  ((run_dropEntry h).trans (run_skipRecord c b _)).trans (run_bumpStage _ _ _)

/-! ## A search that goes on -/

theorem place_askMove (s : State) (m : MoveReq) (e : Entry) (d : Chan) : (joinMove m (s.putEntry e)).place d =
    if d = m.chan then { (s.putEntry e).place d with moves := s.movesAt d ++ [m] } else (s.putEntry e).place d :=
  place_joinMove _ m d
/-- A MOVE request joins for a SEARCHING entry that has none. -/
theorem run_joinMove {c : Chan} {w : Work} {s : State} {e : Entry} (he : s.entryOf c = some e)
    (hs : e.state = .searching) (hm : Sound s → s.movesAt c = []) : Run q s (joinMove ⟨c, w⟩ s) := by
  refine .of_local (sane_joinMove s _) c (fun d hd => by rw [place_joinMove, if_neg hd]) fun hsound => ?_
  obtain ⟨hentries, hitems⟩ := hsound.entriesAt_eq he
  rw [place_joinMove, if_pos rfl, hm hsound]
  exact place_searching hentries hitems le_rfl (hsound.1 c).shaped hs (hsound.stands he)
theorem entryOf_putEntry_same {s : State} {e e' : Entry} (he : s.entryOf e.chan = some e) (hc : e'.chan = e.chan) :
    (s.putEntry e').entryOf e.chan = some e' := by
  unfold State.entryOf at he ⊢
  rw [putEntry_table, List.find?_map]
  have hfun : (fun x : Entry => decide (x.chan = e.chan)) ∘ e'.replacing = fun x => decide (x.chan = e.chan) :=
    funext fun x => by simp [chan_replacing]
  rw [hfun, he]
  simp [Entry.replacing, hc]
theorem entryOf_putEntry_other (s : State) {e : Entry} {c : Chan} (hc : c ≠ e.chan) :
    (s.putEntry e).entryOf c = s.entryOf c := by
  unfold State.entryOf
  rw [putEntry_table, List.find?_map]
  have hfun : (fun x : Entry => decide (x.chan = c)) ∘ e.replacing = fun x => decide (x.chan = c) :=
    funext fun x => by simp [chan_replacing]
  rw [hfun]
  cases h : s.table.find? fun x => decide (x.chan = c) with
  | none => rfl
  | some x =>
    have hx : x.chan = c := by simpa using List.find?_some h
    simp [Entry.replacing, hx, hc]
theorem sane_askSearch (c : Chan) (st : SearchStep) (s : State) {k : Bool} : Sane q k s (askSearch c st s) := by
  unfold askSearch
  split
  next e w x he =>
    have hc := entryOf_chan he
    have hput : Sane q k s (s.putEntry { e with search := x }) :=
      sane_putEntry fun _ hp => .inr ⟨e, by rw [hc]; exact he, hp⟩
    exact hput.trans (sane_joinMove _ _)
  · exact sane_noCandidate c _ s
  · exact Sane.refl s
theorem run_askSearch {c : Chan} {st : SearchStep} {s : State} (hm : Sound s → s.movesAt c = [])
    (hs : ∀ e, s.entryOf c = some e → e.state = .searching) : Run q s (askSearch c st s) := by
  refine Run.of_sound (sane_askSearch c st s) fun hsound => ?_
  unfold askSearch
  split
  next e w x he =>
    have hc := entryOf_chan he
    rw [← hc] at he ⊢
    have hput : Run false s (s.putEntry { e with search := x }) := run_putEntry he rfl rfl rfl rfl
    refine hput.trans (run_joinMove (entryOf_putEntry_same he rfl) (hs e (hc ▸ he)) fun _ => ?_)
    exact hc ▸ hm hsound
  next e x he => exact run_noCandidate fun _ => ⟨hm hsound, hsound.searching_state he (hs e he)⟩
  · exact Run.refl s

end Sys2Proof.Machine
end

section
/-! The retune table and the backlog from end to end: the arbiter, reservations, completions, failures, proposals and spoils
keep what `Run` says (R137 to R154). -/

namespace Sys2Proof.Machine

variable {q : Bool}

/-! ## Places elsewhere -/

theorem place_setHeld_other {c d : Chan} (h : d ≠ c) (x : HeldCause) (s : State) : (setHeld c x s).place d = s.place d := by
  rw [place_setHeld, if_neg h]
theorem place_noCandidate_other {c d : Chan} (h : d ≠ c) (x : Search) (s : State) :
    (noCandidate c x s).place d = s.place d := by
  simp only [noCandidate, place_notifyChan, place_bumpStage, place_dropEntry, if_neg h, place_setHeld_other h]
theorem place_returnSkip_other {c d : Chan} (h : d ≠ c) (b : Bool) (s : State) :
    (returnSkip c b s).place d = s.place d := by
  simp only [returnSkip, place_bumpStage, place_modChan, place_dropEntry, if_neg h]
theorem place_askSearch_other {c d : Chan} (h : d ≠ c) (st : SearchStep) (s : State) :
    (askSearch c st s).place d = s.place d := by
  unfold askSearch
  split
  next e w x he => rw [place_joinMove, if_neg h, place_putEntry, if_neg (by rw [entryOf_chan he]; exact h)]
  · exact place_noCandidate_other h _ s
  · rfl
theorem place_sendEntry_other {c d : Chan} (h : d ≠ c) (s : State) : (sendEntry c s).place d = s.place d := by
  cases he : s.entryOf c with
  | none => rw [sendEntry_none he]
  | some e =>
    have hne : d ≠ e.chan := fun hd => h (hd.trans (entryOf_chan he))
    rw [place_sendEntry he, place_putEntry, if_neg (show d ≠ (e.sent s.now).chan from hne)]
@[simp] theorem place_searchNext (c : Chan) (x : Search) (s : State) (d : Chan) :
    (searchNext c x s).2.place d = s.place d := by rw [searchNext_changes_pools]; rfl

/-! ## The arbiter -/

/-- An item is there to be served: the move of a PUSH item's channel is under way, another item's channel is ACTIVE or
HELD. -/
def Place.ready (p : Place) : Prop := ∀ i ∈ p.items,
  if i.want = .push then p.seat.state = .moving else p.seat.state = .active ∨ p.seat.state = .held
def Ready (s : State) : Prop := ∀ c, (s.place c).ready
theorem ready_of_stands {s : State} (h : ∀ i ∈ s.backlog, s.itemStands i = true) : Ready s := by
  intro c i hi
  obtain ⟨hmem, rfl⟩ := mem_itemsAt.mp hi
  have hst := h i hmem
  unfold State.itemStands at hst
  cases hw : i.want <;> simp_all [State.movable]

theorem entryOf_addEntry {s : State} {e : Entry} (h : s.entryOf e.chan = none) : (addEntry e s).entryOf e.chan = some e := by
  change (s.table ++ [e]).find? (fun x => decide (x.chan = e.chan)) = some e
  have h' : s.table.find? (fun x => decide (x.chan = e.chan)) = none := h
  rw [List.find?_append, h']
  simp
/-- The entry a served item becomes, with the item gone. -/
theorem place_enter (s : State) (e : Entry) (d : Chan) : (addEntry e (s.dropItem e.chan)).place d =
    if d = e.chan then { s.place d with entries := s.entriesAt d ++ [e], items := [] } else s.place d := by
  rw [place_addEntry, place_dropItem]
  split <;> rfl
theorem run_enter {s : State} {e : Entry} (hroom : s.table.length < 12) (hs : e.state = .searching)
    (hnone : s.entryOf e.chan = none) (horigin : e.origin = .auto ∨ e.origin = .ret)
    (hlit : (s.chan e.chan).state = .active ∨ (s.chan e.chan).state = .held) :
    Run q s (addEntry e (s.dropItem e.chan)) := by
  refine .of_local (sane_enter hroom (by rw [hs]; exact fun h => nomatch h) fun _ => hnone) e.chan
    (fun d hd => by rw [place_enter, if_neg hd]) fun hsound => ?_
  rw [place_enter, if_pos rfl, (entryOf_eq_none_iff s e.chan).mp hnone]
  exact place_searching (e := e) rfl rfl (hsound.1 e.chan).asks (hsound.shaped _) hs
    ((stands_searching hs).mpr ⟨horigin, hlit⟩)

/-- The entry of a SEARCH or RETURN item, and the one of a PUSH item. -/
def searchEntry (s : State) (i : Item) (o : Origin) : Entry :=
  { freshEntry (s.dropItem i.chan) i.chan o with want := some (i.want, i.join) }
def pushEntry (s : State) (i : Item) : Entry :=
  { freshEntry (s.dropItem i.chan) i.chan .commit with target := (s.chan i.chan).pending, spoil := i.spoil }
theorem serveItem_search {i : Item} (h : i.want = .search) (s : State) : serveItem i s =
    let s2 := addEntry (searchEntry s i .auto) (s.dropItem i.chan)
    askSearch i.chan (searchNext i.chan Search.start s2).1 (searchNext i.chan Search.start s2).2 := by
  simp only [serveItem, h, searchEntry]
theorem serveItem_ret {i : Item} (h : i.want = .ret) (s : State) : serveItem i s =
    let s2 := addEntry (searchEntry s i .ret) (s.dropItem i.chan)
    if (s2.chan i.chan).prior.isNone then returnSkip i.chan false s2 else joinMove ⟨i.chan, .prior⟩ s2 := by
  simp only [serveItem, h, searchEntry]
theorem serveItem_push {i : Item} (h : i.want = .push) (s : State) : serveItem i s =
    sendEntry i.chan (addEntry (pushEntry s i) (s.dropItem i.chan)) := by
  simp only [serveItem, h, pushEntry]; rfl

theorem sane_serveItem {i : Item} {s : State} (hi : i ∈ s.backlog) (hroom : s.table.length < 12) :
    Sane q false s (serveItem i s) := by
  have henter : ∀ e : Entry, e.chan = i.chan → e.state = .searching →
      Sane q false s (addEntry e (s.dropItem i.chan)) := fun e hc hs =>
    hc ▸ sane_enter hroom (by rw [hs]; exact fun h => nomatch h) fun hu => hc ▸ entryOf_of_item hu hi
  cases hw : i.want with
  | search =>
    rw [serveItem_search hw]
    exact ((henter _ rfl rfl).trans (run_searchNext _ _ _).sane).trans (sane_askSearch _ _ _)
  | ret =>
    rw [serveItem_ret hw]
    exact (henter _ rfl rfl).trans (sane_ite (fun _ => sane_returnSkip _ _ _) fun _ => sane_joinMove _ _)
  | push =>
    rw [serveItem_push hw]
    exact (henter _ rfl rfl).trans (sane_sendEntry _ _)
theorem place_serveItem_other {i : Item} {d : Chan} (h : d ≠ i.chan) (s : State) :
    (serveItem i s).place d = s.place d := by
  have henter : ∀ e : Entry, e.chan = i.chan → (addEntry e (s.dropItem i.chan)).place d = s.place d := fun e hc => by
    rw [← hc, place_enter, if_neg (hc ▸ h)]
  cases hw : i.want with
  | search =>
    rw [serveItem_search hw]
    exact (place_askSearch_other h _ _).trans ((place_searchNext _ _ _ d).trans (henter _ rfl))
  | ret =>
    rw [serveItem_ret hw]
    dsimp only
    split
    · exact (place_returnSkip_other h _ _).trans (henter _ rfl)
    · rw [place_joinMove, if_neg h]; exact henter _ rfl
  | push =>
    rw [serveItem_push hw]
    exact (place_sendEntry_other h _).trans (henter _ rfl)

theorem backlog_noCandidate (c : Chan) (x : Search) (s : State) : (noCandidate c x s).backlog = s.backlog := by
  simp [noCandidate, setHeld]
theorem backlog_returnSkip (c : Chan) (b : Bool) (s : State) : (returnSkip c b s).backlog = s.backlog := by
  simp [returnSkip]
theorem backlog_askSearch (c : Chan) (st : SearchStep) (s : State) : (askSearch c st s).backlog = s.backlog := by
  unfold askSearch
  split
  · rfl
  · exact backlog_noCandidate _ _ _
  · rfl
theorem backlog_sendEntry (c : Chan) (s : State) : (sendEntry c s).backlog = s.backlog := by
  cases he : s.entryOf c with
  | none => rw [sendEntry_none he]
  | some e =>
    rcases sendEntry_some he with heq | ⟨t, heq⟩
    · rw [heq]; rfl
    · rw [heq, sendTune, originate_backlog]; rfl
/-- A served item leaves the backlog, and nothing else joins or leaves it. -/
theorem backlog_serveItem (i : Item) (s : State) : (serveItem i s).backlog = (s.dropItem i.chan).backlog := by
  cases hw : i.want with
  | search =>
    rw [serveItem_search hw]
    exact (backlog_askSearch _ _ _).trans (by rw [searchNext_changes_pools]; rfl)
  | ret =>
    rw [serveItem_ret hw]
    dsimp only
    split
    · exact (backlog_returnSkip _ _ _).trans rfl
    · rfl
  | push =>
    rw [serveItem_push hw]
    exact (backlog_sendEntry _ _).trans rfl
theorem ready_serveItem {i : Item} {s : State} (h : Ready s) : Ready (serveItem i s) := by
  intro c
  by_cases hc : c = i.chan
  · intro j hj
    rw [place_items, State.itemsAt, backlog_serveItem] at hj
    have hmem := List.mem_filter.mp hj
    have hne := (List.mem_filter.mp hmem.1).2
    have heq := hmem.2
    simp only [decide_eq_true_eq] at hne heq
    exact absurd (heq.trans hc) hne
  · rw [place_serveItem_other hc]; exact h c

/-- A PUSH item becomes a SENT entry of its MOVING channel. -/
theorem run_servePush {i : Item} {s : State} (hi : i ∈ s.backlog) (hroom : s.table.length < 12) (hw : i.want = .push)
    (hready : (s.chan i.chan).state = .moving) : Run q s (serveItem i s) := by
  have hplace : ∀ e : Entry, e.chan = i.chan → s.entryOf i.chan = none → ∀ d,
      (sendEntry i.chan (addEntry e (s.dropItem i.chan))).place d = if d = i.chan then
        { s.place d with entries := [e.sent s.now], items := [] } else s.place d := fun e hc hnone d => by
    have hentry : (addEntry e (s.dropItem i.chan)).entryOf i.chan = some e := by
      rw [← hc]; exact entryOf_addEntry (s := s.dropItem e.chan) (by rw [hc]; exact hnone)
    split
    next hd =>
      subst hd
      have hnil := (entryOf_eq_none_iff s i.chan).mp hnone
      have hp := place_enter s e i.chan
      rw [hc, if_pos rfl, hnil] at hp
      rw [place_sendEntry hentry, place_putEntry, if_pos (show i.chan = (e.sent _).chan from hc.symm), hp, ← place_entries, hp]
      rfl
    next hd => rw [place_sendEntry_other hd, ← hc, place_enter, if_neg (hc ▸ hd)]
  refine Run.of_sound (sane_serveItem hi hroom) fun hs => ?_
  have hnone := entryOf_of_item hs.unique hi
  have hsane : Sane false true s (serveItem i s) := by
    rw [serveItem_push hw]
    refine Sane.trans ?_ (sane_sendEntry _ _)
    exact sane_enter (e := pushEntry s i) hroom (fun h : EntryState.searching = .proposed => nomatch h) fun _ => hnone
  refine .of_local hsane i.chan (fun d hd => place_serveItem_other hd s) fun _ => ?_
  rw [serveItem_push hw, hplace _ rfl hnone, if_pos rfl]
  have hsent : ((pushEntry s i).sent s.now).state ≠ .searching := EntryState.noConfusion
  exact place_moving (e := (pushEntry s i).sent s.now) rfl rfl (hs.movesAt_of_none hnone) (hs.shaped _) hsent
    ((stands_moving hsent).mpr ⟨hready, rfl, .inl ⟨Origin.noConfusion, Origin.noConfusion⟩⟩)
theorem run_serveItem {i : Item} {s : State} (hi : i ∈ s.backlog) (hroom : s.table.length < 12)
    (hready : Sound s → Ready s) : Run q s (serveItem i s) := by
  refine Run.of_sound (sane_serveItem hi hroom) fun hs => ?_
  have hnone := entryOf_of_item hs.unique hi
  have hcase := hready hs i.chan i (mem_itemsAt.mpr ⟨hi, rfl⟩)
  have hlit : i.want ≠ .push → (s.chan i.chan).state = .active ∨ (s.chan i.chan).state = .held := fun hw => by
    rwa [if_neg hw] at hcase
  have hmoves : ∀ e : Entry, State.movesAt (addEntry e (s.dropItem i.chan)) i.chan = [] :=
    fun _ => hs.movesAt_of_none hnone
  cases hw : i.want with
  | search =>
    rw [serveItem_search hw]
    have hl := hlit (by rw [hw]; exact fun h => nomatch h)
    have hentry : (addEntry (searchEntry s i .auto) (s.dropItem i.chan)).entryOf i.chan = some (searchEntry s i .auto) :=
      entryOf_addEntry (e := searchEntry s i .auto) (s := s.dropItem i.chan) hnone
    refine ((run_enter (e := searchEntry s i .auto) hroom rfl hnone (.inl rfl) hl).trans (run_searchNext _ _ _)).trans
      (run_askSearch (fun _ => ?_) fun e he => ?_)
    · rw [searchNext_changes_pools]; exact hmoves (searchEntry s i .auto)
    · rw [searchNext_changes_pools] at he
      obtain rfl := Option.some.inj (hentry.symm.trans he)
      rfl
  | ret =>
    rw [serveItem_ret hw]
    have hl := hlit (by rw [hw]; exact fun h => nomatch h)
    have hentry : (addEntry (searchEntry s i .ret) (s.dropItem i.chan)).entryOf i.chan = some (searchEntry s i .ret) :=
      entryOf_addEntry (e := searchEntry s i .ret) (s := s.dropItem i.chan) hnone
    refine (run_enter (e := searchEntry s i .ret) hroom rfl hnone (.inr rfl) hl).trans
      (run_ite (fun _ => run_returnSkip fun _ => ⟨hmoves _, fun hm => ?_⟩) fun _ => run_joinMove hentry rfl fun _ => hmoves _)
    have hm' : (s.chan i.chan).state = .moving := hm
    rcases hl with hl | hl <;> rw [hl] at hm' <;> cases hm'
  | push =>
    rw [if_pos hw] at hcase
    exact run_servePush hi hroom hw hcase

theorem length_of_tableFull {s : State} (h : ¬ s.tableFull = true) : s.table.length < 12 := by
  simpa [State.tableFull] using h
theorem mem_foremost {s : State} {i : Item} (h : i ∈ s.foremost) : i ∈ s.backlog :=
  List.mem_of_mem_filter (List.mem_of_mem_filter h)
theorem usePick_ready {n : Nat} {s : State} (h : Ready s) : Ready (usePick n s) := by
  obtain ⟨m, hm⟩ := usePick_eq n s
  rw [hm]; exact h
theorem backlog_usePick (n : Nat) (s : State) : (usePick n s).backlog = s.backlog := by
  obtain ⟨m, hm⟩ := usePick_eq n s
  rw [hm]
theorem table_usePick (n : Nat) (s : State) : (usePick n s).table = s.table := by
  obtain ⟨m, hm⟩ := usePick_eq n s
  rw [hm]
theorem run_arbiter (fuel : Nat) (s : State) : Sane q false s (arbiter fuel s) ∧ (Ready s → Run q s (arbiter fuel s)) := by
  induction fuel generalizing s with
  | zero => exact ⟨Sane.refl s, fun _ => Run.refl s⟩
  | succ fuel ih =>
    unfold arbiter
    by_cases hfull : s.tableFull = true
    · rw [if_pos hfull]; exact ⟨Sane.refl s, fun _ => Run.refl s⟩
    · rw [if_neg hfull]
      dsimp only
      split
      next i hi =>
        have hmem : i ∈ (usePick s.foremost.length s).backlog := by
          rw [backlog_usePick]; exact mem_foremost (List.mem_of_getElem? hi)
        have hroom : (usePick s.foremost.length s).table.length < 12 := by
          rw [table_usePick]; exact length_of_tableFull hfull
        obtain ⟨hsane, hrun⟩ := ih (serveItem i (usePick s.foremost.length s))
        refine ⟨((run_usePick _ s).sane.trans (sane_serveItem hmem hroom)).trans hsane, fun hr => ?_⟩
        have hr' := usePick_ready (n := s.foremost.length) hr
        exact ((run_usePick _ s).trans (run_serveItem hmem hroom fun _ => hr')).trans (hrun (ready_serveItem hr'))
      · exact ⟨Sane.refl s, fun _ => Run.refl s⟩

end Sys2Proof.Machine
end

section
/-! Moves from their reservation to their end keep what `Run` says (R143 to R154). -/

namespace Sys2Proof.Machine

variable {q : Bool}

/-! ## Shapes -/

theorem shaped_reserve {r : ChanRec} (h : r.shaped = true)
    (hs : r.state = .active ∨ r.state = .held ∨ r.state = .parked) (t : Nat) : (r.reserve t).shaped = true := by
  rcases hs with hs | hs | hs <;> simp_all [ChanRec.shaped, ChanRec.reserve, ChState.resting]
theorem shaped_complete (r : ChanRec) (t : Nat) (b : Bool) : (r.complete t b).shaped = true := by
  cases b <;> rfl
/-- A MOVING channel has its target and a state to return to. -/
theorem shaped_moving {r : ChanRec} (h : r.shaped = true) (hs : r.state = .moving) :
    (∃ t, r.pending = some t) ∧ ∃ x, r.ret = some x := by
  simp only [ChanRec.shaped, hs, Bool.and_eq_true] at h
  obtain ⟨⟨hp, _⟩, hr⟩ := h
  refine ⟨Option.isSome_iff_exists.mp hp, ?_⟩
  cases hret : r.ret with
  | none => rw [hret] at hr; cases hr
  | some x => exact ⟨x, rfl⟩
theorem release_of_moving {r : ChanRec} (hs : r.state = .moving) {x : Resting} (hx : r.ret = some x) : r.release =
    { r with pending := none, ret := none, state := x.state, watch := if x = .parked then Watch.off else r.watch } := by
  simp [ChanRec.release, hs, hx]
theorem shaped_release {r : ChanRec} (h : r.shaped = true) (hs : r.state = .moving) : r.release.shaped = true := by
  obtain ⟨_, x, hx⟩ := shaped_moving h hs
  rw [release_of_moving hs hx]
  simp only [ChanRec.shaped, hs, hx, Bool.and_eq_true] at h
  cases x <;> simp_all [ChanRec.shaped, Resting.state]
theorem release_not_moving {r : ChanRec} (h : r.shaped = true) (hs : r.state = .moving) : r.release.state ≠ .moving := by
  obtain ⟨_, x, hx⟩ := shaped_moving h hs
  rw [release_of_moving hs hx]
  cases x <;> exact ChState.noConfusion
/-- The move of a SEARCH or RETURN began in ACTIVE. -/
theorem release_active {r : ChanRec} (hs : r.state = .moving) (hx : r.ret = some .active) : r.release.state = .active := by
  rw [release_of_moving hs hx]; rfl

/-! ## An entry that ends -/

/-- The entry of a channel ends: the channel is left without one, in a state of its own. -/
theorem run_ended {s t : State} {c : Chan} {r : ChanRec} (hsane : Sane q true s t)
    (hother : ∀ d, d ≠ c → t.place d = s.place d) (hc : t.place c = { s.place c with seat := r.seat, entries := [] })
    (hmoves : Sound s → s.movesAt c = []) (hr : Sound s → r.shaped = true ∧ r.state ≠ .moving) : Run q s t := by
  refine .of_local hsane c hother fun hs => ?_
  obtain ⟨hshaped, hstate⟩ := hr hs
  rw [hc]
  exact place_idle rfl (hs.itemsAt_length c) (hmoves hs) hshaped fun hm => absurd hm hstate
theorem place_dropAfter {s t : State} {c : Chan} {r : ChanRec}
    (ht : ∀ d, t.place d = if d = c then { s.place d with seat := r.seat } else s.place d) (d : Chan) :
    (t.dropEntry c).place d = if d = c then { s.place d with seat := r.seat, entries := [] } else s.place d := by
  rw [place_dropEntry, ht]
  split <;> rfl
theorem run_dropAfter {s t u : State} {c : Chan} {r : ChanRec} (hsane : Sane q true s u)
    (hu : ∀ d, u.place d = (t.dropEntry c).place d)
    (ht : ∀ d, t.place d = if d = c then { s.place d with seat := r.seat } else s.place d)
    (hmoves : Sound s → s.movesAt c = []) (hr : Sound s → r.shaped = true ∧ r.state ≠ .moving) : Run q s u := by
  have hplace := place_dropAfter ht
  exact run_ended hsane (fun d hd => by rw [hu, hplace, if_neg hd]) (by rw [hu, hplace, if_pos rfl]) hmoves hr

/-! ## A search or return that found a frequency -/

theorem count_reserve (c : Chan) (t : Nat) (s : State) : (reserve c t s).proposedCount = s.proposedCount := by
  rw [reserve_changes]; rfl
theorem table_reserve (c : Chan) (t : Nat) (s : State) : (reserve c t s).table = s.table := by
  rw [reserve_changes]
theorem entryOf_reserve (c : Chan) (t : Nat) (s : State) (d : Chan) : (reserve c t s).entryOf d = s.entryOf d := by
  rw [State.entryOf, table_reserve, State.entryOf]
theorem inForce_reserve (c : Chan) (t : Nat) (s : State) : (reserve c t s).inForce = s.inForce := by
  rw [reserve_changes]; rfl
/-- The state in which a found frequency is reserved, before it is sent or proposed. -/
def reserveFor (c : Chan) (t : Nat) (e : Entry) (s : State) : State := (reserve c t s).putEntry e
theorem propose_some {c : Chan} {n : Nat} {s : State} {e : Entry} (h : s.entryOf c = some e) : ∃ b, propose c n s =
    notifyChan .proposal c b (s.putEntry { e with state := .proposed, propDl := some (s.now + s.proposalTimeout) }) := by
  simp only [propose, h]
  exact ⟨_, rfl⟩
theorem sane_propose {c : Chan} {n : Nat} {s : State} {k : Bool}
    (h : (s.table.map (·.chan)).Nodup → s.proposedCount < 8) : Sane q k s (propose c n s) := by
  cases he : s.entryOf c with
  | none => simp only [propose, he]; exact Sane.refl s
  | some e =>
    obtain ⟨b, hb⟩ := propose_some (n := n) he
    rw [hb]
    exact (sane_putEntry fun hn _ => .inl (h hn)).trans (sane_notifyChan _ _ _ _)
theorem not_paused_count {s : State} (h : ¬ s.paused = true) (hf : s.inForce = true) : s.proposedCount < 8 := by
  simpa [State.paused, hf] using h
theorem sane_begin {c : Chan} {t n : Nat} {s : State} {e e' : Entry} {k : Bool} (he : s.entryOf c = some e)
    (hchan : e'.chan = e.chan) (hstate : e'.state = e.state) (hp : ¬ s.paused = true) :
    Sane q k s (if (reserveFor c t e' s).inForce then propose c n (reserveFor c t e' s)
      else sendEntry c (reserveFor c t e' s)) := by
  have hc := entryOf_chan he
  have he' : (reserve c t s).entryOf e.chan = some e := by rw [entryOf_reserve, hc]; exact he
  refine Sane.trans ((sane_reserve s c t).trans (sane_putEntry fun _ h => .inr ⟨e, hchan ▸ he', hstate ▸ h⟩)) ?_
  refine sane_ite (fun hf => sane_propose fun hn => ?_) fun _ => sane_sendEntry _ _
  have hf' : s.inForce = true := by rw [← inForce_reserve c t s]; exact hf
  have hnodup : ((reserve c t s).table.map (·.chan)).Nodup := by rwa [chans_putEntry] at hn
  rw [proposedCount_putEntry hnodup he' hchan hstate, count_reserve]
  exact not_paused_count hp hf'
theorem place_begin {c : Chan} {t n : Nat} {s : State} {e e' : Entry} (hs : Sound s) (he : s.entryOf c = some e)
    (hchan : e'.chan = e.chan) : ∃ e'' : Entry, e''.state ≠ .searching ∧ e''.origin = e'.origin ∧ e''.target = e'.target ∧
      ∀ d, (if (reserveFor c t e' s).inForce then propose c n (reserveFor c t e' s)
        else sendEntry c (reserveFor c t e' s)).place d =
        if d = c then ⟨((s.chan c).reserve t).seat, [e''], [], s.movesAt c⟩ else s.place d := by
  have hc := entryOf_chan he
  obtain ⟨hentries, _⟩ := hs.entriesAt_eq he
  have he' : (reserve c t s).entryOf e.chan = some e := by rw [entryOf_reserve, hc]; exact he
  have hput : ∀ x : Entry, x.chan = c → ∀ d, ((reserveFor c t e' s).putEntry x).place d =
      if d = c then ⟨((s.chan c).reserve t).seat, [x], [], s.movesAt c⟩ else s.place d := by
    rintro x rfl d
    by_cases hd : d = x.chan
    · subst hd
      have hpl : ∀ y, (reserveFor y t e' s).entriesAt y = ((reserveFor y t e' s).place y).entries := fun _ => rfl
      rw [place_putEntry, if_pos rfl, if_pos rfl, hpl, reserveFor, place_putEntry,
        if_pos (hc.symm.trans hchan.symm), place_reserve, if_pos rfl]
      have hres : (reserve x.chan t s).entriesAt x.chan = s.entriesAt x.chan := by
        rw [State.entriesAt, table_reserve, State.entriesAt]
      rw [hres, hentries]
      rfl
    · rw [place_putEntry, if_neg hd, if_neg hd, reserveFor, place_putEntry,
        if_neg (fun h => hd (h.trans (hchan.trans hc))), place_reserve, if_neg hd]
  have hentry : (reserveFor c t e' s).entryOf c = some e' := by
    have h := entryOf_putEntry_same he' hchan
    rwa [hc] at h
  split
  · obtain ⟨b, hb⟩ := propose_some (n := n) hentry
    refine ⟨{ e' with
      state := .proposed, propDl := some ((reserveFor c t e' s).now + (reserveFor c t e' s).proposalTimeout) },
      EntryState.noConfusion, rfl, rfl, fun d => ?_⟩
    rw [hb, place_notifyChan]
    apply hput
    exact hchan.trans hc
  · refine ⟨e'.sent (reserveFor c t e' s).now, EntryState.noConfusion, rfl, rfl, fun d => ?_⟩
    rw [place_sendEntry hentry]
    exact hput (e'.sent _) (hchan.trans hc) d
theorem sane_searchFound (c : Chan) (t n : Nat) (b : Bool) (x : Search) (s : State) {k : Bool} :
    Sane q k s (searchFound c t n b x s) := by
  unfold searchFound
  split
  next e he =>
    refine sane_ite (fun _ => sane_dropEntry s c) fun _ => sane_ite (fun _ => ?_) fun hp => ?_
    · split
      · exact sane_requeue (i := ⟨c, _, _, false⟩) he
      · exact sane_dropEntry s c
    · exact sane_begin (e' := { e with target := some t, search := x, fromPool := b }) he rfl rfl hp
  · exact Sane.refl s
theorem movable_active {s : State} {c : Chan} (h : s.movable c = true) : (s.chan c).state = .active := by
  simp only [State.movable, Bool.and_eq_true, decide_eq_true_eq] at h
  exact h.1.1
theorem run_searchFound {c : Chan} {t n : Nat} {b : Bool} {x : Search} {s : State} (hm : Sound s → s.movesAt c = [])
    (hsearch : ∀ e, s.entryOf c = some e → e.state = .searching) : Run q s (searchFound c t n b x s) := by
  refine Run.of_sound (sane_searchFound c t n b x s) fun hs => ?_
  unfold searchFound
  split
  next e he =>
    have hstate : (s.chan c).state ≠ .moving := fun h => by
      rcases hs.searching_state he (hsearch e he) with hl | hl <;> rw [hl] at h <;> cases h
    have hdrop : Run false s (s.dropEntry c) := run_dropEntry fun _ => ⟨hm hs, hstate⟩
    refine run_ite (fun _ => hdrop) fun hmov => run_ite (fun _ => ?_) fun hp => ?_
    · split
      next w j _ =>
        exact hdrop.trans (run_joinBacklog (i := ⟨c, w, j, false⟩) (entryOf_dropEntry s c) (itemOf_of_entry hs.unique he))
      · exact hdrop
    · have hact : (s.chan c).state = .active := by
        simp only [Bool.not_eq_true', Bool.not_eq_false, Bool.and_eq_true] at hmov
        exact movable_active hmov.1
      obtain ⟨e'', hs'', ho, ht, hplace⟩ := place_begin (t := t) (n := n)
        (e' := { e with target := some t, search := x, fromPool := b }) hs he rfl
      refine .of_local (sane_begin he rfl rfl hp) c (fun d hd => ?_) fun _ => ?_
      · exact (hplace d).trans (if_neg hd)
      · refine (congrArg Place.Sound ((hplace c).trans (if_pos rfl))).mpr ?_
        refine place_moving (e := e'') rfl rfl (hm hs) (shaped_reserve (hs.shaped c) (.inl hact) t) hs''
          ((stands_moving hs'').mpr ⟨rfl, ht.symm, .inr ?_⟩)
        simp [ChanRec.reserve, hact, ChState.resting]
  · exact Run.refl s

/-! ## Completions -/

/-- The record of a completed move. -/
def doneRecord (e : Entry) (s : State) (r : ChanRec) : ChanRec :=
  { r with returnWatch := newReturnWatch s e r, settle := newSettle s e.origin, watch := s.freshWatch r.profile }
/-- A completed move, up to what its commit is told. -/
def doneMove (e : Entry) (s : State) : State :=
  let s1 := recycle e.chan e.src e.origin (complete e.chan (e.target.getD 0) e.revert s)
  (notifyMoved e.chan (some e.origin) e.src e.target (some e.attempts) e.revert e.spoil e.orig
    (s1.modChan e.chan (doneRecord e s1))).dropEntry e.chan
theorem moveDone_eq (e : Entry) (s : State) : moveDone e s =
    let s4 := if e.origin = .commit then pushEnded e.chan true (doneMove e s) else doneMove e s
    if e.spoil then doubleFault e.chan s4 else s4 := rfl
theorem chan_recycle (c : Chan) (v : Option Nat) (o : Origin) (s : State) (d : Chan) :
    (recycle c v o s).chan d = s.chan d := by
  unfold recycle
  split
  · split
    · rw [appendPool_changes_pools]; rfl
    · rfl
  · rfl
theorem profiles_recycle (c : Chan) (v : Option Nat) (o : Origin) (s : State) : (recycle c v o s).profiles = s.profiles := by
  unfold recycle
  split
  · split
    · rw [appendPool_changes_pools]
    · rfl
  · rfl
theorem state_reflag (c : Chan) (s : State) (d : Chan) : ((reflag c s).chan d).state = (s.chan d).state := by
  rw [reflag, chan_modChan]
  split
  next e => rw [e]
  · rfl
theorem state_complete (c : Chan) (t : Nat) (b : Bool) (s : State) : ((complete c t b s).chan c).state = .active := by
  rw [complete, state_reflag, chan_modChan_same]; cases b <;> rfl
theorem sane_doneMove {e : Entry} {s : State} {k : Bool}
    (h : k = true → e.target.getD 0 ∈ (s.chan e.chan).occupied) : Sane q k s (doneMove e s) := by
  refine ((((sane_complete h).trans (sane_recycle _ e.chan e.src e.origin)).trans
    (sane_modChan (fair_armed id id (freshWatch_cases _ _) fun _ => .inl ?_) fun _ => List.Subset.refl _)).trans
    (sane_notifyChan _ _ _ _)).trans (sane_dropEntry _ _)
  change ((recycle _ _ _ _).chan e.chan).state = .active
  rw [chan_recycle, state_complete]
theorem place_doneMove (e : Entry) (s : State) (d : Chan) : (doneMove e s).place d = if d = e.chan then
    { s.place d with seat := ((s.chan e.chan).complete (e.target.getD 0) e.revert).seat, entries := [] } else s.place d := by
  unfold doneMove
  dsimp only
  refine place_dropAfter (fun d => ?_) d
  rw [notifyMoved, place_notifyChan, State.modChan]
  have hseat : ∀ x : State, (x.setChan e.chan (doneRecord e x (x.chan e.chan))).place d = x.place d := fun x =>
    place_setChan_of_seat (r := doneRecord e x (x.chan e.chan)) rfl d
  rw [hseat, place_recycle, place_complete]
theorem run_doneMove {e : Entry} {s : State} (he : s.entryOf e.chan = some e) (hs : e.state ≠ .searching) :
    Run q s (doneMove e s) := by
  refine Run.of_sound (sane_doneMove fun h => noClean h) fun hsound => ?_
  obtain ⟨hmoving, htarget, _⟩ := hsound.moving_state he hs
  obtain ⟨⟨t, ht⟩, _⟩ := shaped_moving (hsound.shaped e.chan) hmoving
  have hocc : e.target.getD 0 ∈ (s.chan e.chan).occupied := by
    rw [← htarget, ht]
    simp [ChanRec.occupied, ht]
  exact run_ended (r := (s.chan e.chan).complete (e.target.getD 0) e.revert) (sane_doneMove fun _ => hocc)
    (fun d hd => by rw [place_doneMove, if_neg hd]) (by rw [place_doneMove, if_pos rfl])
    (fun _ => hsound.movesAt_of_entry he hs)
    fun _ => ⟨shaped_complete _ _ _, fun h => by cases hb : e.revert <;> rw [hb] at h <;> cases h⟩
theorem chan_pushEnded (c : Chan) (b : Bool) (s : State) (d : Chan) : (pushEnded c b s).chan d = s.chan d := by
  unfold pushEnded
  split
  · split <;> rfl
  · rfl
theorem seat_doneMove (e : Entry) (s : State) : ((doneMove e s).chan e.chan).state = .active := by
  have h : ((doneMove e s).place e.chan).seat.state = .active := by
    rw [place_doneMove, if_pos rfl]; cases hb : e.revert <;> rfl
  exact h
theorem run_moveDone {e : Entry} {s : State} (he : s.entryOf e.chan = some e) (hs : e.state ≠ .searching) :
    Run q s (moveDone e s) := by
  rw [moveDone_eq]
  refine (run_doneMove he hs).trans ((run_ite (fun _ => run_pushEnded _ _ _) fun _ => Run.refl _).trans
    (run_ite (fun _ => run_doubleFault fun _ => .inl ?_) fun _ => Run.refl _))
  split
  · rw [chan_pushEnded, seat_doneMove]
  · exact seat_doneMove e s

/-! ## Failures -/

/-- A failed move, up to what its commit is told. -/
def failMove (e : Entry) (why : EndReason) (rack : Option Nat) (s : State) : State :=
  let s1 := release e.chan s
  let s2 := if e.origin = .auto ∧ why = .rackRejected then doubleFault e.chan s1 else s1
  let s3 := if e.origin = .ret then s2.modChan e.chan ChanRec.zeroReturn else s2
  (notifyFailed e why rack (bumpStage e.chan.stage .failures s3)).dropEntry e.chan
theorem moveFail_eq (e : Entry) (why : EndReason) (rack : Option Nat) (s : State) : moveFail e why rack s =
    if e.origin = .commit then pushEnded e.chan false (failMove e why rack s) else failMove e why rack s := rfl
theorem sane_zeroReturn (c : Chan) (s : State) {k : Bool} : Sane q k s (s.modChan c ChanRec.zeroReturn) :=
  sane_modChan fair_zeroReturn fun _ => List.Subset.refl _
theorem place_zeroReturn (c : Chan) (s : State) (d : Chan) : (s.modChan c ChanRec.zeroReturn).place d = s.place d :=
  place_setChan_of_seat (r := (s.chan c).zeroReturn) rfl d
theorem sane_failMove (e : Entry) (why : EndReason) (rack : Option Nat) (s : State) {k : Bool} :
    Sane q k s (failMove e why rack s) :=
  ((((sane_release s e.chan).trans (sane_ite (fun _ => sane_doubleFault _ _) fun _ => Sane.refl _)).trans
    (sane_ite (fun _ => sane_zeroReturn _ _) fun _ => Sane.refl _)).trans ((sane_bumpStage _ _ _).trans
      (sane_notifyChan _ _ _ _))).trans (sane_dropEntry _ _)
/-- The record of a failed move: released, and HELD after a rejection of an AUTO move. -/
def failRecord (e : Entry) (why : EndReason) (r : ChanRec) : ChanRec :=
  if e.origin = .auto ∧ why = .rackRejected then { r.release with state := .held, heldCause := some .doubleFault }
  else r.release
@[simp] theorem place_doubleFault (c : Chan) (s : State) (d : Chan) :
    (doubleFault c s).place d = (setHeld c .doubleFault s).place d := by
  rw [doubleFault, notifyHeld, place_notifyChan]; rfl
theorem seat_release (c : Chan) (s : State) : ((release c s).chan c).seat = (s.chan c).release.seat := by
  have h := congrArg Place.seat (place_release s c c)
  rw [if_pos rfl] at h
  exact h
theorem place_failMove (e : Entry) (why : EndReason) (rack : Option Nat) (s : State) (d : Chan) :
    (failMove e why rack s).place d = if d = e.chan then
      { s.place d with seat := (failRecord e why (s.chan e.chan)).seat, entries := [] } else s.place d := by
  unfold failMove
  dsimp only
  refine place_dropAfter (fun d => ?_) d
  have hzero : ∀ x : State, (if e.origin = .ret then x.modChan e.chan ChanRec.zeroReturn else x).place d = x.place d :=
    fun x => by
      split
      · exact place_zeroReturn e.chan x d
      · rfl
  rw [notifyFailed, place_notifyChan, place_bumpStage, hzero, failRecord]
  split
  · rw [place_doubleFault, place_setHeld, place_release]
    by_cases hd : d = e.chan
    · have hseat := seat_release e.chan s
      subst hd
      rw [if_pos rfl, if_pos rfl, if_pos rfl]
      have hx : ∀ (a b : ChanRec) (p : Place), a.seat = b.seat →
          ({ { p with seat := b.seat } with seat := ({ a with state := .held, heldCause := some .doubleFault } : ChanRec).seat } : Place)
          = { p with seat := ({ b with state := .held, heldCause := some .doubleFault } : ChanRec).seat } := fun a b p hab => by
        have h1 := congrArg ChanRec.assigned hab
        have h2 := congrArg ChanRec.pending hab
        have h3 := congrArg ChanRec.ret hab
        have h4 := congrArg ChanRec.darkFrom hab
        simp only [seat_assigned, seat_pending, seat_ret, seat_darkFrom] at h1 h2 h3 h4
        simp only [ChanRec.seat, h1, h2, h3, h4]
      exact hx _ _ _ hseat
    · rw [if_neg hd, if_neg hd, if_neg hd]
  · exact place_release s e.chan d
theorem run_failMove {e : Entry} {why : EndReason} {rack : Option Nat} {s : State} (he : s.entryOf e.chan = some e)
    (hs : e.state ≠ .searching) : Run q s (failMove e why rack s) := by
  refine Run.of_sound (sane_failMove e why rack s) fun hsound => ?_
  obtain ⟨hmoving, _, hret⟩ := hsound.moving_state he hs
  refine run_ended (r := failRecord e why (s.chan e.chan)) (sane_failMove e why rack s)
    (fun d hd => by rw [place_failMove, if_neg hd]) (by rw [place_failMove, if_pos rfl])
    (fun _ => hsound.movesAt_of_entry he hs) fun _ => ?_
  have hshaped := shaped_release (hsound.shaped e.chan) hmoving
  unfold failRecord
  split
  next h =>
    have hact : (s.chan e.chan).ret = some .active := hret.resolve_left fun hno => hno.1 h.1
    exact ⟨shaped_held hshaped (.inl (release_active hmoving hact)) _, ChState.noConfusion⟩
  · exact ⟨hshaped, release_not_moving (hsound.shaped e.chan) hmoving⟩
theorem run_moveFail {e : Entry} {why : EndReason} {rack : Option Nat} {s : State} (he : s.entryOf e.chan = some e)
    (hs : e.state ≠ .searching) : Run q s (moveFail e why rack s) := by
  rw [moveFail_eq]
  exact run_ite (fun _ => (run_failMove he hs).trans (run_pushEnded _ _ _)) fun _ => run_failMove he hs

/-! ## Reports and deadlines of a move -/

theorem entry_eq {s : State} {e : Entry} (he : s.entryOf e.chan = some e) {P : Entry → Prop} (h : P e) :
    ∀ x, s.entryOf e.chan = some x → P x := fun x hx => by
  rw [he] at hx; exact Option.some.inj hx ▸ h
theorem run_sendEnded {e : Entry} {rack : Option Nat} {s : State} (he : s.entryOf e.chan = some e)
    (hs : e.state ≠ .searching) : Run q s (sendEnded e rack s) :=
  run_ite (fun _ => run_moveFail he hs) fun _ => run_ite (fun _ => run_moveFail he hs) fun _ =>
    run_sendEntry fun _ => entry_eq he hs
theorem run_lockReport {e : Entry} {f : Nat} {s : State} (he : s.entryOf e.chan = some e) (hs : e.state ≠ .searching) :
    Run q s (lockReport e f s) :=
  run_ite (fun _ => run_moveDone he hs) fun _ => run_ite (fun _ => run_moveFail he hs) fun _ =>
    run_ite (fun _ => run_moveFail he hs) fun _ => run_sendEntry fun _ => entry_eq he hs
theorem run_entryReport (c : Chan) (t r x : Nat) (s : State) : Run q s (entryReport c t r x s) := by
  unfold entryReport
  split
  next e he =>
    have hc := entryOf_chan he
    rw [← hc] at he
    refine run_ite (fun h => ?_) fun _ => Run.refl s
    have hs : e.state ≠ .searching := by rw [h.1]; exact EntryState.noConfusion
    exact run_ite (fun _ => run_moveEntry (sane_putEntry fun _ hp => EntryState.noConfusion hp) he hs rfl
      EntryState.noConfusion rfl rfl) fun _ => run_sendEnded he hs
  · exact Run.refl s

/-! ## Proposals and spoils -/

theorem run_releaseDrop {e : Entry} {s : State} (he : s.entryOf e.chan = some e) (hs : e.state ≠ .searching) :
    Run q s ((release e.chan s).dropEntry e.chan) := by
  have hsane : ∀ k q, Sane q k s ((release e.chan s).dropEntry e.chan) := fun _ _ =>
    (sane_release s e.chan).trans (sane_dropEntry _ _)
  refine Run.of_sound (hsane _ _) fun hsound => ?_
  obtain ⟨hmoving, _, _⟩ := hsound.moving_state he hs
  exact run_dropAfter (r := (s.chan e.chan).release) (hsane _ _) (fun _ => rfl) (place_release s e.chan)
    (fun _ => hsound.movesAt_of_entry he hs)
    fun _ => ⟨shaped_release (hsound.shaped _) hmoving, release_not_moving (hsound.shaped _) hmoving⟩
theorem run_endProposal {e : Entry} {why : ExpiredCause} {s : State} (he : s.entryOf e.chan = some e)
    (hs : e.state ≠ .searching) : Run q s (endProposal e why s) :=
  (run_releaseDrop he hs).trans (run_notifyChan _ _ _ _)

/-- A proposal whose target is spoiled is a search again. -/
def searchAgain (e : Entry) (s : State) : State :=
  (notifyExpired e .spoiled (release e.chan s)).putEntry
    { e with state := .searching, target := none, propDl := none, fromPool := false }
theorem sane_searchAgain (e : Entry) (s : State) {k : Bool} : Sane q k s (searchAgain e s) :=
  ((sane_release s e.chan).trans (sane_notifyChan _ _ _ _)).trans (sane_putEntry fun _ hp => EntryState.noConfusion hp)
theorem place_searchAgain {e : Entry} {s : State} (hs : Sound s) (he : s.entryOf e.chan = some e) (d : Chan) :
    (searchAgain e s).place d = if d = e.chan then
      { s.place d with
        seat := (s.chan e.chan).release.seat
        entries := [{ e with state := .searching, target := none, propDl := none, fromPool := false }] } else s.place d := by
  have hsame : ∀ d, (notifyExpired e .spoiled (release e.chan s)).place d = (release e.chan s).place d := fun d => by
    rw [notifyExpired, place_notifyChan]
  rw [searchAgain, place_putEntry]
  by_cases hd : d = e.chan
  · subst hd
    have hentries : (notifyExpired e .spoiled (release e.chan s)).entriesAt e.chan = [e] := by
      rw [← place_entries, hsame, place_release, if_pos rfl]; exact (hs.entriesAt_eq he).1
    rw [if_pos rfl, if_pos rfl, hsame, place_release, if_pos rfl, hentries]
    rfl
  · rw [if_neg hd, if_neg hd, hsame, place_release, if_neg hd]
theorem run_searchAgain {e : Entry} {s : State} (he : s.entryOf e.chan = some e) (hs : e.state ≠ .searching)
    (ho : e.origin = .auto) : Run q s (searchAgain e s) := by
  refine Run.of_sound (sane_searchAgain e s) fun hsound => ?_
  obtain ⟨hmoving, _, hret⟩ := hsound.moving_state he hs
  have hact : (s.chan e.chan).ret = some .active := hret.resolve_left fun hno => hno.1 ho
  refine .of_local (sane_searchAgain e s) e.chan (fun d hd => by rw [place_searchAgain hsound he, if_neg hd]) fun _ => ?_
  rw [place_searchAgain hsound he, if_pos rfl]
  exact place_searching rfl (hsound.entriesAt_eq he).2 (hsound.1 _).asks (shaped_release (hsound.shaped _) hmoving) rfl
    ((stands_searching rfl).mpr ⟨.inl ho, .inl (release_active hmoving hact)⟩)
theorem spoilProposed_auto {e : Entry} (ho : e.origin = .auto) (t level : Nat) (s : State) : spoilProposed e t level s =
    let s2 := searchAgain e s
    let s3 := if e.fromPool then appendPool (s2.groupOf e.chan) t .dirty (some level) s2 else s2
    if 16 ≤ e.search.spoiled.length then noCandidate e.chan e.search s3
    else
      let x := searchNext e.chan { e.search with spoiled := e.search.spoiled ++ [t] } s3
      askSearch e.chan x.1 x.2 := by
  obtain ⟨c, o, _, _, _, _, _, _, _, _, _, _, _, _, _, _⟩ := e
  obtain rfl : o = .auto := ho
  rfl
theorem spoilProposed_other {e : Entry} (ho : e.origin ≠ .auto) (t level : Nat) (s : State) : spoilProposed e t level s =
    returnSkip e.chan true (notifyExpired e .spoiled (release e.chan s)) := by
  cases h : e.origin
  · exact absurd h ho
  all_goals simp only [spoilProposed, h]
theorem sane_spoilProposed (e : Entry) (t level : Nat) (s : State) : Sane q false s (spoilProposed e t level s) := by
  by_cases ho : e.origin = .auto
  · rw [spoilProposed_auto ho]
    refine ((sane_searchAgain e s).trans (sane_ite (fun _ => sane_appendPool _ _ _ _ _) fun _ => Sane.refl _)).trans
      (sane_ite (fun _ => sane_noCandidate _ _ _) fun _ => ?_)
    exact (run_searchNext _ _ _).sane.trans (sane_askSearch _ _ _)
  · rw [spoilProposed_other ho]
    exact ((sane_release s e.chan).trans (sane_notifyChan _ _ _ _)).trans (sane_returnSkip _ _ _)
theorem place_spoilSkip (e : Entry) (s : State) (d : Chan) :
    (returnSkip e.chan true (notifyExpired e .spoiled (release e.chan s))).place d =
      ((release e.chan s).dropEntry e.chan).place d := by
  have hseat : ∀ x : State, (x.modChan e.chan fun r => if true then r.zeroReturn else { r with returnWatch := none }).place d
      = x.place d := fun x => place_zeroReturn e.chan x d
  rw [returnSkip, place_bumpStage, hseat, place_dropEntry, place_dropEntry, notifyExpired, place_notifyChan]
theorem run_spoilProposed {e : Entry} {t level : Nat} {s : State} (he : s.entryOf e.chan = some e)
    (hs : e.state = .proposed) : Run q s (spoilProposed e t level s) := by
  have hs' : e.state ≠ .searching := by rw [hs]; exact EntryState.noConfusion
  refine Run.of_sound (sane_spoilProposed e t level s) fun hsound => ?_
  obtain ⟨hmoving, _, hret⟩ := hsound.moving_state he hs'
  by_cases ho : e.origin = .auto
  · rw [spoilProposed_auto ho]
    dsimp only
    have hpool : ∀ x : State, ∃ p, (if e.fromPool then appendPool (x.groupOf e.chan) t .dirty (some level) x else x) =
        { x with pools := p } := fun x => by
      split
      · exact ⟨_, appendPool_changes_pools ..⟩
      · exact ⟨x.pools, rfl⟩
    have hrun : Run false s (if e.fromPool then
        appendPool ((searchAgain e s).groupOf e.chan) t .dirty (some level) (searchAgain e s) else searchAgain e s) :=
      (run_searchAgain he hs' ho).trans (run_ite (fun _ => run_appendPool _ _ _ _ _) fun _ => Run.refl _)
    obtain ⟨p, hp⟩ := hpool (searchAgain e s)
    rw [hp] at hrun ⊢
    have hplace := place_searchAgain hsound he e.chan
    rw [if_pos rfl] at hplace
    have hmoves : (searchAgain e s).movesAt e.chan = [] := by
      rw [← place_moves, hplace]; exact hsound.movesAt_of_entry he hs'
    have hentry : (searchAgain e s).entryOf e.chan =
        some { e with state := .searching, target := none, propDl := none, fromPool := false } := by
      rw [entryOf_eq_head?, ← place_entries, hplace]; rfl
    have hstate : ((searchAgain e s).chan e.chan).state = .active := by
      rw [← seat_state, ← place_seat, hplace]
      exact release_active hmoving (hret.resolve_left fun hno => hno.1 ho)
    refine hrun.trans (run_ite (fun _ => run_noCandidate fun _ => ⟨hmoves, .inl hstate⟩) fun _ => ?_)
    refine (run_searchNext _ _ _).trans (run_askSearch (fun _ => ?_) fun x hx => ?_)
    · rw [searchNext_changes_pools]; exact hmoves
    · rw [searchNext_changes_pools] at hx
      obtain rfl := Option.some.inj (hentry.symm.trans hx)
      rfl
  · rw [spoilProposed_other ho]
    exact run_dropAfter (r := (s.chan e.chan).release)
      (((sane_release s e.chan).trans (sane_notifyChan _ _ _ _)).trans
        (((sane_dropEntry _ _).trans (sane_zeroReturn _ _)).trans (sane_bumpStage _ _ _)))
      (place_spoilSkip e s) (place_release s e.chan) (fun _ => hsound.movesAt_of_entry he hs')
      fun _ => ⟨shaped_release (hsound.shaped _) hmoving, release_not_moving (hsound.shaped _) hmoving⟩

/-- Items change beside their channel and their want. -/
theorem run_mapBacklog (s : State) {f : Item → Item} (hc : ∀ i, (f i).chan = i.chan)
    (hw : ∀ i, i.want = .push → (f i).want = .push) : Run q s { s with backlog := s.backlog.map f } := by
  have hsane : Sane q true s { s with backlog := s.backlog.map f } := sane_mapBacklog s hc
  refine Run.of_sane hsane fun hs => ⟨fun c => ?_, (hsane.unique hs.unique).2.2.2⟩
  obtain ⟨h1, h2, h3, h4, h5, h6⟩ := hs.1 c
  have hitems : State.itemsAt { s with backlog := s.backlog.map f } c = (s.itemsAt c).map f := by
    simp only [State.itemsAt, List.filter_map]
    congr 1
    exact List.filter_congr fun i _ => by simp [hc]
  refine ⟨?_, h2, h3, h4, fun hm => (h5 hm).imp id fun ⟨i, hi, hp⟩ => ⟨f i, ?_, hw i hp⟩, h6⟩
  · change (s.entriesAt c).length + (State.itemsAt { s with backlog := s.backlog.map f } c).length ≤ 1
    rw [hitems, List.length_map]; exact h1
  · change f i ∈ State.itemsAt { s with backlog := s.backlog.map f } c
    rw [hitems]; exact List.mem_map_of_mem hi
theorem run_spoil (c : Chan) (t level : Nat) (s : State) : Run q s (spoil c t level s) := by
  unfold spoil
  split
  next e he =>
    have hc := entryOf_chan he
    rw [← hc] at he
    split
    next h => exact run_spoilProposed he h
    · exact run_putEntry he rfl rfl rfl rfl
    · exact run_putEntry he rfl rfl rfl rfl
    · exact Run.refl s
  · exact run_mapBacklog s (fun i => by split <;> rfl) fun i hi => by split <;> exact hi

end Sys2Proof.Machine
end

section
/-! Adoptions, the Spectrum Watch and the Admission Gate keep what `Run` says (R11, R81 to R119). -/

namespace Sys2Proof.Machine

variable {q : Bool}

/-! ## Adoption -/

theorem settled_iff {r : ChanRec} : r.settled = true ↔ r.state = .active ∨ r.state = .held ∨ r.state = .parked := by
  simp only [ChanRec.settled, Bool.or_eq_true, decide_eq_true_eq]
  tauto
/-- The states from which a channel is adopted, by the kind of the adoption (R11). -/
def AdoptKind.from (x : AdoptKind) (r : ChanRec) : Prop :=
  match x with
  | .track => r.settled = true
  | .offPlan => r.state = .active ∨ r.state = .held
  | .dark => r.state = .dark
theorem shaped_adopt {r : ChanRec} (h : r.shaped = true) {x : AdoptKind} (hx : x.from r) (f : Nat) (w : Watch) :
    (r.adopt f w x).shaped = true ∧ (r.adopt f w x).state ≠ .moving := by
  cases x with
  | track =>
    refine ⟨?_, ChState.noConfusion⟩
    have hdark : (r.forward r.assigned).darkFrom = r.darkFrom := by unfold ChanRec.forward; split <;> rfl
    have hnone : r.darkFrom = none := by
      rcases settled_iff.mp hx with hs | hs | hs <;> simp_all [ChanRec.shaped]
    simp [ChanRec.adopt, ChanRec.shaped, hdark, hnone]
  | offPlan =>
    rcases hx with hs | hs <;> simp_all [ChanRec.adopt, ChanRec.shaped]
  | dark =>
    have hs : r.state = .dark := hx
    cases hd : r.darkFrom with
    | none => simp [ChanRec.shaped, hs, hd] at h
    | some d => cases d <;> simp_all [ChanRec.adopt, ChanRec.shaped]
/-- A DARK channel of a sound state has no entry. -/
theorem Sound.entryOf_of_dark {s : State} (hs : Sound s) {c : Chan} (h : (s.chan c).state = .dark) : s.entryOf c = none := by
  cases he : s.entryOf c with
  | none => rfl
  | some e =>
    by_cases hse : e.state = .searching
    · rcases hs.searching_state he hse with hl | hl <;> rw [h] at hl <;> cases hl
    · have := (hs.moving_state he hse).1
      rw [h] at this; cases this
theorem adopt_lit {r : ChanRec} {x : AdoptKind} (hx : x.from r) : x = .offPlan → r.state = .active ∨ r.state = .held := by
  rintro rfl; exact hx
theorem run_adopt {c : Chan} {f : Nat} {x : AdoptKind} {s : State} (hx : x.from (s.chan c))
    (hnone : Sound s → s.entryOf c = none) : Run q s (adopt c f x s) := by
  refine .of_local (sane_adopt (adopt_lit hx)) c (fun d hd => by rw [place_adopt, if_neg hd]) fun hs => ?_
  obtain ⟨hshaped, hstate⟩ := shaped_adopt (hs.shaped c) hx f (s.freshWatch (s.chan c).profile)
  rw [place_adopt, if_pos rfl]
  exact place_idle ((entryOf_eq_none_iff s c).mp (hnone hs)) (Nat.zero_le _) (hs.movesAt_of_none (hnone hs)) hshaped
    fun hm => absurd hm hstate

/-! ## Evaluations (R99 to R106) -/

theorem countLevel_lt {k : Cond} {ev : Evidence} {run r : Nat} (h : countLevel k ev run = (r, none))
    (hrun : run < k.persistence) : r < k.persistence := by
  unfold countLevel at h
  split at h
  · simp only [Prod.mk.injEq, ite_eq_right_iff, reduceCtorEq, imp_false] at h
    omega
  · simp only [Prod.mk.injEq, and_true] at h
    omega
  · simp only [Prod.mk.injEq, and_true] at h
    omega
theorem countLevel_le (k : Cond) (ev : Evidence) (run : Nat) : (countLevel k ev run).1 ≤ run + 1 := by
  unfold countLevel
  split <;> simp
theorem suspectStep_below {p : Profile} {ev : Evidence} {w w' : Watch} (hs : w.st = .suspect)
    (h : suspectStep p ev w = (w', none)) (hp : p.level2.persistence ≤ 8) (h1 : w.run1 ≤ 8)
    (hb : w.run2 < p.level2.persistence) : w'.run1 ≤ 8 ∧ w'.run2 ≤ 8 ∧ w'.below p = true := by
  unfold suspectStep at h
  split at h
  · cases h
  next r hc =>
    obtain rfl : { w with run2 := r } = w' := congrArg Prod.fst h
    have hlt := countLevel_lt hc hb
    refine ⟨h1, hlt.le.trans hp, ?_⟩
    simp only [Watch.below, hs]
    exact decide_eq_true hlt
theorem armedStep_below {now : Nat} {p : Profile} {ev : Evidence} {w w' : Watch} (hs : w.st = .armed)
    (h : armedStep now p ev w = (w', none)) (hp1 : p.level1.persistence ≤ 8)
    (hp2 : 1 ≤ p.level2.persistence ∧ p.level2.persistence ≤ 8)
    (hb1 : w.run1 < p.level1.persistence) (hb2 : w.run2 < p.level2.persistence) :
    w'.run1 ≤ 8 ∧ w'.run2 ≤ 8 ∧ w'.below p = true := by
  have hkeep : ∀ r1 r2 : Nat, r1 < p.level1.persistence → r2 < p.level2.persistence →
      r1 ≤ 8 ∧ r2 ≤ 8 ∧ ({ w with run1 := r1, run2 := r2 } : Watch).below p = true := by
    intro r1 r2 h1 h2
    refine ⟨h1.le.trans hp1, h2.le.trans hp2.2, ?_⟩
    simp only [Watch.below, hs]
    exact Bool.and_eq_true_iff.mpr ⟨decide_eq_true h1, decide_eq_true h2⟩
  unfold armedStep at h
  have hle := countLevel_le p.level1 ev w.run1
  obtain ⟨r1, d1, hc⟩ : ∃ r1 d1, countLevel p.level1 ev w.run1 = (r1, d1) := ⟨_, _, rfl⟩
  obtain ⟨r2, d2, hc2⟩ : ∃ r2 d2, countLevel p.level2 ev w.run2 = (r2, d2) := ⟨_, _, rfl⟩
  rw [hc] at h hle
  rw [hc2] at h
  dsimp only at h hle
  have hfirst : d1 = none → ({ w with run1 := r1 }, (none : Option Fire)) = (w', none) →
      w'.run1 ≤ 8 ∧ w'.run2 ≤ 8 ∧ w'.below p = true := fun hd hw => by
    obtain rfl : ({ w with run1 := r1 } : Watch) = w' := congrArg Prod.fst hw
    exact hkeep r1 w.run2 (countLevel_lt (hd ▸ hc) hb1) hb2
  split at h
  · cases d1 with
    | none => exact hfirst rfl h
    | some v => cases h
  · split at h
    · cases d1 with
      | none => exact hfirst rfl h
      | some v =>
        exact suspectStep_below (w := ⟨.suspect, r1, 0, some (now + p.window)⟩) rfl h hp2.2 (show r1 ≤ 8 by omega)
          (show 0 < p.level2.persistence from hp2.1)
    · cases d1 with
      | some v => cases d2 <;> cases h
      | none =>
        cases d2 with
        | some v => cases h
        | none =>
          obtain rfl : ({ w with run1 := r1, run2 := r2 } : Watch) = w' := congrArg Prod.fst h
          exact hkeep r1 r2 (countLevel_lt hc hb1) (countLevel_lt hc2 hb2)
theorem watchStep_below {now : Nat} {p : Profile} {ev : Evidence} {w w' : Watch}
    (h : watchStep now p ev w = (w', none)) (hp1 : p.level1.persistence ≤ 8)
    (hp2 : 1 ≤ p.level2.persistence ∧ p.level2.persistence ≤ 8) (h1 : w.run1 ≤ 8) (h2 : w.run2 ≤ 8)
    (hb : w.below p = true) : w'.run1 ≤ 8 ∧ w'.run2 ≤ 8 ∧ w'.below p = true := by
  unfold watchStep at h
  cases hs : w.st <;> rw [hs] at h <;> dsimp only at h
  case armed =>
    simp only [Watch.below, hs, Bool.and_eq_true, decide_eq_true_eq] at hb
    exact armedStep_below hs h hp1 hp2 hb.1 hb.2
  case suspect =>
    simp only [Watch.below, hs, decide_eq_true_eq] at hb
    exact suspectStep_below hs h hp2.2 h1 hb
  all_goals
    obtain rfl : w = w' := congrArg Prod.fst h
    exact ⟨h1, h2, hb⟩

theorem fair_watch {ps : Vector Profile 8} {r : ChanRec} {n : Fin 8} {w : Watch} {now : Nat} {ev : Evidence}
    (hs : r.state = .active ∨ r.state = .held) (hn : r.profile = some n)
    (h : watchStep now ps[n] ev r.watch = (w, none)) : r.Fair ps { r with watch := w } := by
  refine ⟨id, id, fun hps ⟨h1, h2, _, h4⟩ => ?_⟩
  obtain ⟨_, hp1, hp2⟩ := hps n
  obtain ⟨hr1, hr2, hb⟩ := watchStep_below h hp1 hp2 h1 h2 (h4 n hn)
  refine ⟨hr1, hr2, fun hoff => ?_, fun m hm => ?_⟩
  · rcases hs with hs | hs <;> simp [hs] at hoff
  · obtain rfl : n = m := Option.some.inj (hn.symm.trans hm)
    exact hb

/-! ## The fire and its response (R108 to R111) -/

/-- The RETURN item of a channel at rest becomes a SEARCH. -/
theorem run_wantSearch {c : Chan} {s : State} (hs : (s.chan c).state ≠ .moving) : Run q s
    { s with backlog := s.backlog.map fun j => if j.chan = c then { j with want := .search } else j } := by
  have hchan : ∀ j : Item, (if j.chan = c then { j with want := .search } else j).chan = j.chan := fun j => by
    split <;> rfl
  refine .of_local (sane_mapBacklog s hchan) c (fun d hd => ?_) fun hsound => ?_
  · have hitems : State.itemsAt
        { s with backlog := s.backlog.map fun j => if j.chan = c then { j with want := .search } else j } d = s.itemsAt d := by
      simp only [State.itemsAt, List.filter_map]
      have hfun : (fun i : Item => decide (i.chan = d)) ∘ (fun j => if j.chan = c then { j with want := .search } else j) =
          fun i => decide (i.chan = d) := funext fun j => by simp only [Function.comp_apply, hchan]
      rw [hfun]
      refine (List.map_congr_left fun j hj => ?_).trans (List.map_id _)
      have hjd : j.chan = d := by simpa using (List.mem_filter.mp hj).2
      rw [if_neg (by rw [hjd]; exact hd)]; rfl
    simp only [State.place, hitems]; rfl
  · obtain ⟨h1, h2, h3, h4, h5, h6⟩ := hsound.1 c
    refine ⟨?_, h2, h3, h4, fun hm => absurd hm hs, h6⟩
    change (s.entriesAt c).length + (List.filter _ (List.map _ _)).length ≤ 1
    rw [List.filter_map, List.length_map]
    have hfun : (fun i : Item => decide (i.chan = c)) ∘ (fun j => if j.chan = c then { j with want := .search } else j) =
        fun i => decide (i.chan = c) := funext fun j => by simp only [Function.comp_apply, hchan]
    rw [hfun]; exact h1
theorem run_moveResponse {c : Chan} {s : State} (hs : (s.chan c).state = .active ∨ (s.chan c).state = .held) :
    Run q s (moveResponse c s).2 := by
  unfold moveResponse
  dsimp only
  split
  · exact Run.refl s
  · split
    · exact Run.refl s
    · split
      · exact Run.refl s
      · split
        · exact run_doubleFault fun _ => hs
        · split
          · exact Run.refl s
          next hentry =>
            have hnone : s.entryOf c = none := by simpa using hentry
            split
            · split
              · exact run_wantSearch fun hm => by rcases hs with hs | hs <;> rw [hs] at hm <;> cases hm
              · exact Run.refl s
            next hitem => exact run_joinBacklog hnone hitem
theorem run_freezeResponse (c : Chan) (s : State) : Run q s (freezeResponse c s).2 := by
  unfold freezeResponse
  split
  next h => exact (run_setHeld fun _ => .inl h).trans (run_notifyHeld _ _ _)
  · exact Run.refl s
theorem run_respond {c : Chan} {x : Response} {s : State} (hs : (s.chan c).state = .active ∨ (s.chan c).state = .held) :
    Run q s (respond c x s).2 := by
  cases x with
  | report => exact Run.refl s
  | move => exact run_moveResponse hs
  | freeze => exact run_freezeResponse c s
theorem run_fire {c : Chan} {n : Fin 8} {f : Fire} {s : State}
    (hs : (s.chan c).state = .active ∨ (s.chan c).state = .held) : Run q s (fire c n f s) := by
  unfold fire
  dsimp only
  have hfired : Run q s (s.modChan c fun r => { r with watch := ⟨.fired, 0, 0, none⟩ }) := by
    refine run_modChan s ⟨id, id, fun _ _ => ⟨Nat.zero_le _, Nat.zero_le _, fun hoff => ?_, fun _ _ => rfl⟩⟩ rfl
    have hoff' : (s.chan c).state = .unused ∨ (s.chan c).state = .parked ∨ (s.chan c).state = .dark := hoff
    rcases hs with hs | hs <;> simp [hs] at hoff'
  refine ((hfired.trans (run_bumpStage _ _ _)).trans (run_respond ?_)).trans (run_notifyChan _ _ _ _)
  exact (congrArg (fun r : ChanRec => r.state = .active ∨ r.state = .held) 
    (chan_modChan_same s c fun r => { r with watch := ⟨.fired, 0, 0, none⟩ })).mpr hs
theorem run_evaluate (c : Chan) (ev : Evidence) (s : State) : Run q s (evaluate c ev s) := by
  unfold evaluate
  dsimp only
  refine run_ite (fun h => ?_) fun _ => Run.refl s
  split
  next n hn =>
    split
    next w hw => exact run_modChan s (fair_watch h.1 hn hw) rfl
    next f _ => exact run_fire h.1
  · exact Run.refl s

/-! ## Sweeps (R114 to R117) -/

theorem run_joinReturn (c : Chan) (s : State) : Run q s (joinReturn c s) := by
  unfold joinReturn
  refine run_ite (fun h => ?_) fun _ => Run.refl s
  simp only [Bool.and_eq_true, Option.isNone_iff_eq_none] at h
  exact run_joinBacklog h.1.2 h.2
theorem run_dropReturn (c : Chan) (s : State) : Run q s (dropReturn c s) :=
  run_filterItems s fun i hi => by simp [hi]
theorem run_sweepReturn (c : Chan) (xs : List (Nat × Nat)) (s : State) : Run q s (sweepReturn c xs s) := by
  unfold sweepReturn
  split
  next w _ =>
    refine run_ite (fun _ => Run.refl s) fun _ => run_ite (fun _ => ?_) fun _ => ?_
    · exact (run_zeroReturn s c).trans (run_dropReturn _ _)
    · have hcount : Run q s (s.modChan c fun r => { r with
          returnWatch := some { w with run := if w.run = w.dwell then w.run else w.run + 1 } }) :=
        run_modChan s (fair_same rfl rfl rfl rfl rfl) rfl
      exact hcount.trans (run_ite (fun _ => run_joinReturn _ _) fun _ => Run.refl _)
  · exact Run.refl s
theorem run_sweepSpoil (c : Chan) (xs : List (Nat × Nat)) (s : State) : Run q s (sweepSpoil c xs s) := by
  unfold sweepSpoil
  dsimp only
  split
  · exact run_ite (fun _ => run_spoil _ _ _ _) fun _ => Run.refl s
  · exact Run.refl s
theorem run_sweepHit (c : Chan) (xs : List (Nat × Nat)) (s : State) : Run q s (sweepHit c xs s) := by
  unfold sweepHit
  split
  · exact run_evaluate _ _ _
  · exact Run.refl s
theorem run_standingSweep (z : Stage) (xs : List (Nat × Nat)) (s : State) : Run q s (standingSweep z xs s) :=
  (run_sweepPool s _ _).trans (run_foldl (fun s c =>
    ((run_sweepReturn c xs s).trans (run_sweepSpoil c xs _)).trans (run_sweepHit c xs _)) _ _)
theorem run_windowExpiry (c : Chan) (s : State) : Run q s (windowExpiry c s) := by
  unfold windowExpiry
  refine run_ite (fun h => ?_) fun _ => Run.refl s
  refine (run_modChan s ⟨id, id, fun hps ⟨_, _, h3, _⟩ => ?_⟩ rfl).trans (run_bumpStage _ _ _)
  refine ⟨Nat.zero_le _, Nat.zero_le _, fun hoff => ?_, fun n _ => armed_below hps n⟩
  have hst := h3 hoff
  rw [h.1] at hst; cases hst

/-! ## Surveys (R119) -/

theorem surveyWatch_ok {p : Profile} {w : Watch} (hp : 1 ≤ p.level1.persistence ∧ 1 ≤ p.level2.persistence)
    (h1 : w.run1 ≤ 8) (h2 : w.run2 ≤ 8) (hb : w.below p = true) :
    (surveyWatch p w).run1 ≤ 8 ∧ (surveyWatch p w).run2 ≤ 8 ∧ (surveyWatch p w).below p = true
      ∧ (w.st = .off → (surveyWatch p w).st = .off) := by
  cases hs : w.st <;> by_cases k1 : p.level1.kind = .sweepHit <;> by_cases k2 : p.level2.kind = .sweepHit <;>
    simp_all [surveyWatch, Watch.below, Watch.armed] <;> omega
theorem fair_surveyed (s : State) (r : ChanRec) : r.Fair s.profiles (r.surveyed s) := by
  refine ⟨id, id, fun hps ⟨h1, h2, h3, h4⟩ => ?_⟩
  unfold ChanRec.WatchOk ChanRec.surveyed
  dsimp only
  cases hp : r.profile with
  | none =>
    refine ⟨h1, h2, h3, fun n hn => ?_⟩
    have hn' : r.profile = some n := hn
    rw [hp] at hn'; cases hn'
  | some n =>
    obtain ⟨hp1, _, hp2, _⟩ := hps n
    obtain ⟨hr1, hr2, hb, hoff⟩ := surveyWatch_ok ⟨hp1, hp2⟩ h1 h2 (h4 n hp)
    refine ⟨hr1, hr2, fun hs => hoff (h3 hs), fun m hm => ?_⟩
    obtain rfl : n = m := Option.some.inj (hp.symm.trans hm)
    exact hb
theorem run_surveyBegins (z : Stage) (s : State) : Run q s (surveyBegins z s) :=
  run_foldl (fun s _ => run_modChan s (fair_surveyed s _) rfl) _ s

/-! ## The Admission Gate -/

theorem run_refuseTune (f : Frame) (c : Chan) (t : Nat) (why : GateReason) (n : Nat) (a b : Option Chan) (s : State) :
    Run q s (refuseTune f c t why n a b s) :=
  ((run_route s _).trans (run_bumpStage _ _ _)).trans (run_notifyChan _ _ _ _)
theorem run_trackTune (f : Frame) (c : Chan) (t : Nat) (s : State) : Run q s (trackTune f c t s) :=
  (run_handTo s _ f).trans (run_ite (fun _ => run_notes _ _) fun _ => Run.refl _)
theorem not_gateBusy {s : State} {c : Chan} (h : ¬ s.gateBusy c = true) :
    s.heldFrames.length < 8 ∧ s.engine.admQ.length < 8 := by
  simp only [State.gateBusy, Bool.or_eq_true, not_or, decide_eq_true_eq, not_le] at h
  exact ⟨h.1.1.2, length_of_admFull h.1.2⟩
theorem run_examineTune (f : Frame) (c : Chan) (t : Nat) (s : State) : Run q s (examineTune f c t s) := by
  refine run_ite (fun _ => run_refuseTune _ _ _ _ _ _ _ s) fun _ => run_ite (fun _ => run_refuseTune _ _ _ _ _ _ _ s)
    fun _ => run_ite (fun _ => run_trackTune f c t s) fun _ => run_ite (fun _ => run_handTo s _ f) fun _ =>
    run_ite (fun _ => run_refuseTune _ _ _ _ _ _ _ s) fun h => ?_
  obtain ⟨hframes, hadm⟩ := not_gateBusy h
  exact (run_heldFrames s fun _ => by rw [List.length_append]; exact hframes).trans (run_joinAdm _ _ hadm)

/-- A channel without an entry is reserved for an entry that is on its way. -/
theorem place_reserveAdd {c : Chan} {t : Nat} {e : Entry} {s : State} (hc : e.chan = c) (hnone : s.entryOf c = none)
    (d : Chan) : (addEntry e (reserve c t s)).place d =
      if d = c then ⟨((s.chan c).reserve t).seat, [e], [], s.movesAt c⟩ else s.place d := by
  subst hc
  have hentries : (reserve e.chan t s).entriesAt e.chan = [] := by
    rw [State.entriesAt, table_reserve]; exact (entryOf_eq_none_iff s e.chan).mp hnone
  rw [place_addEntry, place_reserve]
  by_cases hd : d = e.chan
  · subst hd; rw [if_pos rfl, if_pos rfl, if_pos rfl, hentries]; rfl
  · rw [if_neg hd, if_neg hd, if_neg hd]
theorem sane_reserveAdd {c : Chan} {t : Nat} {e : Entry} {s : State} {k : Bool} (hc : e.chan = c)
    (hnone : s.entryOf c = none) (hroom : s.table.length < 12) (hs : e.state ≠ .proposed) :
    Sane q k s (addEntry e (reserve c t s)) := by
  subst hc
  refine (sane_reserve s e.chan t).trans (sane_addEntry ?_ hs ?_ ?_)
  · rwa [table_reserve]
  · rwa [entryOf_reserve]
  · rw [itemOf_eq_none_iff, ← place_items, place_reserve, if_pos rfl]
theorem run_reserveAdd {c : Chan} {t : Nat} {e : Entry} {s : State} (hc : e.chan = c) (hnone : s.entryOf c = none)
    (hroom : s.table.length < 12) (hs : e.state = .sent) (ht : e.target = some t)
    (ho : e.origin ≠ .auto ∧ e.origin ≠ .ret) (hset : (s.chan c).settled = true) :
    Run q s (addEntry e (reserve c t s)) := by
  have hs' : e.state ≠ .searching := by rw [hs]; exact EntryState.noConfusion
  refine .of_local (sane_reserveAdd hc hnone hroom (by rw [hs]; exact EntryState.noConfusion)) c
    (fun d hd => by rw [place_reserveAdd hc hnone, if_neg hd]) fun hsound => ?_
  rw [place_reserveAdd hc hnone, if_pos rfl]
  exact place_moving rfl rfl (hsound.movesAt_of_none hnone) (shaped_reserve (hsound.shaped c) (settled_iff.mp hset) t) hs'
    ((stands_moving hs').mpr ⟨rfl, ht.symm, .inl ho⟩)
theorem run_admitHeld {h : HeldFrame} {s : State} (hnone : s.entryOf h.chan = none) (hroom : s.table.length < 12)
    (hset : (s.chan h.chan).settled = true) : Run q s (admitHeld h s) := by
  unfold admitHeld
  dsimp only
  refine Run.trans ?_ ((run_dropHeld _ _).trans (run_handTo _ _ _))
  exact run_reserveAdd rfl hnone hroom rfl rfl ⟨Origin.noConfusion, Origin.noConfusion⟩ hset
theorem heldOf_chan {s : State} {c : Chan} {h : HeldFrame} (hh : s.heldOf c = some h) : h.chan = c := by
  simpa using List.find?_some hh
theorem run_guardDone (c : Chan) (r : Result) (s : State) : Run q s (guardDone c r s) := by
  unfold guardDone
  split
  next h hh =>
    have hc := heldOf_chan hh
    have hrefuse : ∀ w n a b, Run q s (refuseTune h.frame c h.target w n a b (dropHeld c s)) := fun _ _ _ _ =>
      (run_dropHeld s c).trans (run_refuseTune _ _ _ _ _ _ _ _)
    refine run_ite (fun _ => run_ite (fun _ => hrefuse _ _ _ _) fun _ => run_ite (fun hok => ?_) fun _ => hrefuse _ _ _ _)
      fun _ => hrefuse _ _ _ _
    simp only [Bool.and_eq_true, Option.isNone_iff_eq_none, Bool.not_eq_true'] at hok
    obtain ⟨⟨⟨hset, hnone⟩, _⟩, hfull⟩ := hok
    exact run_admitHeld (hc ▸ hnone) (length_of_tableFull (by rw [hfull]; exact Bool.false_ne_true)) (hc ▸ hset)
  · exact Run.refl s
theorem run_fulfil (c : Chan) (t : Nat) (s : State) : Run q s (fulfil c t s) := by
  unfold fulfil
  refine run_ite (fun h => ?_) fun _ => run_dropNote s c
  simp only [Bool.and_eq_true, Option.isNone_iff_eq_none] at h
  exact ((run_dropNote s c).trans (run_adopt (x := .track) h.1.1 fun _ => h.1.2)).trans (run_queuePost _ _ _ _)
theorem run_noteReport (c : Chan) (t r : Nat) (s : State) : Run q s (noteReport c t r s) :=
  run_ite (fun _ => run_ite (fun _ => run_fulfil c t s) fun _ => run_dropNote s c) fun _ => Run.refl s
theorem run_adoptOffPlan {c : Chan} {f : Nat} {s : State} (h : s.isOffPlan c f = true) : Run q s (adoptOffPlan c f s) := by
  simp only [State.isOffPlan, Bool.and_eq_true, Bool.or_eq_true, decide_eq_true_eq, Option.isNone_iff_eq_none] at h
  exact (((run_dropNote s c).trans (run_adopt (x := .offPlan) h.1.1 fun _ => h.1.2)).trans (run_notifyChan _ _ _ _)).trans
    (run_queuePost _ _ _ _)
theorem run_postDone (c : Chan) (f : Nat) (x : AdoptKind) (r : Result) (s : State) : Run q s (postDone c f x r s) :=
  run_ite (fun _ => run_conflictAdopted _ _ _ _ _ _ s) fun _ => Run.refl s
theorem run_discardHeld (h : HeldFrame) (s : State) : Run q s (discardHeld h s) :=
  ((run_dropHeld s _).trans (run_withdrawGuard _ _)).trans (run_refuseTune _ _ _ _ _ _ _ _)
theorem run_gateDown (z : Stage) (s : State) : Run q s (gateDown z s) :=
  (run_foldl (fun s h => run_discardHeld h s) _ s).trans (run_notes _ _)

end Sys2Proof.Machine
end

section
/-! The Set Change Unit keeps what `Run` says, and the COMMIT queue keeps to the current steps (R47, R160 to R172). -/

namespace Sys2Proof.Machine

variable {q : Bool}

/-! ## Drops -/

theorem run_parkChannel {c : Chan} {s : State} (hs : (s.chan c).state = .active ∨ (s.chan c).state = .held)
    (hnone : s.entryOf c = none) : Run q s (parkChannel c s) := by
  have hplace : ∀ d, (parkChannel c s).place d = if d = c then
      { s.place d with seat := (s.chan c).park.seat, items := [] } else s.place d := fun d => by
    rw [parkChannel, place_reflag, place_dropItem, place_modChan]
    split <;> rfl
  have hsane : Sane q true s (parkChannel c s) :=
    ((sane_modChan fair_park fun _ => List.nil_subset _).trans (sane_dropItem _ _)).trans (sane_reflag _ _)
  refine .of_local hsane c (fun d hd => by rw [hplace, if_neg hd]) fun hsound => ?_
  have hshaped := hsound.shaped c
  rw [hplace, if_pos rfl]
  refine place_idle ((entryOf_eq_none_iff s c).mp hnone) (Nat.zero_le _) (hsound.movesAt_of_none hnone) ?_
    fun hm => ChState.noConfusion hm
  change (s.chan c).park.shaped = true
  rcases hs with hs | hs <;> simp_all [ChanRec.shaped, ChanRec.park]
theorem run_dropSlot (z : Stage) (n : Slot) (s : State) : Run q s (dropSlot z n s) := by
  have hmod : ∀ (f : CommitRec → CommitRec), (∀ r, (f r).phase = r.phase) → ∀ x, Run q x (modCommit z f x) :=
    fun _ hf x => run_modCommit x z hf
  have hpark : (s.chan ⟨z, n⟩).state = .active ∨ (s.chan ⟨z, n⟩).state = .held →
      Run q s (if (s.entryOf ⟨z, n⟩).isSome then modCommit z (fun r => { r with deferred := r.deferred ++ [n] }) s
        else modCommit z CommitRec.drop (parkChannel ⟨z, n⟩ s)) := fun hs =>
    run_ite (fun _ => hmod (fun r => { r with deferred := r.deferred ++ [n] }) (fun _ => rfl) s) fun hnone =>
      (run_parkChannel hs (by simpa using hnone)).trans (hmod CommitRec.drop (fun _ => rfl) _)
  unfold dropSlot
  dsimp only
  split
  next h => exact hpark (.inl h)
  next h => exact hpark (.inr h)
  · exact hmod CommitRec.drop (fun _ => rfl) s
  · exact hmod (fun r => { r with deferred := r.deferred ++ [n] }) (fun _ => rfl) s
  · exact hmod CommitRec.skip (fun _ => rfl) s
  · exact hmod CommitRec.skip (fun _ => rfl) s
theorem run_dropAll (z : Stage) (s : State) : Run q s (dropAll z s) := run_foldl (fun s n => run_dropSlot z n s) _ s
theorem run_settleDrop (z : Stage) (n : Slot) (s : State) : Run q s (settleDrop z n s) :=
  run_ite (fun _ => Run.refl s) fun _ =>
    (run_modCommit s z (f := fun r => { r with deferred := r.deferred.filter fun m => m ≠ n }) fun _ => rfl).trans
      (run_dropSlot z n _)
theorem run_settleDrops (s : State) : Run q s (settleDrops s) := by
  refine run_foldl (fun s z => ?_) _ s
  split
  · exact run_foldl (fun s n => run_settleDrop z n s) _ s
  · exact Run.refl s

/-! ## Steps -/

/-- The record of a channel an ADD defines or stores its attributes in. -/
def ChanRec.restage (cls : TxClass) (p : Priority) (x : Option (Fin 8)) (r : ChanRec) : ChanRec :=
  if r.state = .unused then { ChanRec.reset with state := .parked, cls := cls, priority := p, profile := x }
  else { r with cls := cls, priority := p, profile := x }
theorem defineStaged_eq (c : Chan) (cls : TxClass) (p : Priority) (x : Option (Fin 8)) (s : State) :
    defineStaged c cls p x s = s.modChan c (ChanRec.restage cls p x) := rfl
theorem restage_fair {cls : TxClass} {p : Priority} {x : Option (Fin 8)} {ps : Vector Profile 8} {r : ChanRec}
    (hr : r.state = .unused ∨ r.state = .parked) :
    r.Fair ps (r.restage cls p x) ∧ (r.restage cls p x).occupied ⊆ r.occupied := by
  unfold ChanRec.restage
  split
  next h =>
    refine ⟨⟨fun _ => Nat.zero_le _, fun _ => Nat.zero_le _, fun _ _ => ?_⟩, List.nil_subset _⟩
    exact ⟨Nat.zero_le _, Nat.zero_le _, fun _ => rfl, fun _ _ => rfl⟩
  next h =>
    refine ⟨⟨id, id, fun _ ⟨h1, h2, h3, _⟩ => ⟨h1, h2, h3, fun n _ => ?_⟩⟩, List.Subset.refl _⟩
    have hoff := h3 (hr.imp id .inl)
    simp [Watch.below, hoff]
theorem restage_parked {cls : TxClass} {p : Priority} {x : Option (Fin 8)} {r : ChanRec}
    (hr : r.state = .unused ∨ r.state = .parked) (hshaped : r.shaped = true) :
    (r.restage cls p x).shaped = true ∧ (r.restage cls p x).state = .parked := by
  unfold ChanRec.restage
  split
  · exact ⟨rfl, rfl⟩
  next h => exact ⟨hshaped, hr.resolve_left h⟩
theorem run_defineStaged {c : Chan} {cls : TxClass} {p : Priority} {x : Option (Fin 8)} {s : State}
    (hs : (s.chan c).state = .unused ∨ (s.chan c).state = .parked) (hnone : s.entryOf c = none) :
    Run q s (defineStaged c cls p x s) := by
  rw [defineStaged_eq]
  obtain ⟨hfair, hocc⟩ := restage_fair (cls := cls) (p := p) (x := x) (ps := s.profiles) hs
  refine .of_local (sane_modChan hfair fun _ => hocc) c (fun d hd => by rw [place_modChan, if_neg hd]) fun hsound => ?_
  obtain ⟨hshaped, hparked⟩ := restage_parked (cls := cls) (p := p) (x := x) hs (hsound.shaped c)
  rw [place_modChan, if_pos rfl]
  refine place_idle ((entryOf_eq_none_iff s c).mp hnone) (hsound.itemsAt_length c) (hsound.movesAt_of_none hnone) hshaped
    fun hm => ?_
  rw [seat_state, hparked] at hm; cases hm
theorem run_askStep (z : Stage) (n : Slot) (t : Target) (s : State) : Run false s (askStep z n t s).2 := by
  unfold askStep
  split
  · exact run_joinCom s _
  · split
    next w x s1 h =>
      have hs1 : (searchNext ⟨z, n⟩ Search.start s).2 = s1 := congrArg Prod.snd h
      exact hs1 ▸ (run_searchNext _ _ s).trans (run_joinCom _ _)
    next st s1 _ h =>
      have hs1 : (searchNext ⟨z, n⟩ Search.start s).2 = s1 := congrArg Prod.snd h
      exact hs1 ▸ (run_searchNext _ _ s).trans (run_modCommit _ z fun _ => rfl)
/-- The commit's phase names the step it has come to. -/
def atStep (z : Stage) (n : Slot) (s : State) : State := modCommit z (fun r => { r with phase := .stepping n }) s
theorem chan_modCommit (z : Stage) (f : CommitRec → CommitRec) (s : State) (c : Chan) :
    (modCommit z f s).chan c = s.chan c := by unfold modCommit; split <;> rfl
theorem entryOf_modCommit (z : Stage) (f : CommitRec → CommitRec) (s : State) (c : Chan) :
    (modCommit z f s).entryOf c = s.entryOf c := by unfold modCommit; split <;> rfl
theorem engine_modCommit (z : Stage) (f : CommitRec → CommitRec) (s : State) : (modCommit z f s).engine = s.engine := by
  unfold modCommit; split <;> rfl
/-- Where a step can do more than count itself: its channel is UNUSED or PARKED, or ACTIVE. -/
theorem stepOne_state {r : ChanRec} {e : Option Entry}
    (h : ¬(r.state = .dark ∨ r.state = .moving ∨ r.state = .held ∨ e.isSome = true)) :
    (r.state = .unused ∨ r.state = .parked ∨ r.state = .active) ∧ e = none := by
  simp only [not_or] at h
  obtain ⟨h1, h2, h3, h4⟩ := h
  refine ⟨?_, by simpa using h4⟩
  cases hs : r.state <;> simp_all
theorem run_stepOne (z : Stage) (n : Slot) (s : State) : Run false s (stepOne z n s).2 := by
  have hat : Run false s (atStep z n s) := run_rephase s z _
  have hfail : ∀ (f : CommitRec → CommitRec), (∀ r, (f r).phase = r.phase) → Run false s (modCommit z f (atStep z n s)) :=
    fun _ hf => hat.trans (run_modCommit _ z hf)
  unfold stepOne
  dsimp only
  split
  · exact hfail _ fun _ => rfl
  next h =>
    obtain ⟨hs, hnone⟩ := stepOne_state h
    split
    · split
      · exact hfail _ fun _ => rfl
      next hact =>
        refine (hat.trans (run_defineStaged ?_ hnone)).trans (run_askStep _ _ _ _)
        exact hs.imp id fun h => h.resolve_right hact
    · split
      · exact hfail _ fun _ => rfl
      · split
        · split
          · exact hfail (fun r => { r with applied := r.applied + 1 }) fun _ => rfl
          · exact hat.trans (run_askStep _ _ _ _)
        · exact hat.trans (run_askStep _ _ _ _)
    · exact hat
theorem run_runSteps (z : Stage) (ns : List Slot) (s : State) : Run false s (runSteps z ns s) := by
  induction ns generalizing s with
  | nil => exact run_rephase s z _
  | cons n ns ih =>
    unfold runSteps
    have hstep := run_stepOne z n s
    split
    · split
      next s1 h => rw [h] at hstep; exact hstep
      next s1 h => rw [h] at hstep; exact hstep.trans (ih s1)
    · exact ih s
theorem run_nextStep (z : Stage) (n : Slot) (s : State) : Run false s (nextStep z n s) := run_runSteps z _ s

/-! ## The COMMIT queue -/

/-- The COMMIT queue holds no step of a committing stage. -/
structure Stepless (z : Stage) (s : State) : Prop where
  queued : Queued s
  none : ∀ x ∈ s.engine.comQ, x.stage ≠ z
  running : ∃ r, s.commitRec z = some r

theorem Stepless.of_same {z : Stage} {s t : State} (h : Stepless z s) (hsane : Sane true false s t)
    (hcom : t.engine.comQ = s.engine.comQ) (hc : t.commits = s.commits) : Stepless z t :=
  ⟨hsane.queued rfl h.queued, by rw [hcom]; exact h.none, by simp only [State.commitRec, hc]; exact h.running⟩
theorem commitRec_setCommit (s : State) (z : Stage) (r : CommitRec) (y : Stage) :
    (s.setCommit z (.committing r)).commitRec y = if y = z then some r else s.commitRec y := by
  rw [State.commitRec, commits_setCommit]
  by_cases e : y = z
  · rw [if_pos e, if_pos e]
  · rw [if_neg e, if_neg e, State.commitRec]
theorem commitRec_modCommit (z : Stage) (f : CommitRec → CommitRec) (s : State) (y : Stage) :
    (modCommit z f s).commitRec y = if y = z then (s.commitRec z).map f else s.commitRec y := by
  cases h : s.commitRec z with
  | none =>
    have hsame : modCommit z f s = s := by simp only [modCommit, h]
    rw [hsame]
    split
    next e => rw [e, h]; rfl
    · rfl
  | some r =>
    have hset : modCommit z f s = s.setCommit z (.committing (f r)) := by simp only [modCommit, h]
    rw [hset, commitRec_setCommit]
    rfl
/-- Where no step of the stage waits, its record may change at will. -/
theorem Stepless.modCommit {z : Stage} {s : State} (h : Stepless z s) (f : CommitRec → CommitRec) :
    Stepless z (modCommit z f s) := by
  obtain ⟨⟨h1, h2, h3⟩, hnone, r, hr⟩ := h
  have heng := engine_modCommit z f s
  refine ⟨⟨by rw [heng]; exact h1, by rw [heng]; exact h2, fun x hx => ?_⟩, by rw [heng]; exact hnone, f r, ?_⟩
  · rw [heng] at hx
    rw [commitRec_modCommit, if_neg (hnone x hx)]
    exact h3 x hx
  · rw [commitRec_modCommit, if_pos rfl, hr]; rfl
/-- The current step of a commit joins its queue. -/
theorem Stepless.joinCom {x : ComReq} {s : State} (h : Stepless x.stage s)
    (hphase : ∀ r, s.commitRec x.stage = some r → r.phase = .stepping x.slot) : Queued (joinCom x s) := by
  obtain ⟨⟨h1, h2, h3⟩, hnone, r, hr⟩ := h
  refine ⟨h1, ?_, fun y hy => ?_⟩
  · change ((s.engine.comQ ++ [x]).map (·.stage)).Nodup
    rw [List.map_append, List.nodup_append]
    refine ⟨h2, List.nodup_singleton _, fun a ha b hb => ?_⟩
    obtain ⟨y, hy, rfl⟩ := List.mem_map.mp ha
    rw [List.map_singleton, List.mem_singleton] at hb
    rw [hb]; exact hnone y hy
  · rcases List.mem_append.mp hy with hy | hy
    · exact h3 y hy
    · rw [List.mem_singleton.mp hy]
      exact ⟨r, hr, hphase r hr⟩

/-- What a step leaves: its request in the queue where the commit waits, no request of the stage otherwise. -/
def StepLeft (z : Stage) (x : Bool × State) : Prop := Queued x.2 ∧ (x.1 = false → Stepless z x.2)
theorem stepLeft_of_stepless {z : Stage} {s : State} {b : Bool} (h : Stepless z s) : StepLeft z (b, s) :=
  ⟨h.queued, fun _ => h⟩
theorem stepLeft_askStep {z : Stage} {n : Slot} {t : Target} {s : State} (h : Stepless z s)
    (hphase : ∀ r, s.commitRec z = some r → r.phase = .stepping n) : StepLeft z (askStep z n t s) := by
  have hsearch : Stepless z (searchNext ⟨z, n⟩ Search.start s).2 :=
    h.of_same (run_searchNext _ _ s).sane (by rw [searchNext_changes_pools]) (by rw [searchNext_changes_pools])
  have hsame : ∀ r, (searchNext ⟨z, n⟩ Search.start s).2.commitRec z = some r → r.phase = .stepping n := fun r hr => by
    rw [searchNext_changes_pools] at hr; exact hphase r hr
  unfold askStep
  split
  next f fb => exact ⟨Stepless.joinCom (x := ⟨z, n, fb, .given f, Search.start⟩) h hphase, fun h => nomatch h⟩
  · split
    next w x s1 hs =>
      have hs1 : (searchNext ⟨z, n⟩ Search.start s).2 = s1 := congrArg Prod.snd hs
      rw [hs1] at hsearch hsame
      exact ⟨Stepless.joinCom (x := ⟨z, n, false, w, x⟩) hsearch hsame, fun h => nomatch h⟩
    next st s1 _ hs =>
      have hs1 : (searchNext ⟨z, n⟩ Search.start s).2 = s1 := congrArg Prod.snd hs
      rw [hs1] at hsearch
      exact stepLeft_of_stepless (hsearch.modCommit _)
theorem phase_atStep {z : Stage} {n : Slot} {s : State} : ∀ r, (atStep z n s).commitRec z = some r → r.phase = .stepping n := by
  intro r hr
  rw [atStep, commitRec_modCommit, if_pos rfl] at hr
  obtain ⟨r0, _, rfl⟩ := Option.map_eq_some_iff.mp hr
  rfl
theorem stepLeft_stepOne {z : Stage} {n : Slot} {s : State} (h : Stepless z s) : StepLeft z (stepOne z n s) := by
  have hat : Stepless z (atStep z n s) := h.modCommit _
  unfold stepOne
  dsimp only
  split
  · exact stepLeft_of_stepless (hat.modCommit _)
  next hs =>
    obtain ⟨hs, hnone⟩ := stepOne_state hs
    split
    · split
      · exact stepLeft_of_stepless (hat.modCommit _)
      next cls p x _ hact =>
        have hdef : Run true (atStep z n s) (defineStaged ⟨z, n⟩ cls p x (atStep z n s)) :=
          run_defineStaged (hs.imp id fun h => h.resolve_right hact) hnone
        exact stepLeft_askStep (hat.of_same hdef.sane rfl rfl) phase_atStep
    · split
      · exact stepLeft_of_stepless (hat.modCommit _)
      · split
        · split
          · exact stepLeft_of_stepless (hat.modCommit _)
          · exact stepLeft_askStep hat phase_atStep
        · exact stepLeft_askStep hat phase_atStep
    · exact stepLeft_of_stepless hat
theorem queued_runSteps {z : Stage} (ns : List Slot) {s : State} (h : Stepless z s) : Queued (runSteps z ns s) := by
  induction ns generalizing s with
  | nil => exact (h.modCommit _).queued
  | cons n ns ih =>
    unfold runSteps
    split
    · obtain ⟨hq, hless⟩ := stepLeft_stepOne (n := n) h
      split
      next s1 hs => rw [hs] at hq; exact hq
      next s1 hs => rw [hs] at hless; exact ih (hless rfl)
    · exact ih h

/-! ## The start of a commit -/

theorem stepless_of_idle {z : Stage} {r : CommitRec} {s : State} (h : Queued s) (hnone : s.commitRec z = none) :
    Stepless z (s.setCommit z (.committing r)) := by
  obtain ⟨h1, h2, h3⟩ := h
  have hno : ∀ x ∈ s.engine.comQ, x.stage ≠ z := fun x hx e => by
    obtain ⟨r, hr, _⟩ := h3 x hx
    rw [e, hnone] at hr; cases hr
  refine ⟨⟨h1, h2, fun x hx => ?_⟩, hno, r, by rw [commitRec_setCommit, if_pos rfl]⟩
  rw [commitRec_setCommit, if_neg (hno x hx)]
  exact h3 x hx
theorem comQ_dropSlot (z : Stage) (n : Slot) (s : State) : (dropSlot z n s).engine = s.engine := by
  have hpark : ∀ c, (parkChannel c s).engine = s.engine := fun _ => rfl
  unfold dropSlot
  dsimp only
  split
  · split
    · exact engine_modCommit ..
    · exact (engine_modCommit ..).trans (hpark _)
  · split
    · exact engine_modCommit ..
    · exact (engine_modCommit ..).trans (hpark _)
  all_goals exact engine_modCommit ..
theorem Stepless.dropSlot {z : Stage} {s : State} (h : Stepless z s) (n : Slot) : Stepless z (dropSlot z n s) := by
  refine ⟨(run_dropSlot (q := true) z n s).sane.queued rfl h.queued, by rw [comQ_dropSlot]; exact h.none, ?_⟩
  obtain ⟨r, hr⟩ := h.running
  have hmod : ∀ (f : CommitRec → CommitRec) (x : State), x.commitRec z = some r →
      ∃ r', (Machine.modCommit z f x).commitRec z = some r' := fun f x hx =>
    ⟨f r, by rw [commitRec_modCommit, if_pos rfl, hx]; rfl⟩
  unfold Machine.dropSlot
  dsimp only
  split
  · split
    · exact hmod _ _ hr
    · exact hmod _ _ hr
  · split
    · exact hmod _ _ hr
    · exact hmod _ _ hr
  all_goals exact hmod _ _ hr
theorem Stepless.dropAll {z : Stage} {s : State} (h : Stepless z s) : Stepless z (dropAll z s) := by
  unfold Machine.dropAll
  generalize (List.finRange 32).filter _ = ns
  induction ns generalizing s with
  | nil => exact h
  | cons n ns ih => exact ih (h.dropSlot n)
/-- A commit starts at a stage that runs none and is UP or waits. -/
theorem run_startCommit {z : Stage} {t : Trigger} {s : State} (hnone : q = true → s.commitRec z = none)
    (hlink : (s.port (.stage z)).up = true ∨ s.commits[z] ≠ .idle) : Run q s (startCommit z t s) := by
  have hrun : Run false s (startCommit z t s) :=
    ((run_setCommit s (hlink.imp id .inr) fun h => noClean h).trans (run_dropAll z _)).trans (run_runSteps z _ _)
  cases q with
  | false => exact hrun
  | true =>
    exact hrun.withQueued fun hq =>
      queued_runSteps _ (stepless_of_idle (r := CommitRec.start t) hq (hnone rfl)).dropAll
theorem run_tryStart (z : Stage) (s : State) : Run q s (tryStart z s) := by
  unfold tryStart
  split
  next d h =>
    refine run_ite (fun _ => run_startCommit (fun _ => by simp only [State.commitRec, h]) (.inr ?_)) fun _ => Run.refl s
    rw [h]; exact CommitState.noConfusion
  · exact Run.refl s
theorem run_cancelWait (z : Stage) (s : State) : Run q s (cancelWait z s) := by
  unfold cancelWait
  split
  next d h =>
    exact run_setCommit s (.inr (.inl rfl)) fun _ r n hr => by rw [h] at hr; cases hr
  · exact Run.refl s
/-- The wait of a stage that has come UP. -/
theorem run_beginWait {z : Stage} {s : State} (hup : (s.port (.stage z)).up = true) : Run false s (beginWait z s) :=
  run_ite (fun _ => (run_setCommit s (.inl hup) fun h => noClean h).trans (run_tryStart z _)) fun _ => Run.refl s

/-! ## A step that ends -/

/-- The step's channel is reserved for its pushed move. -/
theorem run_stepReserve {c : Chan} {t : Nat} {j : Nat} {s : State}
    (hs : (s.chan c).state = .parked ∨ (s.chan c).state = .active) (hnone : s.entryOf c = none) :
    Run q s (joinBacklog ⟨c, .push, j, false⟩ (reserve c t s)) := by
  have hitem : (reserve c t s).itemOf c = none := by
    rw [itemOf_eq_none_iff, ← place_items, place_reserve, if_pos rfl]
  have hsane : Sane q true s (joinBacklog ⟨c, .push, j, false⟩ (reserve c t s)) :=
    (sane_reserve s c t).trans (sane_joinBacklog (by rw [entryOf_reserve]; exact hnone) hitem)
  refine .of_local hsane c (fun d hd => by rw [place_joinBacklog, if_neg hd, place_reserve, if_neg hd]) fun hsound => ?_
  have hitems : (reserve c t s).itemsAt c = [] := (itemOf_eq_none_iff _ c).mp hitem
  rw [place_joinBacklog, if_pos rfl, place_reserve, if_pos rfl, hitems]
  refine place_idle ((entryOf_eq_none_iff s c).mp hnone) le_rfl (hsound.movesAt_of_none hnone)
    (shaped_reserve (hsound.shaped c) (hs.elim (fun h => .inr (.inr h)) .inl) t) fun _ => ?_
  exact ⟨_, List.mem_singleton_self _, rfl⟩
theorem run_stepFound (z : Stage) (n : Slot) (t : Nat) (s : State) : Run false s (stepFound z n t s) :=
  run_ite (fun h => ((run_stepReserve h.1 (by simpa using h.2.1)).trans
    (run_modCommit _ z (f := fun r => { r with outstanding := r.outstanding ++ [n] }) fun _ => rfl)).trans (run_nextStep z n _))
    fun _ => (run_modCommit s z (f := CommitRec.skip) fun _ => rfl).trans (run_nextStep z n _)
theorem engine_reserve (c : Chan) (t : Nat) (s : State) : (reserve c t s).engine = s.engine := by rw [reserve_changes]
theorem commits_reserve (c : Chan) (t : Nat) (s : State) : (reserve c t s).commits = s.commits := by rw [reserve_changes]
theorem queued_stepFound {z : Stage} {n : Slot} {t : Nat} {s : State} (h : Stepless z s) : Queued (stepFound z n t s) := by
  unfold stepFound
  dsimp only
  split
  next hs =>
    have hres : Run true s (joinBacklog ⟨⟨z, n⟩, .push, s.now, false⟩ (reserve ⟨z, n⟩ t s)) :=
      run_stepReserve hs.1 (by simpa using hs.2.1)
    exact queued_runSteps _ ((h.of_same hres.sane (congrArg Engine.comQ (engine_reserve _ t s))
      (commits_reserve _ t s)).modCommit _)
  · exact queued_runSteps _ (h.modCommit _)
theorem stepless_leaveHead {x : ComReq} {s : State} (h : Queued s) (hx : s.head .commit = some (.com x)) :
    Stepless x.stage (leaveHead .commit s) := by
  obtain ⟨h1, h2, h3⟩ := h
  cases hq : s.engine.comQ with
  | nil => simp [State.head, hq] at hx
  | cons y ys =>
    obtain rfl : y = x := by simpa [State.head, hq] using hx
    rw [hq] at h2 h3
    have hq' : (leaveHead .commit s).engine.comQ = ys := by simp [leaveHead, hq]
    rw [List.map_cons, List.nodup_cons] at h2
    obtain ⟨r, hr, _⟩ := h3 y List.mem_cons_self
    refine ⟨⟨h1, by rw [hq']; exact h2.2, fun w hw => ?_⟩, fun w hw e => ?_, r, hr⟩
    · rw [hq'] at hw; exact h3 w (List.mem_cons_of_mem y hw)
    · rw [hq'] at hw; exact h2.1 (List.mem_map.mpr ⟨w, hw, e⟩)
theorem run_stepSearched {x : ComReq} {o : SearchStep × State} (hx : o.2.head .commit = some (.com x)) :
    Run q o.2 (stepSearched x o) := by
  have hend : ∀ {t : State}, Run false o.2 t → (Stepless x.stage (leaveHead .commit o.2) → Queued t) → Run q o.2 t :=
    fun hrun h => hrun.withQueued fun hq => h (stepless_leaveHead hq hx)
  obtain ⟨st, s⟩ := o
  cases st with
  | more w y => exact run_replaceCom s (fun _ => hx) rfl
  | found f m p y =>
    exact hend ((run_leaveHead s .commit).trans (run_stepFound _ _ _ _)) queued_stepFound
  | empty y =>
    exact hend ((run_leaveHead s .commit).trans ((run_modCommit _ x.stage (f := CommitRec.fail x.slot 12)
      fun _ => rfl).trans (run_nextStep _ x.slot _)))
      fun h => queued_runSteps _ (h.modCommit _)
theorem head_searchNext (c : Chan) (y : Search) (s : State) (k : ReqClass) : (searchNext c y s).2.head k = s.head k := by
  rw [searchNext_changes_pools]; rfl
theorem head_searchDone (c : Chan) (w : Work) (y : Search) (o : Outcome) (s : State) (k : ReqClass) :
    (searchDone c w y o s).2.head k = s.head k := by
  rw [searchDone_changes_pools]; rfl
theorem run_stepDone {x : ComReq} {o : Outcome} {s : State} (hx : s.head .commit = some (.com x)) :
    Run q s (stepDone x o s) := by
  unfold stepDone
  split
  next f r _ =>
    refine run_ite (fun _ => ?_) fun _ => run_ite (fun _ => ?_) fun _ => ?_
    · exact ((run_leaveHead s .commit).trans (run_stepFound _ _ _ _)).withQueued fun hq =>
        queued_stepFound (stepless_leaveHead hq hx)
    · exact (run_searchNext _ _ s).trans (run_stepSearched (by rw [head_searchNext]; exact hx))
    · exact ((run_leaveHead s .commit).trans ((run_modCommit _ x.stage
        (f := CommitRec.fail x.slot r.verdict.code) fun _ => rfl).trans (run_nextStep _ x.slot _))).withQueued fun hq => queued_runSteps _ ((stepless_leaveHead hq hx).modCommit _)
  · exact (run_searchDone _ _ _ _ s).trans (run_stepSearched (by rw [head_searchDone]; exact hx))

/-! ## End and abort -/

theorem run_notifyCommit (z : Stage) (r : CommitRec) (why : CommitCause) (s : State) : Run q s (notifyCommit z r why s) :=
  run_notify s _ _ _ _
theorem run_keepSlots (z : Stage) (p : Slot → Bool) (s : State) : Run q s (keepSlots z p s) :=
  run_foldl (fun s _ => run_setStaged s _ _) _ s
theorem commits_keepSlots (z : Stage) (p : Slot → Bool) (s : State) : (keepSlots z p s).commits = s.commits := by
  unfold keepSlots
  generalize (List.finRange 32).filter p = ns
  induction ns generalizing s with
  | nil => rfl
  | cons n ns ih => exact ih _
theorem engine_keepSlots (z : Stage) (p : Slot → Bool) (s : State) : (keepSlots z p s).engine = s.engine := by
  unfold keepSlots
  generalize (List.finRange 32).filter p = ns
  induction ns generalizing s with
  | nil => rfl
  | cons n ns ih => exact ih _
theorem run_endCommit (z : Stage) (s : State) : Run q s (endCommit z s) := by
  unfold endCommit
  split
  next r hr =>
    refine run_ite (fun hend => ?_) fun _ => Run.refl s
    have hkeep : Run q s (keepSlots z (fun _ => true) s) := run_keepSlots z _ s
    have hcommits : (keepSlots z (fun _ => true) s).commits = s.commits := commits_keepSlots z _ s
    generalize keepSlots z (fun _ => true) s = t at hkeep hcommits ⊢
    refine ((hkeep.trans (run_arm t _)).trans (run_notifyCommit z r .complete _)).trans
      (run_setCommit _ (.inr (.inl rfl)) fun _ r' n hr' hn => ?_)
    rw [notifyCommit, notify_commits] at hr'
    have hr2 : t.commits[z] = .committing r' := hr'
    rw [hcommits, commitRec_eq_some.mp hr] at hr2
    obtain rfl : r = r' := by injection hr2
    simp [CommitRec.ended, hn] at hend
  · exact Run.refl s
theorem run_endCommits (s : State) : Run q s (endCommits s) := run_foldl (fun s z => run_endCommit z s) _ s
theorem unmark_changes_pools (w : Work) (s : State) : w.unmark s = { s with pools := (w.unmark s).pools } := by
  cases w <;> rfl
theorem foldl_unmark_changes_pools (xs : List ComReq) (s : State) : xs.foldl (fun s r => r.work.unmark s) s =
    { s with pools := (xs.foldl (fun s r => r.work.unmark s) s).pools } := by
  induction xs generalizing s with
  | nil => rfl
  | cons x xs ih =>
    refine (ih (x.work.unmark s)).trans ?_
    rw [List.foldl_cons, unmark_changes_pools]
theorem comQ_discardIf (b : Bool) (s : State) : (discardIf b s).engine.comQ = s.engine.comQ := by cases b <;> rfl
theorem comQ_withdrawCommit (z : Stage) (s : State) :
    (withdrawCommit z s).engine.comQ = s.engine.comQ.filter fun x => x.stage ≠ z := by
  unfold withdrawCommit
  dsimp only
  rw [foldl_unmark_changes_pools]
  exact congrArg _ (comQ_discardIf _ s)
theorem commits_withdrawCommit (z : Stage) (s : State) : (withdrawCommit z s).commits = s.commits := by
  unfold withdrawCommit
  dsimp only
  rw [foldl_unmark_changes_pools, discardIf_changes_engine]
theorem run_abortCommit (z : Stage) (s : State) : Run q s (abortCommit z s).2 := by
  unfold abortCommit
  split
  next r hr =>
    have hkeep : Run q s (keepSlots z (fun n => !(s.unreached z r).contains n && !r.deferred.contains n) (withdrawCommit z s)) :=
      (run_withdrawCommit z s).trans (run_keepSlots z _ _)
    refine (hkeep.weaken.trans (run_setCommit _ (.inr (.inl rfl)) fun h => noClean h)).withQueued fun hq => ?_
    obtain ⟨h1, h2, h3⟩ := (((run_withdrawCommit (q := true) z s).trans (run_keepSlots z
      (fun n => !(s.unreached z r).contains n && !r.deferred.contains n) _)).sane.queued rfl hq)
    refine ⟨h1, h2, fun x hx => ?_⟩
    have hx' := hx
    change x ∈ (keepSlots z _ (withdrawCommit z s)).engine.comQ at hx'
    rw [engine_keepSlots, comQ_withdrawCommit] at hx'
    have hne : x.stage ≠ z := by simpa using (List.mem_filter.mp hx').2
    obtain ⟨r', hr', hn⟩ := h3 x hx
    refine ⟨r', ?_, hn⟩
    rw [commitRec_eq_some] at hr' ⊢
    rw [commits_setCommit, if_neg hne]; exact hr'
  · exact Run.refl s
theorem run_commitDown (z : Stage) (s : State) : Run q s (commitDown z s) := by
  have h := run_abortCommit (q := q) z s
  unfold commitDown
  split
  next r s1 hs => rw [hs] at h; exact h.trans (run_notifyCommit _ _ _ _)
  next s1 hs => rw [hs] at h; exact h.trans (run_cancelWait _ _)

end Sys2Proof.Machine
end

section
/-! Capabilities, the resolution of DARK channels, reports and the ports keep what `Run` says (R61, R67, R70 to R76). -/

namespace Sys2Proof.Machine

variable {q : Bool}

/-! ## Orders, surveys and capabilities -/

theorem run_sendQuery (z : Stage) (u : Nat) (s : State) : Run q s (sendQuery z u s) := run_originate s _ _ _
theorem run_sendStanding (z : Stage) (s : State) : Run q s (sendStanding z s) := run_originate s _ _ _
theorem run_sendSurvey (z : Stage) (v : Survey) (s : State) : Run q s (sendSurvey z v s) := run_originate s _ _ _
theorem run_notifySurvey (z : Stage) (v : Survey) (why : SurveyCause) (s : State) : Run q s (notifySurvey z v why s) :=
  run_notify s _ _ _ _
theorem run_endSurvey (z : Stage) (why : SurveyCause) (s : State) : Run q s (endSurvey z why s) := by
  unfold endSurvey
  split
  · exact ((run_surveys s _).trans (run_sendStanding _ _)).trans (run_notifySurvey _ _ _ _)
  · exact Run.refl s
theorem run_surveyDown (z : Stage) (s : State) : Run q s (surveyDown z s) := by
  unfold surveyDown
  split
  · exact (run_surveys s _).trans (run_notifySurvey _ _ _ _)
  · exact Run.refl s
theorem run_surveyFrame (z : Stage) (a b : Bool) (s : State) : Run q s (surveyFrame z a b s) := by
  unfold surveyFrame
  split
  · dsimp only
    refine Run.trans (run_ite (fun _ => run_surveys s _) fun _ => Run.refl s) (run_ite (fun _ => ?_) fun _ => Run.refl _)
    exact run_endSurvey _ _ _
  · exact Run.refl s
theorem run_dropUnfitted (c : Chan) (s : State) : Run q s (dropUnfitted c s) :=
  run_ite (fun _ => Run.refl s) fun _ => run_filterItems s fun i hi => by simp [hi]
theorem run_recordCap (c : Chan) (e : CapReport) (s : State) : Run q s (recordCap c e s) := by
  unfold recordCap
  dsimp only
  have h := (run_setCap s c (some ⟨fittedOf e.fitted, e.low, e.high, e.step⟩)).trans (run_dropUnfitted (q := q) c _)
  split
  · split
    · split
      · exact h.trans (run_notifyChan _ _ _ _)
      · exact h
    · split
      · exact h.trans (run_notifyChan _ _ _ _)
      · exact h
  · exact h
theorem run_readCapability (z : Stage) (u : Fin 4) (es : List CapReport) (s : State) : Run q s (readCapability z u es s) := by
  refine run_foldl (fun s e => ?_) es s
  split
  · exact run_ite (fun _ => run_recordCap _ _ _) fun _ => Run.refl s
  · exact Run.refl s

/-! ## The resolution of a DARK channel -/

theorem shaped_dark {r : ChanRec} (h : r.shaped = true) (hs : r.state = .dark) :
    r.ret = none ∧ (r.darkFrom = some .held → r.assigned.isSome = true ∧ r.heldCause.isSome = true)
      ∧ (r.darkFrom ≠ some .held → r.heldCause = none) := by
  cases hd : r.darkFrom with
  | none => simp [ChanRec.shaped, hs, hd] at h
  | some d => cases d <;> simp_all [ChanRec.shaped]
/-- The record a report of the assigned frequency leaves. -/
def ChanRec.relit (w : Watch) (r : ChanRec) : ChanRec := { r with state := r.undark, darkFrom := none, watch := w }
theorem resolveSame_eq (c : Chan) (s : State) :
    resolveSame c s = (release c s).modChan c fun r => r.relit (s.freshWatch r.profile) := rfl
theorem release_dark {r : ChanRec} (hs : r.state = .dark) : r.release = { r with pending := none } := by
  simp [ChanRec.release, hs]
theorem shaped_relit {r : ChanRec} (h : r.shaped = true) (hs : r.state = .dark) {f : Nat} (ha : r.assigned = some f)
    (w : Watch) : (r.release.relit w).shaped = true ∧ (r.release.relit w).state ≠ .moving := by
  obtain ⟨h1, h2, h3⟩ := shaped_dark h hs
  rw [release_dark hs]
  unfold ChanRec.relit ChanRec.undark
  by_cases hd : r.darkFrom = some .held
  · simp [ChanRec.shaped, hd, h1, ha, h2 hd]
  · simp [ChanRec.shaped, hd, h1, ha, h3 hd]
theorem undark_lit (r : ChanRec) : r.undark = .active ∨ r.undark = .held := by
  unfold ChanRec.undark; split
  · exact .inr rfl
  · exact .inl rfl
theorem run_resolveSame {c : Chan} {f : Nat} {s : State} (hs : (s.chan c).state = .dark) (ha : (s.chan c).assigned = some f) :
    Run q s (resolveSame c s) := by
  have hfair : ∀ ps, ((release c s).chan c).Fair ps (((release c s).chan c).relit
      (s.freshWatch ((release c s).chan c).profile)) := fun _ =>
    fair_armed id id (freshWatch_cases s _) fun _ => (undark_lit _).imp id .inl
  have hsane : Sane q true s (resolveSame c s) := by
    rw [resolveSame_eq]
    exact (sane_release s c).trans (sane_modChan (hfair _) fun _ => List.Subset.refl _)
  have hplace : ∀ d, (resolveSame c s).place d = if d = c then
      { s.place d with seat := ((s.chan c).release.relit Watch.off).seat } else s.place d := fun d => by
    rw [resolveSame_eq, place_modChan]
    by_cases hd : d = c
    · subst hd
      rw [if_pos rfl, if_pos rfl, place_release, if_pos rfl]
      have hrel : ((release d s).chan d) = { (s.chan d).release with
          exclConflict := ((release d s).chan d).exclConflict } := by
        rw [release, reflag, chan_modChan_same, chan_modChan_same]
      rw [hrel]; rfl
    · rw [if_neg hd, if_neg hd, place_release, if_neg hd]
  refine .of_local hsane c (fun d hd => by rw [hplace, if_neg hd]) fun hsound => ?_
  have hnone := hsound.entryOf_of_dark hs
  obtain ⟨hshaped, hstate⟩ := shaped_relit (hsound.shaped c) hs ha Watch.off
  rw [hplace, if_pos rfl]
  exact place_idle ((entryOf_eq_none_iff s c).mp hnone) (hsound.itemsAt_length c) (hsound.movesAt_of_none hnone) hshaped
    fun hm => absurd hm hstate
theorem run_resolvePending {c : Chan} {f : Nat} {s : State} (hs : (s.chan c).state = .dark)
    (hp : (s.chan c).pending = some f) : Run q s (resolvePending c f s) := by
  have hocc : f ∈ (s.chan c).occupied := List.mem_append_right _ (by rw [hp]; exact List.mem_singleton_self f)
  have hsane : Sane q true s (complete c f false s) := sane_complete fun _ => hocc
  have hcomplete : Run q s (complete c f false s) := by
    refine .of_local hsane c (fun d hd => by rw [place_complete, if_neg hd]) fun hsound => ?_
    have hnone := hsound.entryOf_of_dark hs
    rw [place_complete, if_pos rfl]
    exact place_idle ((entryOf_eq_none_iff s c).mp hnone) (hsound.itemsAt_length c) (hsound.movesAt_of_none hnone)
      (shaped_complete (s.chan c) f false) fun hm => by cases hm
  unfold resolvePending
  dsimp only
  have hrec : Run q s (recycle c (s.chan c).assigned .passed (complete c f false s)) :=
    hcomplete.trans (run_recycle _ _ _ _)
  have hact : ((recycle c (s.chan c).assigned .passed (complete c f false s)).chan c).state = .active := by
    rw [chan_recycle, state_complete]
  generalize recycle c (s.chan c).assigned .passed (complete c f false s) = t at hrec hact ⊢
  refine (hrec.trans (run_modChan t (f := fun r => { r with
    settle := none, returnWatch := none, watch := t.freshWatch r.profile })
    (fair_armed id id (freshWatch_cases t _) fun _ => .inl hact) rfl)).trans (run_notifyChan _ _ _ _)
theorem run_resolveThird {c : Chan} {f : Nat} {s : State} (hs : (s.chan c).state = .dark) :
    Run q s (resolveThird c f s) :=
  ((run_adopt (x := .dark) hs fun hsound => hsound.entryOf_of_dark hs).trans (run_notifyChan _ _ _ _)).trans
    (run_queuePost _ _ _ _)
theorem run_notifyConflict (c : Chan) (s : State) : Run q s (notifyConflict c s) := by
  unfold notifyConflict
  split
  · exact run_notifyChan s _ _ _
  · exact Run.refl s
theorem run_startAdopted (c : Chan) (s0 s : State) : Run q s (startAdopted c s0 s) := by
  rcases startAdopted_cases c s0 s with h | h
  · rw [h]; exact run_tryStart _ _
  · rw [h]; exact (run_notifyConflict _ _).trans (run_tryStart _ _)
theorem run_resolveDark {c : Chan} {f : Nat} {s : State} (hs : (s.chan c).state = .dark) : Run q s (resolveDark c f s) :=
  run_ite (fun ha => (run_resolveSame hs ha).trans (run_tryStart _ _)) fun _ =>
    run_ite (fun hp => (run_resolvePending hs hp).trans (run_tryStart _ _)) fun _ =>
      (run_resolveThird hs).trans (run_startAdopted _ _ _)

/-! ## One telemetry report -/

theorem run_clearReport (c : Chan) (x : Report) (s : State) : Run q s (clearReport c x s) := by
  unfold clearReport
  dsimp only
  refine run_ite (fun h => run_resolveDark h) fun _ => ?_
  split
  next e he =>
    obtain ⟨he, hl⟩ := Option.filter_eq_some_iff.mp he
    have hc := entryOf_chan he
    have hs : e.state ≠ .searching := by rw [of_decide_eq_true hl]; exact EntryState.noConfusion
    exact run_lockReport (by rw [hc]; exact he) hs
  · exact run_ite (fun _ => (run_fulfil _ _ _).trans (run_evaluate _ _ _)) fun _ =>
      run_ite (fun h => run_adoptOffPlan h) fun _ => run_evaluate _ _ _
theorem run_channelReport (c : Chan) (x : Report) (s : State) : Run q s (channelReport c x s) := by
  unfold channelReport
  dsimp only
  have h : Run q s (s.modChan c fun r => { r with
      lastReport := some ⟨x.tuned, clampLevel x.level, x.pilot, x.squelch, x.busy, s.now⟩ }) :=
    run_modChan s (fair_same rfl rfl rfl rfl rfl) rfl
  exact run_ite (fun _ => h) fun _ => h.trans (run_clearReport _ _ _)

/-! ## A lost stage (R73) -/

/-- A channel's part of the invariants but for the owner of a move, while its stage is being taken DOWN. -/
structure Place.Loose (p : Place) : Prop where
  one : p.entries.length + p.items.length ≤ 1
  asks : p.moves.length ≤ 1
  shaped : p.seat.shaped = true
  stand : ∀ e ∈ p.entries, p.stands e = true
  searching : p.moves ≠ [] → ∃ e ∈ p.entries, e.state = .searching
theorem Place.Sound.loose {p : Place} (h : p.Sound) : p.Loose := ⟨h.one, h.asks, h.shaped, h.stand, h.searching⟩

theorem sane_entryDown (e : Entry) (s : State) : Sane q true s (entryDown e s) := by
  have hw : Sane q true s (withdrawMove e.chan s) :=
    ((sane_discardIf _ s).trans (sane_foldl (fun s (m : MoveReq) => by
      cases m.work with
      | pool g f => exact sane_markEntry s g f false
      | _ => exact Sane.refl s) _ _)).trans (sane_moveQ _ _)
  unfold entryDown
  split
  · exact hw.trans (sane_dropEntry _ _)
  · exact (sane_release s _).trans (sane_dropEntry _ _)
  · exact (sane_dropEntry s _).trans (sane_notifyChan _ _ _ _)
  · exact (sane_dropEntry s _).trans (sane_notifyChan _ _ _ _)
theorem foldl_moves_unmark_changes_pools (xs : List MoveReq) (s : State) : xs.foldl (fun s r => r.work.unmark s) s =
    { s with pools := (xs.foldl (fun s r => r.work.unmark s) s).pools } := by
  induction xs generalizing s with
  | nil => rfl
  | cons x xs ih =>
    refine (ih (x.work.unmark s)).trans ?_
    rw [List.foldl_cons, unmark_changes_pools]
theorem place_withdrawMove (c : Chan) (s : State) (d : Chan) : (withdrawMove c s).place d =
    if d = c then { s.place d with moves := [] } else s.place d := by
  have heq : ∃ s1 : State, withdrawMove c s = { s1 with engine := { s1.engine with
      moveQ := s1.engine.moveQ.filter fun m => m.chan ≠ c } } ∧ (∀ d, s1.place d = s.place d) := by
    refine ⟨_, rfl, fun d => ?_⟩
    rw [foldl_moves_unmark_changes_pools]
    generalize s.inService _ = b
    cases b <;> rfl
  obtain ⟨s1, h1, h2⟩ := heq
  have hm := filter_ne_filter_eq MoveReq.chan s1.engine.moveQ c d
  rw [h1, ← h2 d]
  simp only [State.place, State.movesAt, hm]
  split <;> rfl
/-- What the end of an entry leaves of its channel's place, and that it touches no other. -/
theorem place_entryDown {e : Entry} {s : State} (hl : (s.place e.chan).Loose) (he : e ∈ s.table) :
    ((entryDown e s).place e.chan).Loose ∧ ((entryDown e s).place e.chan).entries = []
      ∧ ((entryDown e s).place e.chan).items = (s.place e.chan).items
      ∧ ∀ d, d ≠ e.chan → (entryDown e s).place d = s.place d := by
  have hmem : e ∈ (s.place e.chan).entries := mem_entriesAt.mpr ⟨he, rfl⟩
  obtain ⟨h1, h2, h3, h4, h5⟩ := hl
  have hitems : (s.place e.chan).items.length ≤ 1 := (Nat.le_add_left _ _).trans h1
  have hstands := h4 e hmem
  have hmoves : e.state ≠ .searching → (s.place e.chan).moves = [] := fun hs => by
    by_contra hne
    obtain ⟨x, hx, hxs⟩ := h5 hne
    have hone : (s.place e.chan).entries.length ≤ 1 := (Nat.le_add_right _ _).trans h1
    obtain ⟨y, hy⟩ := List.length_eq_one_iff.mp (le_antisymm hone (List.length_pos_of_mem hmem))
    rw [hy, List.mem_singleton] at hx hmem
    exact hs (hmem.trans hx.symm ▸ hxs)
  have hloose : ∀ (p : Place), p.seat.shaped = true → p.entries = [] → p.items = (s.place e.chan).items → p.moves = [] →
      p.Loose := fun p hp he hi hm =>
    ⟨(by rw [he, hi]; simpa using hitems), (by rw [hm]; exact Nat.zero_le _), hp,
      (fun x hx => by rw [he] at hx; cases hx), fun hne => absurd hm hne⟩
  cases hs : e.state with
  | searching =>
    have hplace : ∀ d, (entryDown e s).place d = if d = e.chan then { s.place d with entries := [], moves := [] }
        else s.place d := fun d => by
      simp only [entryDown, hs]
      rw [place_dropEntry, place_withdrawMove]
      split <;> rfl
    rw [hplace, if_pos rfl]
    exact ⟨hloose _ h3 rfl rfl rfl, rfl, rfl, fun d hd => by rw [hplace, if_neg hd]⟩
  | proposed =>
    have hns : e.state ≠ .searching := by rw [hs]; exact EntryState.noConfusion
    have hmoving : (s.chan e.chan).state = .moving := ((stands_moving hns).mp hstands).1
    have hplace : ∀ d, (entryDown e s).place d = if d = e.chan then
        { s.place d with seat := (s.chan e.chan).release.seat, entries := [] } else s.place d := fun d => by
      simp only [entryDown, hs]
      exact place_dropAfter (place_release s e.chan) d
    rw [hplace, if_pos rfl]
    exact ⟨hloose _ (shaped_release h3 hmoving) rfl rfl (hmoves hns), rfl, rfl, fun d hd => by rw [hplace, if_neg hd]⟩
  | sent | locking =>
    have hns : e.state ≠ .searching := by rw [hs]; exact EntryState.noConfusion
    have hplace : ∀ d, (entryDown e s).place d = if d = e.chan then { s.place d with entries := [] } else s.place d :=
      fun d => by
        simp only [entryDown, hs]
        rw [notifyFailed, place_notifyChan, place_dropEntry]
    rw [hplace, if_pos rfl]
    exact ⟨hloose _ h3 rfl rfl (hmoves hns), rfl, rfl, fun d hd => by rw [hplace, if_neg hd]⟩
theorem table_entryDown (e : Entry) (s : State) : (entryDown e s).table = s.table.filter fun x => x.chan ≠ e.chan := by
  unfold entryDown
  split
  · have h : (withdrawMove e.chan s).table = s.table := by
      unfold withdrawMove
      dsimp only
      rw [foldl_moves_unmark_changes_pools, discardIf_changes_engine]
    change (withdrawMove e.chan s).table.filter _ = _
    rw [h]
  · rfl
  · rw [notifyFailed, notifyChan_table]; rfl
  · rw [notifyFailed, notifyChan_table]; rfl
/-- The entries of a list end one after another. -/
theorem place_entriesDown (es : List Entry) (s : State) (hn : (es.map (·.chan)).Nodup) (hmem : ∀ e ∈ es, e ∈ s.table)
    (hl : ∀ c, (s.place c).Loose) : let t := es.foldl (fun s e => entryDown e s) s
    (∀ c, (t.place c).Loose) ∧ (∀ c, c ∉ es.map (·.chan) → t.place c = s.place c)
      ∧ ∀ c ∈ es.map (·.chan), (t.place c).entries = [] := by
  induction es generalizing s with
  | nil => exact ⟨hl, fun _ _ => rfl, fun c hc => nomatch hc⟩
  | cons e es ih =>
    rw [List.map_cons, List.nodup_cons] at hn
    obtain ⟨h1, h2, _, h4⟩ := place_entryDown (hl e.chan) (hmem e List.mem_cons_self)
    have hloose : ∀ c, ((entryDown e s).place c).Loose := fun c => by
      by_cases hc : c = e.chan
      · rw [hc]; exact h1
      · rw [h4 c hc]; exact hl c
    have hmem' : ∀ x ∈ es, x ∈ (entryDown e s).table := fun x hx => by
      rw [table_entryDown, List.mem_filter]
      refine ⟨hmem x (List.mem_cons_of_mem e hx), decide_eq_true fun hxe => hn.1 ?_⟩
      exact List.mem_map.mpr ⟨x, hx, hxe⟩
    obtain ⟨g1, g2, g3⟩ := ih (entryDown e s) hn.2 hmem' hloose
    refine ⟨g1, fun c hc => ?_, fun c hc => ?_⟩
    · rw [List.map_cons, List.mem_cons, not_or] at hc
      exact (g2 c hc.2).trans (h4 c hc.1)
    · by_cases hces : c ∈ es.map (·.chan)
      · exact g3 c hces
      · have hce : c = e.chan := (List.mem_cons.mp hc).resolve_right hces
        have := g2 c hces
        change ((es.foldl (fun s e => entryDown e s) (entryDown e s)).place c).entries = []
        rw [this, hce]; exact h2
theorem run_expireDown (e : Entry) (s : State) : Run q s (expireDown e s) :=
  run_ite (fun _ => run_notifyChan s _ _ _) fun _ => Run.refl s
theorem place_expireDown (e : Entry) (s : State) (d : Chan) : (expireDown e s).place d = s.place d := by
  unfold expireDown
  split
  · exact place_notifyChan ..
  · rfl
theorem place_foldl {α : Type} {f : State → α → State} (h : ∀ s a d, (f s a).place d = s.place d) (xs : List α) (s : State)
    (d : Chan) : (xs.foldl f s).place d = s.place d := by
  induction xs generalizing s with
  | nil => rfl
  | cons x xs ih => exact (ih _).trans (h s x d)
/-- After the entries and items of a stage have ended its channels hold none, and the others are as they were. -/
theorem place_stageEntries {z : Stage} {s : State} (hs : ∀ c, (s.place c).Loose) (hn : (s.table.map (·.chan)).Nodup) :
    (∀ c, c.stage = z → ((entriesDown z s).place c).Loose ∧ ((entriesDown z s).place c).entries = []
      ∧ ((entriesDown z s).place c).items = []) ∧ ∀ c, c.stage ≠ z → (entriesDown z s).place c = s.place c := by
  have hmem : ∀ e ∈ s.table.filter fun e => e.chan.stage = z, e ∈ s.table := fun e he => List.mem_of_mem_filter he
  have hnodup : ((s.table.filter fun e => e.chan.stage = z).map (·.chan)).Nodup := (List.filter_sublist.map _).nodup hn
  obtain ⟨h1, h2, h3⟩ := place_entriesDown _ s hnodup hmem hs
  have hin : ∀ c, c ∈ (s.table.filter fun e => e.chan.stage = z).map (·.chan) ↔ c.stage = z ∧ s.entriesAt c ≠ [] := by
    intro c
    simp only [List.mem_map, List.mem_filter, decide_eq_true_eq]
    constructor
    · rintro ⟨e, ⟨he, hz⟩, rfl⟩
      exact ⟨hz, List.ne_nil_of_mem (mem_entriesAt.mpr ⟨he, rfl⟩)⟩
    · rintro ⟨hz, hne⟩
      obtain ⟨e, he⟩ := List.exists_mem_of_ne_nil _ hne
      obtain ⟨hmem, hc⟩ := mem_entriesAt.mp he
      exact ⟨e, ⟨hmem, by rw [hc]; exact hz⟩, hc⟩
  have hplace : ∀ c, (entriesDown z s).place c = if c.stage = z then
      { ((s.table.filter fun e => e.chan.stage = z).foldl (fun s e => entryDown e s) s).place c with items := [] }
      else ((s.table.filter fun e => e.chan.stage = z).foldl (fun s e => entryDown e s) s).place c := by
    intro c
    unfold entriesDown
    dsimp only
    rw [← place_foldl (fun s e d => place_expireDown e s d) (s.table.filter fun e => e.chan.stage = z)
      ((s.table.filter fun e => e.chan.stage = z).foldl (fun s e => entryDown e s) s) c]
    generalize ((s.table.filter fun e => e.chan.stage = z).foldl (fun s e => expireDown e s)
      ((s.table.filter fun e => e.chan.stage = z).foldl (fun s e => entryDown e s) s)) = t
    have hitems : State.itemsAt { t with backlog := t.backlog.filter fun i => i.chan.stage ≠ z } c =
        if c.stage = z then [] else t.itemsAt c := by
      rw [itemsAt_filter]
      split
      next hz =>
        refine List.filter_eq_nil_iff.mpr fun i hi => ?_
        rw [(mem_itemsAt.mp hi).2, hz]; simp
      next hz =>
        refine List.filter_eq_self.mpr fun i hi => ?_
        rw [(mem_itemsAt.mp hi).2]; simpa using hz
    simp only [State.place, hitems]
    split <;> rfl
  refine ⟨fun c hz => ?_, fun c hz => ?_⟩
  · rw [hplace, if_pos hz]
    have hempty : (((s.table.filter fun e => e.chan.stage = z).foldl (fun s e => entryDown e s) s).place c).entries = [] := by
      by_cases hc : c ∈ (s.table.filter fun e => e.chan.stage = z).map (·.chan)
      · exact h3 c hc
      · rw [h2 c hc]
        by_contra hne
        exact hc ((hin c).mpr ⟨hz, hne⟩)
    obtain ⟨g1, g2, g3, g4, g5⟩ := h1 c
    exact ⟨⟨(Nat.add_le_add_left (Nat.zero_le _) _).trans g1, g2, g3, g4, g5⟩, hempty, rfl⟩
  · rw [hplace, if_neg hz]
    exact h2 c fun hc => hz ((hin c).mp hc).1

end Sys2Proof.Machine
end

section
/-! The ports go UP and DOWN: what the transitions of a stage and of the trunk keep (R72 to R76). -/

namespace Sys2Proof.Machine

variable {q : Bool}

/-! ## What frames and notices can change at all -/

theorem handTo_changes (p : Port) (f : Frame) (s : State) : handTo p f s =
    { s with trunk := (handTo p f s).trunk, stagePorts := (handTo p f s).stagePorts
             trunkDiscards := (handTo p f s).trunkDiscards } := by
  unfold handTo
  split
  · cases p <;> rfl
  · cases p <;> rfl
theorem route_changes (f : Frame) (s : State) : route f s =
    { s with trunk := (route f s).trunk, stagePorts := (route f s).stagePorts, trunkDiscards := (route f s).trunkDiscards } := by
  unfold route
  split
  · exact handTo_changes _ f s
  · rfl
theorem notify_changes (k : NoticeKind) (a b : Nat) (x : List Byte) (s : State) : notify k a b x s =
    { s with
      trunk := (notify k a b x s).trunk, stagePorts := (notify k a b x s).stagePorts
      trunkDiscards := (notify k a b x s).trunkDiscards, originSeq := (notify k a b x s).originSeq
      latches := (notify k a b x s).latches } := by
  unfold notify
  dsimp only
  split
  · unfold originate
    rw [route_changes]; rfl
  · rfl
theorem refuseTune_changes (f : Frame) (c : Chan) (n : Nat) (why : GateReason) (k : Nat) (a b : Option Chan) (s : State) :
    refuseTune f c n why k a b s =
    { s with
      trunk := (refuseTune f c n why k a b s).trunk, stagePorts := (refuseTune f c n why k a b s).stagePorts
      trunkDiscards := (refuseTune f c n why k a b s).trunkDiscards, originSeq := (refuseTune f c n why k a b s).originSeq
      latches := (refuseTune f c n why k a b s).latches, counters := (refuseTune f c n why k a b s).counters } := by
  have hu : ∀ g, bumpStage c.stage .refusals (route g s) =
      { s with
        trunk := (route g s).trunk, stagePorts := (route g s).stagePorts, trunkDiscards := (route g s).trunkDiscards
        counters := (bumpStage c.stage .refusals (route g s)).counters } := fun g => by
    have hr := route_changes g s
    generalize route g s = r at hr ⊢
    rw [hr]; rfl
  unfold refuseTune notifyChan
  dsimp only
  generalize hg : (⟨f.src, deviceAddr, kTuneReport, f.seq, _⟩ : Frame) = g
  have hu := hu g
  generalize bumpStage c.stage .refusals (route g s) = u at hu ⊢
  generalize hd : _ ++ eChan b = d
  have ht := notify_changes .admissionRefused c.stage.val c.slot.val d u
  generalize notify .admissionRefused c.stage.val c.slot.val d u = t at ht ⊢
  rw [ht, hu]
theorem withdrawGuard_changes_engine (c : Chan) (s : State) :
    withdrawGuard c s = { s with engine := (withdrawGuard c s).engine } := by
  unfold withdrawGuard
  dsimp only
  rw [discardIf_changes_engine]
theorem discardHeld_changes (h : HeldFrame) (s : State) : discardHeld h s =
    { s with
      trunk := (discardHeld h s).trunk, stagePorts := (discardHeld h s).stagePorts
      trunkDiscards := (discardHeld h s).trunkDiscards, originSeq := (discardHeld h s).originSeq
      latches := (discardHeld h s).latches, counters := (discardHeld h s).counters
      heldFrames := (discardHeld h s).heldFrames, engine := (discardHeld h s).engine } := by
  unfold discardHeld
  have hw := withdrawGuard_changes_engine h.chan (dropHeld h.chan s)
  generalize withdrawGuard h.chan (dropHeld h.chan s) = u at hw ⊢
  have hr := refuseTune_changes h.frame h.chan h.target .busy 0 none none u
  generalize refuseTune h.frame h.chan h.target .busy 0 none none u = t at hr ⊢
  rw [hr, hw]; rfl
theorem gateDown_changes (z : Stage) (s : State) : gateDown z s =
    { s with
      trunk := (gateDown z s).trunk, stagePorts := (gateDown z s).stagePorts
      trunkDiscards := (gateDown z s).trunkDiscards, originSeq := (gateDown z s).originSeq
      latches := (gateDown z s).latches, counters := (gateDown z s).counters
      heldFrames := (gateDown z s).heldFrames, engine := (gateDown z s).engine, notes := (gateDown z s).notes } := by
  have h : ∀ (hs : List HeldFrame) (s : State), let t := hs.foldl (fun s h => discardHeld h s) s
      t = { s with
        trunk := t.trunk, stagePorts := t.stagePorts, trunkDiscards := t.trunkDiscards, originSeq := t.originSeq
        latches := t.latches, counters := t.counters, heldFrames := t.heldFrames, engine := t.engine } := by
    intro hs
    induction hs with
    | nil => exact fun _ => rfl
    | cons x xs ih =>
      intro s
      refine (ih (discardHeld x s)).trans ?_
      rw [List.foldl_cons, discardHeld_changes]
  unfold gateDown
  dsimp only
  rw [h]

/-! ## What a lost stage's steps leave of the places and the commits -/

theorem place_notify (k : NoticeKind) (a b : Nat) (x : List Byte) (s : State) (d : Chan) : (notify k a b x s).place d = s.place d :=
  place_congr (notify_chans ..) (notify_table ..) (notify_backlog ..) (by rw [notify_engine]) d
theorem moveQ_discardIf (b : Bool) (s : State) : (discardIf b s).engine.moveQ = s.engine.moveQ := by cases b <;> rfl
theorem moveQ_discardHeld (h : HeldFrame) (s : State) : (discardHeld h s).engine.moveQ = s.engine.moveQ := by
  unfold discardHeld refuseTune
  dsimp only
  rw [notifyChan_engine, bumpStage_engine, route_engine]
  exact moveQ_discardIf _ _
theorem place_discardHeld (h : HeldFrame) (s : State) (d : Chan) : (discardHeld h s).place d = s.place d := by
  have hc := discardHeld_changes h s
  exact place_congr (by rw [hc]) (by rw [hc]) (by rw [hc]) (moveQ_discardHeld h s) d
theorem place_gateDown (z : Stage) (s : State) (d : Chan) : (gateDown z s).place d = s.place d :=
  (place_foldl (fun s h d => place_discardHeld h s d) (s.heldFrames.filter fun h => h.chan.stage = z) s d :)
theorem keepSlots_changes_staging (z : Stage) (p : Slot → Bool) (s : State) :
    keepSlots z p s = { s with staging := (keepSlots z p s).staging } := by
  unfold keepSlots
  generalize (List.finRange 32).filter p = ns
  induction ns generalizing s with
  | nil => rfl
  | cons n ns ih => exact (ih (s.setStaged ⟨z, n⟩ .keep)).trans rfl
theorem withdrawCommit_changes (z : Stage) (s : State) : withdrawCommit z s =
    { s with pools := (withdrawCommit z s).pools, engine := (withdrawCommit z s).engine } := by
  unfold withdrawCommit
  dsimp only
  rw [foldl_unmark_changes_pools, discardIf_changes_engine]
theorem moveQ_withdrawCommit (z : Stage) (s : State) : (withdrawCommit z s).engine.moveQ = s.engine.moveQ := by
  unfold withdrawCommit
  dsimp only
  rw [foldl_unmark_changes_pools]
  generalize s.inService _ = b
  cases b <;> rfl
theorem place_abortCommit (z : Stage) (s : State) (d : Chan) : (abortCommit z s).2.place d = s.place d := by
  unfold abortCommit
  split
  next r hr =>
    have hw : (withdrawCommit z s).place d = s.place d := by
      have h := withdrawCommit_changes z s
      exact place_congr (by rw [h]) (by rw [h]) (by rw [h]) (moveQ_withdrawCommit z s) d
    change (keepSlots z _ (withdrawCommit z s)).place d = _
    rw [keepSlots_changes_staging]; exact hw
  · rfl
theorem commits_cancelWait {z : Stage} {s : State} (hn : s.commitRec z = none) (y : Stage) :
    (cancelWait z s).commits[y] = if y = z then CommitState.idle else s.commits[y] := by
  unfold cancelWait
  split
  · exact commits_setCommit s z y .idle
  next h =>
    split
    next hy =>
      subst hy
      generalize hc : s.commits[y] = x at h ⊢
      cases x with
      | idle => exact hc
      | waiting d => exact absurd rfl (h d)
      | committing r => rw [commitRec_eq_some.mpr hc] at hn; cases hn
    · rfl
theorem commits_commitDown (z : Stage) (s : State) : (commitDown z s).commits[z] = .idle := by
  unfold commitDown
  split
  next r s1 h =>
    unfold abortCommit at h
    split at h
    · obtain ⟨_, rfl⟩ := Prod.mk.inj h
      rw [notifyCommit, notify_commits, commits_setCommit, if_pos rfl]
    · cases h
  next s1 h =>
    unfold abortCommit at h
    split at h
    · cases h
    next hr =>
      obtain ⟨_, rfl⟩ := Prod.mk.inj h
      rw [commits_cancelWait hr, if_pos rfl]
theorem place_commitDown (z : Stage) (s : State) (d : Chan) : (commitDown z s).place d = s.place d := by
  have h := place_abortCommit z s d
  unfold commitDown
  split
  next r s1 hs => rw [hs] at h; rw [notifyCommit, place_notify]; exact h
  next s1 hs =>
    rw [hs] at h
    unfold cancelWait
    split
    · exact h
    · exact h
theorem place_surveyDown (z : Stage) (s : State) (d : Chan) : (surveyDown z s).place d = s.place d := by
  unfold surveyDown
  split
  · rw [notifySurvey, place_notify]; rfl
  · rfl
theorem commits_surveyDown (z : Stage) (s : State) : (surveyDown z s).commits = s.commits := by
  unfold surveyDown
  split
  · rw [notifySurvey, notify_commits]; rfl
  · rfl

/-! ## The channels of a lost stage -/

theorem shaped_goDark {r : ChanRec} (h : r.shaped = true) : r.goDark.shaped = true ∧ r.goDark.state ≠ .moving := by
  cases hs : r.state with
  | moving =>
    simp only [ChanRec.shaped, hs, Bool.and_eq_true] at h
    simp [ChanRec.goDark, hs, ChanRec.shaped, h.1.1]
  | unused | parked | dark | active | held => simp_all [ChanRec.goDark, ChanRec.shaped]
theorem goDark_goDark (r : ChanRec) : r.goDark.goDark = r.goDark := by
  cases hs : r.state <;> simp [ChanRec.goDark, hs]
theorem goDark_seat (r : ChanRec) : r.goDark.seat = r.seat.goDark.seat := by
  cases hs : r.state <;> simp [ChanRec.goDark, ChanRec.seat, hs]
theorem mem_stageChans {z : Stage} {c : Chan} : c ∈ stageChans z ↔ c.stage = z := by
  simp only [stageChans, List.mem_map]
  constructor
  · rintro ⟨n, -, rfl⟩; rfl
  · rintro rfl; exact ⟨c.slot, List.mem_finRange _, rfl⟩
theorem chan_darken (cs : List Chan) (s : State) (d : Chan) :
    (cs.foldl (fun s c => (s.modChan c ChanRec.goDark).setCap c none) s).chan d =
      if d ∈ cs then (s.chan d).goDark else s.chan d := by
  induction cs generalizing s with
  | nil => simp
  | cons c cs ih =>
    rw [List.foldl_cons, ih]
    have hc : ((s.modChan c ChanRec.goDark).setCap c none).chan d = if d = c then (s.chan d).goDark else s.chan d := by
      change (s.modChan c ChanRec.goDark).chan d = _
      rw [chan_modChan]
      split
      next h => rw [h]
      · rfl
    rw [hc]
    by_cases hd : d = c
    · simp [hd, goDark_goDark]
    · simp [hd]
theorem chansDark_changes (z : Stage) (s : State) : chansDark z s =
    { s with chans := (chansDark z s).chans, caps := (chansDark z s).caps } := by
  unfold chansDark
  generalize stageChans z = cs
  induction cs generalizing s with
  | nil => rfl
  | cons c cs ih => exact ih ((s.modChan c ChanRec.goDark).setCap c none)
theorem commits_chansDark (z : Stage) (s : State) : (chansDark z s).commits = s.commits := by rw [chansDark_changes]
theorem chan_chansDark (z : Stage) (s : State) (d : Chan) :
    (chansDark z s).chan d = if d.stage = z then (s.chan d).goDark else s.chan d := by
  rw [chansDark, chan_darken]; simp only [mem_stageChans]
theorem sane_goDark (c : Chan) (s : State) {k : Bool} : Sane q k s (s.modChan c ChanRec.goDark) :=
  sane_modChan fair_goDark fun _ => by rw [occupied_goDark]; exact List.Subset.refl _
theorem sane_chansDark (z : Stage) (s : State) : Sane q true s (chansDark z s) :=
  sane_foldl (fun s c => (sane_goDark c s).trans (sane_caps _ _)) _ s
theorem place_chansDark (z : Stage) (s : State) (d : Chan) : (chansDark z s).place d =
    if d.stage = z then { s.place d with seat := (s.chan d).goDark.seat } else s.place d := by
  have h : (chansDark z s).place d = { s.place d with seat := ((chansDark z s).chan d).seat } := by
    rw [chansDark_changes]; rfl
  rw [h, chan_chansDark]
  split <;> rfl
theorem sane_entriesDown (z : Stage) (s : State) : Sane q true s (entriesDown z s) :=
  ((sane_foldl (fun s e => sane_entryDown e s) _ s).trans (sane_foldl (fun s _ =>
    sane_ite (fun _ => sane_notifyChan s _ _ _) fun _ => Sane.refl s) _ _)).trans (sane_filterBacklog _ _)

/-! ## A stage goes DOWN (R73) -/

/-- A stage port taken DOWN, before what its loss does. -/
def cutPort (z : Stage) (s : State) : State :=
  s.setPort (.stage z) { s.port (.stage z) with up := false, silence := none, tx := [] }
/-- What the loss of a stage does, but for its notice. -/
def stageLost (z : Stage) (s : State) : State :=
  chansDark z (surveyDown z (commitDown z (gateDown z (entriesDown z s))))
theorem stageDown_eq (z : Stage) (why : DownCause) (s : State) : stageDown z why s =
    notify .stageDown z.val 255 (e8 why.code ++ e8 ((stageLost z (cutPort z s)).darkCount z)) (stageLost z (cutPort z s)) := rfl
theorem poolsClean_congr {s t : State} (hfreqs : ∀ g, t.poolFreqs g = s.poolFreqs g) (hcouple : t.couple = s.couple)
    (hchans : t.chans = s.chans) (h : PoolsClean s) : PoolsClean t := by
  have hchan : ∀ c, t.chan c = s.chan c := fun c => by rw [State.chan, hchans, State.chan]
  rw [poolsClean_iff] at h ⊢
  intro g
  rw [hfreqs]
  refine ⟨(h g).1, fun f hf => Bool.eq_false_iff.mpr fun ho => ?_⟩
  obtain ⟨c, hg, hmem⟩ := occupiedIn_iff.mp ho
  have hg' : s.groupOf c = g := by rw [← hg, State.groupOf, State.groupOf, hcouple]
  have := (h g).2 f hf
  rw [occupiedIn_iff.mpr ⟨c, hg', hchan c ▸ hmem⟩] at this
  cases this
theorem poolFreqs_withdrawCommit (z : Stage) (s : State) (g : Group) : (withdrawCommit z s).poolFreqs g = s.poolFreqs g := by
  have h : ∀ (xs : List ComReq) (s : State), (xs.foldl (fun s r => r.work.unmark s) s).poolFreqs g = s.poolFreqs g := by
    intro xs
    induction xs with
    | nil => exact fun _ => rfl
    | cons x xs ih =>
      intro s
      refine (ih (x.work.unmark s)).trans ?_
      cases x.work with
      | pool g' f => exact poolFreqs_mapPool s g' (fun e => by split <;> rfl) g
      | _ => rfl
  refine (h (s.engine.comQ.filter fun q => q.stage = z) (discardIf _ s)).trans ?_
  rw [discardIf_changes_engine]; rfl
theorem clean_commitDown (z : Stage) (s : State) (h : PoolsClean s) : PoolsClean (commitDown z s) := by
  have habort : PoolsClean (abortCommit z s).2 := by
    unfold abortCommit
    split
    · change PoolsClean (keepSlots z _ (withdrawCommit z s))
      rw [keepSlots_changes_staging]
      refine poolsClean_congr (poolFreqs_withdrawCommit z s) ?_ ?_ h
      · rw [withdrawCommit_changes]
      · rw [withdrawCommit_changes]
    · exact h
  unfold commitDown
  split
  next r s1 hs =>
    rw [hs] at habort
    exact (sane_notify (q := true) (k := true) s1 _ _ _ _).clean rfl habort
  next s1 hs =>
    rw [hs] at habort
    unfold cancelWait
    split
    · exact habort
    · exact habort
theorem sane_stageLost (z : Stage) (s : State) : Sane q true s (stageLost z s) := by
  have hgate : Sane q true (entriesDown z s) (gateDown z (entriesDown z s)) :=
    (run_gateDown z _).sane.withClean fun h => poolsClean_congr (fun g => by rw [gateDown_changes]; rfl)
      (by rw [gateDown_changes]) (by rw [gateDown_changes]) h
  have hcommit : ∀ s, Sane q true s (commitDown z s) := fun s => (run_commitDown z s).sane.withClean (clean_commitDown z s)
  have hsurvey : ∀ s, Sane q true s (surveyDown z s) := fun s => by
    unfold surveyDown
    split
    · exact (sane_surveys s _).trans (sane_notify _ _ _ _ _)
    · exact Sane.refl s
  exact ((((sane_entriesDown z s).trans hgate).trans (hcommit _)).trans (hsurvey _)).trans (sane_chansDark z _)
theorem place_stageLost {z : Stage} {s : State} (h : Sound s) :
    (∀ c, c.stage = z → ((stageLost z s).place c).Sound) ∧ ∀ c, c.stage ≠ z → (stageLost z s).place c = s.place c := by
  obtain ⟨hin, hout⟩ := place_stageEntries (z := z) (fun c => (h.1 c).loose) h.unique.1
  have hplace : ∀ d, (stageLost z s).place d = if d.stage = z then
      { (entriesDown z s).place d with seat := ((entriesDown z s).place d).seat.goDark.seat }
      else (entriesDown z s).place d := fun d => by
    rw [stageLost, place_chansDark, goDark_seat, ← place_seat, place_surveyDown, place_commitDown, place_gateDown]
  refine ⟨fun c hc => ?_, fun c hc => by rw [hplace, if_neg hc, hout c hc]⟩
  obtain ⟨hloose, hentries, hitems⟩ := hin c hc
  rw [hplace, if_pos hc]
  obtain ⟨hshaped, hstate⟩ := shaped_goDark hloose.shaped
  refine place_idle hentries (by rw [hitems]; exact Nat.zero_le _) ?_ hshaped fun hm => absurd hm hstate
  by_contra hne
  obtain ⟨e, he, -⟩ := hloose.searching hne
  rw [hentries] at he; cases he
theorem commits_stageLost (z : Stage) (s : State) : (stageLost z s).commits[z] = .idle := by
  rw [stageLost, commits_chansDark, commits_surveyDown]; exact commits_commitDown z _
theorem sane_cutPort {z : Stage} {s t : State} (h : Sane q true (cutPort z s) t) (hidle : t.commits[z] = .idle) :
    Sane q true s t where
  pending := h.pending
  now := h.now
  settings := h.settings
  bounded := h.bounded
  fits := h.fits
  unique := h.unique
  linked := fun y hy => by
    by_cases hyz : y = z
    · subst hyz
      exact fun hne => absurd hidle hne
    · refine h.linked y fun hc => ?_
      rw [cutPort, port_setPort_other _ _ (fun e => hyz (by injection e))]
      exact hy hc
  watched := h.watched
  clean := h.clean
  queued := h.queued
theorem run_stageDown (z : Stage) (why : DownCause) (s : State) : Run q s (stageDown z why s) := by
  rw [stageDown_eq]
  refine Run.trans ?_ (run_notify _ _ _ _ _)
  have hsane : Sane q true (cutPort z s) (stageLost z (cutPort z s)) := sane_stageLost z _
  refine .of_sane (sane_cutPort hsane (commits_stageLost z _)) fun hs => ?_
  have hcut : Sound (cutPort z s) := hs
  obtain ⟨hin, hout⟩ := place_stageLost (z := z) hcut
  refine ⟨fun c => ?_, (hsane.unique hcut.unique).2.2.2⟩
  by_cases hc : c.stage = z
  · exact hin c hc
  · rw [hout c hc]; exact hcut.1 c
theorem run_trunkDown (s : State) : Run q s (trunkDown s) :=
  (run_setPort s (p := .trunk) fun _ h => nomatch h).trans (run_foldl (fun s _ => run_bumpTrunk s) _ _)
theorem run_portDown (p : Port) (why : DownCause) (s : State) : Run q s (portDown p why s) := by
  cases p with
  | trunk => exact run_trunkDown s
  | stage z => exact run_stageDown z why s

/-! ## A port comes UP (R72, R74) -/

theorem run_restartSilence (p : Port) (s : State) : Run q s (restartSilence p s) := run_setPort s fun _ _ _ => rfl
theorem up_sendTo (p : Port) (f : Frame) (s : State) (y : Port) : ((handTo p f s).port y).up = (s.port y).up := by
  unfold handTo
  split
  next h =>
    by_cases e : y = p
    · rw [e, port_setPort_same]
    · rw [port_setPort_other _ _ e]
  · cases p <;> rfl
theorem up_originate (a : Addr) (k : Byte) (b : List Byte) (s : State) (y : Port) :
    ((originate a k b s).port y).up = (s.port y).up := by
  unfold originate route
  split
  · exact up_sendTo _ _ _ y
  · rfl
theorem up_notify (k : NoticeKind) (a b : Nat) (x : List Byte) (s : State) (y : Port) :
    ((notify k a b x s).port y).up = (s.port y).up := by
  unfold notify
  dsimp only
  split
  · exact up_originate _ _ _ _ y
  · rfl
/-- What a stage that comes UP sends, before its wait begins. -/
def stageUpSent (z : Stage) (s : State) : State :=
  let s1 := sendStanding z ([0, 1, 2, 3].foldl (fun s u => sendQuery z u s) s)
  notify .stageUp z.val 255 (e8 (s1.darkCount z)) s1
theorem run_stageUpSent (z : Stage) (s : State) : Run q s (stageUpSent z s) :=
  ((run_foldl (fun s u => run_sendQuery z u s) _ s).trans (run_sendStanding z _)).trans (run_notify _ _ _ _ _)
theorem up_stageUpSent (z : Stage) (s : State) (y : Port) : ((stageUpSent z s).port y).up = (s.port y).up := by
  unfold stageUpSent
  dsimp only
  rw [up_notify]
  refine (up_originate _ _ _ _ y).trans ?_
  simp only [List.foldl_cons, List.foldl_nil]
  exact (up_originate _ _ _ _ y).trans ((up_originate _ _ _ _ y).trans ((up_originate _ _ _ _ y).trans (up_originate _ _ _ _ y)))
theorem run_portUp {p : Port} {s : State} (h : (s.port p).up = true) : Run false s (portUp p s) := by
  cases p with
  | trunk => exact Run.refl s
  | stage z => exact (run_stageUpSent z s).trans (run_beginWait ((up_stageUpSent z s _).trans h))

end Sys2Proof.Machine
end

section
/-! The close of a change keeps what `Run` says and leaves only items that stand (R53, R126, R128, R140, R141, R166). -/

namespace Sys2Proof.Machine

variable {q : Bool}

/-! ## Items that stand -/

/-- Every item's channel stands where its want requires (R140). -/
def Standing (s : State) : Prop := ∀ i ∈ s.backlog, s.itemStands i = true
theorem placed_iff_standing (s : State) : Placed s ↔ Sound s ∧ Standing s := placed_iff s
theorem standing_pruneBacklog (s : State) : Standing (pruneBacklog s) := fun _ hi => (List.mem_filter.mp hi).2
theorem ready_pruneBacklog (s : State) : Ready (pruneBacklog s) := ready_of_stands (standing_pruneBacklog s)

/-- What an item's standing reads is as it was. -/
structure Still (s t : State) : Prop where
  chans : t.chans = s.chans
  table : t.table = s.table
  backlog : t.backlog = s.backlog
  caps : t.caps = s.caps
theorem Still.refl (s : State) : Still s s := ⟨rfl, rfl, rfl, rfl⟩
theorem Still.trans {s t u : State} (h : Still s t) (g : Still t u) : Still s u :=
  ⟨g.1.trans h.1, g.2.trans h.2, g.3.trans h.3, g.4.trans h.4⟩
theorem still_ite {p : Prop} [Decidable p] {s t u : State} (ht : Still s t) (hu : Still s u) : Still s (if p then t else u) := by
  split
  · exact ht
  · exact hu
theorem still_foldl {α : Type} {f : State → α → State} (h : ∀ s a, Still s (f s a)) (xs : List α) (s : State) :
    Still s (xs.foldl f s) := by
  induction xs generalizing s with
  | nil => exact Still.refl s
  | cons x xs ih => exact (h s x).trans (ih _)
theorem Standing.of_still {s t : State} (hs : Standing s) (h : Still s t) : Standing t := by
  obtain ⟨h1, h2, h3, h4⟩ := h
  intro i hi
  have hold := hs i (h3 ▸ hi)
  have hchan : t.chan i.chan = s.chan i.chan := by rw [State.chan, h1, State.chan]
  have hentry : t.entryOf i.chan = s.entryOf i.chan := by rw [State.entryOf, h2, State.entryOf]
  have hfit : t.fitted i.chan = s.fitted i.chan := by rw [State.fitted, State.cap, h4, State.fitted, State.cap]
  simpa only [State.itemStands, State.movable, hchan, hentry, hfit] using hold

section
variable (s : State)

theorem still_engine (e : Engine) : Still s { s with engine := e } := ⟨rfl, rfl, rfl, rfl⟩
theorem still_leaveHead (k : ReqClass) : Still s (leaveHead k s) := by
  rw [leaveHead_changes_engine]; exact still_engine s _
theorem still_handTo (p : Port) (f : Frame) : Still s (handTo p f s) := by
  rw [handTo_changes]; exact ⟨rfl, rfl, rfl, rfl⟩
theorem still_route (f : Frame) : Still s (route f s) := by
  rw [route_changes]; exact ⟨rfl, rfl, rfl, rfl⟩
theorem still_notify (k : NoticeKind) (a b : Nat) (x : List Byte) : Still s (notify k a b x s) := by
  rw [notify_changes]; exact ⟨rfl, rfl, rfl, rfl⟩
theorem still_notifyConflict (c : Chan) : Still s (notifyConflict c s) := by
  unfold notifyConflict
  split
  · exact still_notify s _ _ _ _
  · exact Still.refl s
theorem still_restartService : Still s (restartService s) := by
  unfold restartService
  split
  · exact Still.refl s
  · refine still_ite (Still.refl s) (still_ite ?_ (still_engine s _))
    split
    · exact still_engine s _
    · split
      · exact ((still_engine s _).trans (still_leaveHead _ _)).trans (still_route _ _)
      · exact still_engine s _
theorem still_queueRechecks : Still s (queueRechecks s) := by
  unfold queueRechecks
  dsimp only
  generalize ((List.finRange 4).filter fun g => s.needsRecheck g && !s.engine.poolQ.contains g) = gs
  obtain ⟨m, hm⟩ := freeOrder_state gs.length gs s
  rw [hm]
  refine Still.trans (t := { s with freeCount := m }) ⟨rfl, rfl, rfl, rfl⟩ ?_
  exact still_foldl (f := fun s g => joinPool g s) (fun s _ => still_engine s _) _ _
theorem still_keepSlots (z : Stage) (p : Slot → Bool) : Still s (keepSlots z p s) := by
  rw [keepSlots_changes_staging]; exact ⟨rfl, rfl, rfl, rfl⟩
theorem still_arm (v : Vector Bool 6) : Still s { s with arm := v } := ⟨rfl, rfl, rfl, rfl⟩
theorem still_setCommit (z : Stage) (v : CommitState) : Still s (s.setCommit z v) := ⟨rfl, rfl, rfl, rfl⟩
theorem still_endCommit (z : Stage) : Still s (endCommit z s) := by
  unfold endCommit
  split
  · refine still_ite ?_ (Still.refl s)
    exact (((still_keepSlots s z _).trans (still_arm _ _)).trans (still_notify _ _ _ _ _)).trans (still_setCommit _ z .idle)
  · exact Still.refl s
end

/-! ## The close of a change -/

theorem run_settleBacklog (s : State) : Run q s (settleBacklog s) := by
  have h := (run_settleDrops (q := q) s).trans (run_pruneBacklog _)
  have hready := ready_pruneBacklog (settleDrops s)
  unfold settleBacklog
  dsimp only
  generalize pruneBacklog (settleDrops s) = t at h hready ⊢
  exact (h.trans ((run_arbiter _ t).2 hready)).trans ((run_settleDrops _).trans (run_pruneBacklog _))
theorem run_exclusionNotices (s0 s : State) : Run q s (exclusionNotices s0 s) :=
  run_foldl (fun s c => run_notifyConflict c s) _ s
theorem run_poolNotices (s0 s : State) : Run q s (poolNotices s0 s) := run_foldl (fun s _ => run_notify s _ _ _ _) _ s
/-- What the close does after the backlog is settled. -/
def closeTail (s0 s : State) : State :=
  endCommits (poolNotices s0 (exclusionNotices s0 (queueRechecks (restartService s))))
theorem closeChange_eq (s0 s : State) : closeChange s0 s = closeTail s0 (settleBacklog s) := rfl
theorem run_closeTail (s0 s : State) : Run q s (closeTail s0 s) :=
  ((((run_restartService s).trans (run_queueRechecks _)).trans (run_exclusionNotices s0 _)).trans (run_poolNotices s0 _)).trans
    (run_endCommits _)
theorem still_closeTail (s0 s : State) : Still s (closeTail s0 s) :=
  ((((still_restartService s).trans (still_queueRechecks _)).trans (still_foldl (fun s c => still_notifyConflict s c) _ _)).trans
    (still_foldl (fun s _ => still_notify s _ _ _ _) _ _)).trans (still_foldl (fun s z => still_endCommit s z) _ _)
theorem run_closeChange (s0 s : State) : Run q s (closeChange s0 s) := (run_settleBacklog s).trans (run_closeTail s0 _)
theorem standing_closeChange (s0 s : State) : Standing (closeChange s0 s) :=
  (standing_pruneBacklog _).of_still (still_closeTail s0 _)

end Sys2Proof.Machine
end

section
/-! The channel requests and the operator moves keep what `Run` says (R55, R56, R155, R156, R186 to R190). -/

namespace Sys2Proof.Machine

variable {q : Bool}

theorem run_operReply (o : Oper) (st : Status) (k : Nat) (x : List Byte) (s : State) : Run q s (operReply o st k x s) :=
  run_reply s _ _ _ _ _
theorem run_deferOr {h : ReqHdr} {req : Request} {wait : Bool} {apply : State → State} {s : State} (ha : Run q s (apply s)) :
    Run q s (deferOr h req wait apply s) :=
  run_ite (fun _ => run_ite (fun _ => run_refuse s _ _ _) fun hfull => run_defer s ⟨h, req⟩ (Nat.lt_of_not_le hfull))
    fun _ => ha

/-! ## Channels at rest -/

/-- A channel that is none of ACTIVE, HELD and MOVING has no entry. -/
theorem Sound.entryOf_of_rest {s : State} (hs : Sound s) {c : Chan} (ha : (s.chan c).state ≠ .active)
    (hh : (s.chan c).state ≠ .held) (hm : (s.chan c).state ≠ .moving) : s.entryOf c = none := by
  cases he : s.entryOf c with
  | none => rfl
  | some e =>
    by_cases hse : e.state = .searching
    · exact ((hs.searching_state he hse).elim ha hh).elim
    · exact absurd (hs.moving_state he hse).1 hm
/-- The record of a channel at rest is replaced by another that occupies nothing. -/
theorem run_setRest {s : State} {c : Chan} {r : ChanRec} (hold : (s.chan c).state = .unused ∨ (s.chan c).state = .parked)
    (hnew : r.state = .unused ∨ r.state = .parked) (hw : r.watch = Watch.off) (hh : r.history = []) (hm : r.moveCount = 0)
    (hocc : r.occupied = []) (hshaped : r.shaped = true) : Run q s (s.setChan c r) := by
  have hfair : (s.chan c).Fair s.profiles r := by
    refine ⟨fun _ => by rw [hh]; exact Nat.zero_le _, fun _ => by rw [hm]; exact Nat.zero_le _, fun _ _ => ?_⟩
    unfold ChanRec.WatchOk
    rw [hw]
    exact ⟨Nat.zero_le _, Nat.zero_le _, fun _ => rfl, fun _ _ => rfl⟩
  refine .of_local (sane_setChan hfair fun _ => by rw [hocc]; exact List.nil_subset _) c
    (fun d hd => by rw [place_setChan, if_neg hd]) fun hs => ?_
  have hnone : s.entryOf c = none := by
    rcases hold with h | h <;> exact hs.entryOf_of_rest (by simp [h]) (by simp [h]) (by simp [h])
  rw [place_setChan, if_pos rfl]
  refine place_idle ((entryOf_eq_none_iff s c).mp hnone) (hs.itemsAt_length c) (hs.movesAt_of_none hnone) hshaped fun hmv => ?_
  have hmv' : r.state = .moving := hmv
  rcases hnew with h | h <;> rw [h] at hmv' <;> cases hmv'
theorem run_defineChannel (h : ReqHdr) (st sl c p n v : Nat) (s : State) : Run q s (defineChannel h st sl c p n v s) := by
  unfold defineChannel
  dsimp only
  split
  · refine run_ite (fun hu => ?_) fun _ => run_refuse s _ _ _
    exact (run_setRest (.inl hu) (.inr rfl) rfl rfl rfl rfl rfl).trans (run_replyOk _ _ _ _)
  · exact run_refuse s _ _ _
theorem run_removeChannel (h : ReqHdr) (st sl : Nat) (s : State) : Run q s (removeChannel h st sl s) := by
  unfold removeChannel
  dsimp only
  split
  next c _ =>
    split
    · exact run_refuse s _ _ _
    next hp =>
      exact ((run_setRest (.inr hp) (.inl rfl) rfl rfl rfl rfl rfl).trans (run_dropNote _ _)).trans (run_replyOk _ _ _ _)
    · exact run_refuse s _ _ _
  · exact run_refuse s _ _ _
/-- A HELD channel becomes ACTIVE, or the watch and the deadlines of an ACTIVE one start afresh (R189). -/
theorem run_restrain {c : Chan} {s : State} (hs : (s.chan c).state = .held ∨ (s.chan c).state = .active) :
    Run q s (s.modChan c (ChanRec.restrain s)) := by
  have hstate : ((s.chan c).restrain s).state = .active := by
    rcases hs with h | h <;> simp [ChanRec.restrain, h]
  have hocc : ((s.chan c).restrain s).occupied = (s.chan c).occupied := by
    unfold ChanRec.restrain; dsimp only; split <;> rfl
  have hwatch : ((s.chan c).restrain s).watch = s.freshWatch (s.chan c).profile := by
    unfold ChanRec.restrain; dsimp only; split <;> rfl
  have hsame : ((s.chan c).restrain s).history = (s.chan c).history
      ∧ ((s.chan c).restrain s).moveCount = (s.chan c).moveCount := by
    unfold ChanRec.restrain; dsimp only; split <;> exact ⟨rfl, rfl⟩
  have hsane : Sane q true s (s.modChan c (ChanRec.restrain s)) :=
    sane_modChan (fair_armed (by rw [hsame.1]; exact id) (by rw [hsame.2]; exact id)
      (by rw [hwatch]; exact freshWatch_cases s _) fun _ => .inl hstate) fun _ => by rw [hocc]; exact List.Subset.refl _
  refine .of_local hsane c (fun d hd => by rw [place_modChan, if_neg hd]) fun hsound => ?_
  have hshaped : ((s.chan c).restrain s).shaped = true := by
    have hold := hsound.shaped c
    rcases hs with h | h <;> simp_all [ChanRec.shaped, ChanRec.restrain]
  have hne : (s.chan c).state ≠ .moving := by rcases hs with h | h <;> rw [h] <;> exact ChState.noConfusion
  rw [place_modChan, if_pos rfl]
  cases he : s.entryOf c with
  | none =>
    refine place_idle ((entryOf_eq_none_iff s c).mp he) (hsound.itemsAt_length c) (hsound.movesAt_of_none he) hshaped fun hm => ?_
    exact absurd (hm.symm.trans hstate) ChState.noConfusion
  | some e =>
    have hse : e.state = .searching := by
      by_contra hse
      exact hne (hsound.moving_state he hse).1
    obtain ⟨hentries, hitems⟩ := hsound.entriesAt_eq he
    obtain ⟨horigin, -⟩ := (stands_searching hse).mp (hsound.stands he)
    exact place_searching hentries hitems (hsound.1 c).asks hshaped hse
      ((stands_searching hse).mpr ⟨horigin, .inl hstate⟩)
theorem run_releaseChannel (h : ReqHdr) (st sl : Nat) (s : State) : Run q s (releaseChannel h st sl s) := by
  unfold releaseChannel
  dsimp only
  split
  next c _ =>
    split
    · exact run_refuse s _ _ _
    · exact run_refuse s _ _ _
    · exact run_refuse s _ _ _
    · exact run_replyOk s _ _ _
    next hs => exact (run_restrain (.inl hs)).trans (run_replyOk _ _ _ _)
    next hs => exact (run_restrain (.inr hs)).trans (run_replyOk _ _ _ _)
  · exact run_refuse s _ _ _
theorem ack_ok {p : Profile} {w : Watch} (hp : Watch.armed.below p = true) (hb : w.below p = true) : w.ack.below p = true := by
  unfold Watch.ack
  split
  · exact hb
  · exact hp
theorem fair_ack (ps : Vector Profile 8) (r : ChanRec) : r.Fair ps { r with watch := r.watch.ack } := by
  refine ⟨id, id, fun hps ⟨h1, h2, h3, h4⟩ => ?_⟩
  refine ⟨?_, ?_, fun hs => ?_, fun n hn => ack_ok (armed_below hps n) (h4 n hn)⟩
  · unfold Watch.ack; dsimp only; split
    · exact h1
    · exact Nat.zero_le _
  · unfold Watch.ack; dsimp only; split
    · exact h2
    · exact Nat.zero_le _
  · have hoff := h3 hs
    change r.watch.ack.st = .off
    rw [Watch.ack, if_pos hoff]; exact hoff
theorem run_ackWatch (h : ReqHdr) (st sl : Nat) (s : State) : Run q s (ackWatch h st sl s) := by
  unfold ackWatch
  dsimp only
  split
  · split
    · exact run_reply s _ _ _ _ _
    · exact run_reply s _ _ _ _ _
    · exact (run_modChan s (f := fun r => { r with watch := r.watch.ack }) (fair_ack _ _) rfl).trans (run_replyOk _ _ _ _)
  · exact run_refuse s _ _ _
theorem run_readChannel (h : ReqHdr) (st sl : Nat) (s : State) : Run q s (readChannel h st sl s) := by
  unfold readChannel
  dsimp only
  split
  · exact run_replyOk s _ _ _
  · exact run_refuse s _ _ _

/-! ## Operator moves -/

theorem not_admFull {s : State} {c : Chan} (h : ¬ s.operBusy c = true) : s.engine.admQ.length < 8 :=
  length_of_admFull fun hf => h (by simp only [State.operBusy, hf, Bool.or_true])
theorem run_queueOper {h : ReqHdr} {code : Nat} {c : Chan} {v r : Bool} {w : Work} {x : Search} {s : State}
    (ha : s.engine.admQ.length < 8) : Run q s (queueOper h code c v r w x s) := run_joinAdm s _ ha
theorem run_moveTo (h : ReqHdr) (c : Chan) (t : Nat) (roc : Bool) (s : State) : Run q s (moveTo h c t roc s) :=
  run_ite (fun _ => run_refuse s _ _ _) fun hb => run_ite (fun _ => run_replyOk s _ _ _) fun _ => run_queueOper (not_admFull hb)
theorem engine_searchNext (c : Chan) (x : Search) (s : State) : (searchNext c x s).2.engine = s.engine := by
  rw [searchNext_changes_pools]
theorem run_movePick (h : ReqHdr) (c : Chan) (roc : Bool) (s : State) : Run q s (movePick h c roc s) := by
  have hnext := run_searchNext (q := q) c Search.start s
  have hengine := engine_searchNext c Search.start s
  refine run_ite (fun _ => run_refuse s _ _ _) fun hb => ?_
  split
  next w y s1 hs =>
    rw [hs] at hnext hengine
    exact hnext.trans (run_queueOper (by rw [hengine]; exact not_admFull hb))
  next st s1 _ hs =>
    rw [hs] at hnext
    exact hnext.trans (run_reply _ _ _ _ _ _)
theorem run_moveBy (h : ReqHdr) (c : Chan) (x : Int) (roc : Bool) (s : State) : Run q s (moveBy h c x roc s) := by
  refine run_ite (fun _ => run_refuse s _ _ _) fun _ => ?_
  split
  · exact run_ite (fun _ => run_refuse s _ _ _) fun _ => run_moveTo _ _ _ _ s
  · exact run_refuse s _ _ _
theorem run_moveChannel (h : ReqHdr) (st sl f x roc : Nat) (s : State) : Run q s (moveChannel h st sl f x roc s) := by
  unfold moveChannel
  dsimp only
  split
  · exact run_ite (fun _ => run_refuse s _ _ _) fun _ => run_ite (fun _ => run_refuse s _ _ _) fun _ =>
      run_ite (fun _ => run_ite (fun _ => run_refuse s _ _ _) fun _ => run_moveTo _ _ _ _ s) fun _ =>
        run_ite (fun _ => run_moveBy _ _ _ _ s) fun _ => run_movePick _ _ _ s
  · exact run_refuse s _ _ _
theorem run_revertChannel (h : ReqHdr) (st sl : Nat) (s : State) : Run q s (revertChannel h st sl s) := by
  unfold revertChannel
  dsimp only
  split
  · exact run_ite (fun _ => run_refuse s _ _ _) fun _ => run_ite (fun _ => run_refuse s _ _ _) fun hb =>
      run_ite (fun _ => run_refuse s _ _ _) fun _ => run_queueOper (not_admFull hb)
  · exact run_refuse s _ _ _
/-- An operator's entry is made and sent in one change (R156). -/
theorem run_reserveSend {c : Chan} {t : Nat} {e : Entry} {s : State} (hc : e.chan = c) (hnone : s.entryOf c = none)
    (hroom : s.table.length < 12) (hs : e.state ≠ .proposed) (ht : e.target = some t)
    (ho : e.origin ≠ .auto ∧ e.origin ≠ .ret) (hset : (s.chan c).settled = true) :
    Run q s (sendEntry c (addEntry e (reserve c t s))) := by
  have hadd : (addEntry e (reserve c t s)).entryOf c = some e := by
    subst hc; exact entryOf_addEntry (by rw [entryOf_reserve]; exact hnone)
  have hsane : Sane q true s (addEntry e (reserve c t s)) := sane_reserveAdd hc hnone hroom hs
  have hplace : ∀ d, (sendEntry c (addEntry e (reserve c t s))).place d = if d = c then
      ⟨((s.chan c).reserve t).seat, [e.sent (addEntry e (reserve c t s)).now], [], s.movesAt c⟩ else s.place d := fun d => by
    have hsent : (e.sent (addEntry e (reserve c t s)).now).chan = c := hc
    rw [place_sendEntry hadd, place_putEntry, hsent]
    have hp := place_reserveAdd hc hnone (t := t) d
    split
    next hd =>
      rw [if_pos hd] at hp
      rw [← place_entries, hp]; rfl
    next hd => rw [hp, if_neg hd]
  refine .of_local (hsane.trans (sane_sendEntry c _)) c (fun d hd => by rw [hplace, if_neg hd]) fun hsound => ?_
  have hns : (e.sent (addEntry e (reserve c t s)).now).state ≠ .searching := EntryState.noConfusion
  rw [hplace, if_pos rfl]
  exact place_moving rfl rfl (hsound.movesAt_of_none hnone) (shaped_reserve (hsound.shaped c) (settled_iff.mp hset) t) hns
    ((stands_moving hns).mpr ⟨rfl, ht.symm, .inl ho⟩)
theorem run_operFound (o : Oper) (t : Nat) (s : State) : Run q s (operFound o t s) := by
  unfold operFound
  dsimp only
  refine run_ite (fun hok => ?_) fun _ => run_operReply _ _ _ _ s
  simp only [Bool.and_eq_true, Option.isNone_iff_eq_none, Bool.not_eq_true'] at hok
  obtain ⟨⟨⟨hset, hnone⟩, _⟩, hfull⟩ := hok
  have hrun := run_reserveSend (q := q) (c := o.chan) (t := t) (s := s) (e := { freshEntry s o.chan .operator with
    revert := o.revert, target := some t, roc := o.roc, orig := some o.hdr.src }) rfl hnone
    (length_of_tableFull (by rw [hfull]; exact Bool.false_ne_true)) EntryState.noConfusion rfl
    ⟨Origin.noConfusion, Origin.noConfusion⟩ hset
  exact hrun.trans (run_operReply _ _ _ _ _)
theorem run_operSearched (o : Oper) (x : SearchStep × State) : Run q x.2 (operSearched o x) := by
  obtain ⟨st, s⟩ := x
  cases st with
  | more w y => exact run_replaceAdm s _
  | found f m p y => exact (run_leaveHead s _).trans (run_operFound _ _ _)
  | empty y => exact (run_leaveHead s _).trans (run_operReply _ _ _ _ _)
theorem run_operDone (o : Oper) (r : Outcome) (s : State) : Run q s (operDone o r s) := by
  have hcheck : ∀ f (x : Result), Run q s (if x.verdict = .clear then operFound o f (leaveHead .admission s)
      else operReply o .refused x.verdict.code [] (leaveHead .admission s)) := fun f x =>
    (run_leaveHead s .admission).trans (run_ite (fun _ => run_operFound _ _ _) fun _ => run_operReply _ _ _ _ _)
  unfold operDone
  split
  · exact hcheck _ _
  · exact hcheck _ _
  · exact (run_searchDone _ _ _ _ s).trans (run_operSearched _ _)

/-! ## WRITE_CHANNEL (R187) -/

/-- The record WRITE_CHANNEL stores: its attributes, and with a changed profile its watch. -/
def ChanRec.attributed (s : State) (a : Attrs) (r : ChanRec) : ChanRec :=
  let r1 := { r with cls := a.cls, priority := a.priority, profile := a.profile, pinned := a.pinned }
  if r.profile = a.profile then r1 else { r1 with watch := s.rewatch r1, returnWatch := none }
theorem storeAttrs_eq (c : Chan) (a : Attrs) (s : State) : storeAttrs c a s =
    if (s.chan c).cls = .low ∧ a.cls = .high ∧ (s.chan c).occupied ≠ [] then
      bumpGen (s.groupOf c) (s.setChan c ((s.chan c).attributed s a)) else s.setChan c ((s.chan c).attributed s a) := rfl
theorem seat_attributed (s : State) (a : Attrs) (r : ChanRec) : (r.attributed s a).seat = r.seat := by
  unfold ChanRec.attributed; dsimp only; split <;> rfl
theorem fair_attributed (s : State) (a : Attrs) (r : ChanRec) : r.Fair s.profiles (r.attributed s a) := by
  unfold ChanRec.attributed
  dsimp only
  split
  next h => exact fair_same rfl rfl rfl h.symm rfl
  next h =>
    refine fair_armed id id ((rewatch_cases s _).symm.imp (·.2) id) fun harm => ?_
    rcases rewatch_cases s { r with cls := a.cls, priority := a.priority, profile := a.profile, pinned := a.pinned } with hw | hw
    · exact absurd (hw.symm.trans harm) (by decide)
    · exact hw.1
theorem run_storeAttrs (c : Chan) (a : Attrs) (s : State) : Run q s (storeAttrs c a s) := by
  rw [storeAttrs_eq]
  have h : Run q s (s.setChan c ((s.chan c).attributed s a)) := run_setChan s (fair_attributed s a _) (seat_attributed s a _)
  exact run_ite (fun _ => h.trans (run_bumpGen _ _)) fun _ => h
theorem engine_storeAttrs (c : Chan) (a : Attrs) (s : State) : (storeAttrs c a s).engine = s.engine := by
  rw [storeAttrs_eq]
  split
  · rw [bumpGen, demotePools_changes_pools]; rfl
  · rfl
theorem run_applyWrite {h : ReqHdr} {c : Chan} {a : Attrs} {f : Option Nat} {s : State}
    (ha : f.isSome = true → s.engine.admQ.length < 8) : Run q s (applyWrite h c a f s) := by
  unfold applyWrite
  dsimp only
  cases f with
  | none => exact (run_storeAttrs c a s).trans (run_replyOk _ _ _ _)
  | some t =>
    refine (run_storeAttrs c a s).trans (run_ite (fun _ => run_replyOk _ _ _ _) fun _ => run_queueOper ?_)
    rw [engine_storeAttrs]; exact ha rfl
theorem run_writeChannel (h : ReqHdr) (st sl c p n v f : Nat) (s : State) : Run q s (writeChannel h st sl c p n v f s) := by
  unfold writeChannel
  dsimp only
  split
  · refine run_ite (fun _ => run_refuse s _ _ _) fun _ => run_ite (fun _ => run_refuse s _ _ _) fun _ =>
      run_ite (fun _ => run_refuse s _ _ _) fun hb => run_deferOr (run_applyWrite fun hf => ?_)
    exact not_admFull fun ho => hb (Bool.and_eq_true_iff.mpr ⟨hf, ho⟩)
  · exact run_refuse s _ _ _

/-! ## CHECK (R58) -/

theorem run_queueCheck (h : ReqHdr) (x : Option Subject) (c : Nat) (s : State) : Run q s (queueCheck h x c s) := by
  refine run_ite (fun _ => run_refuse s _ _ _) fun _ => ?_
  split
  · exact run_ite (fun _ => run_refuse s _ _ _) fun hf => run_joinAdm s _ (length_of_admFull hf)
  · exact run_refuse s _ _ _
theorem run_whatIfDone (h : ReqHdr) (x : Subject) (r : Result) (n : Nat) (s : State) : Run q s (whatIfDone h x r n s) :=
  run_replyOk s _ _ _

end Sys2Proof.Machine
end

section
/-! The requests of the tables, the rules, the controls and the reads keep what `Run` says (R14 to R18, R45, R121 to R123,
R161 to R163, R175 to R177, R180, R190 to R193). -/

namespace Sys2Proof.Machine

variable {q : Bool}

/-! ## Exclusions (R16 to R18) -/

theorem before_iff (x y : Excl) : x.before y = true ↔ x.first < y.first ∨ (x.first = y.first ∧ x.last < y.last) := by
  simp [Excl.before]
theorem before_trans {x y z : Excl} (h : x.before y = true) (g : y.before z = true) : x.before z = true := by
  rw [before_iff] at *; omega
theorem sameRange_iff (a b : Nat) (x : Excl) : x.sameRange a b = true ↔ x.first = a ∧ x.last = b := by simp [Excl.sameRange]
/-- The order reads the range alone. -/
theorem before_congr {x y x' y' : Excl} (h1 : x'.first = x.first) (h2 : x'.last = x.last) (h3 : y'.first = y.first)
    (h4 : y'.last = y.last) : x'.before y' = x.before y := by simp only [Excl.before, h1, h2, h3, h4]
theorem before_of_not {x y : Excl} (h : ¬ x.before y = true) (hne : ¬ (y.first = x.first ∧ y.last = x.last)) :
    y.before x = true := by
  rw [before_iff] at *; omega
theorem mem_insertExcl (x y : Excl) (xs : List Excl) : y ∈ insertExcl x xs ↔ y = x ∨ y ∈ xs := by
  induction xs with
  | nil => simp [insertExcl]
  | cons z zs ih =>
    unfold insertExcl
    split
    · simp
    · simp [ih, or_left_comm]
theorem length_insertExcl (x : Excl) (xs : List Excl) : (insertExcl x xs).length = xs.length + 1 := by
  induction xs with
  | nil => rfl
  | cons z zs ih =>
    unfold insertExcl
    split
    · rfl
    · simp [ih]
theorem sorted_insertExcl {x : Excl} {xs : List Excl} (hnew : ∀ y ∈ xs, ¬ (y.first = x.first ∧ y.last = x.last))
    (h : xs.Pairwise fun a b => a.before b = true) : (insertExcl x xs).Pairwise fun a b => a.before b = true := by
  induction xs with
  | nil => exact List.pairwise_singleton _ _
  | cons y ys ih =>
    obtain ⟨hy, hys⟩ := List.pairwise_cons.mp h
    unfold insertExcl
    split
    next hb =>
      refine List.pairwise_cons.mpr ⟨fun z hz => ?_, h⟩
      rcases List.mem_cons.mp hz with rfl | hz
      · exact hb
      · exact before_trans hb (hy z hz)
    next hb =>
      refine List.pairwise_cons.mpr ⟨fun z hz => ?_, ih (fun z hz => hnew z (List.mem_cons_of_mem y hz)) hys⟩
      rcases (mem_insertExcl x z ys).mp hz with rfl | hz
      · exact before_of_not hb (hnew y List.mem_cons_self)
      · exact hy z hz
theorem run_excl {s : State} {v : List Excl} (h : s.excl.length ≤ 48 → v.length ≤ 48)
    (hsort : s.excl.Pairwise (fun x y => x.before y = true) → v.Pairwise (fun x y => x.before y = true)) :
    Run q s { s with excl := v } := .of_same (sane_excl h hsort) fun _ => rfl
theorem run_addedTable {a b : Nat} {sc : GroupSet} {s : State}
    (hroom : ¬ (!s.excl.any (Excl.sameRange a b) && decide (48 ≤ s.excl.length)) = true) :
    Run q s { s with excl := addedTable a b sc s.excl } := by
  unfold addedTable
  by_cases hany : s.excl.any (Excl.sameRange a b) = true
  · rw [if_pos hany]
    refine run_excl (fun h => by rwa [List.length_map]) fun h => List.pairwise_map.mpr (h.imp fun {x y} hxy => ?_)
    have hrange : ∀ z : Excl, (if z.sameRange a b then { z with scope := z.scope ||| sc } else z).first = z.first
        ∧ (if z.sameRange a b then { z with scope := z.scope ||| sc } else z).last = z.last := fun z => by
      split <;> exact ⟨rfl, rfl⟩
    rw [before_congr (hrange x).1 (hrange x).2 (hrange y).1 (hrange y).2]; exact hxy
  · rw [if_neg hany]
    rw [Bool.not_eq_true] at hany
    simp only [hany, Bool.not_false, Bool.true_and, decide_eq_true_eq, not_le] at hroom
    refine run_excl (fun _ => by rw [length_insertExcl]; exact hroom) (sorted_insertExcl fun y hy hr => ?_)
    rw [List.any_eq_false] at hany
    exact hany y hy ((sameRange_iff a b y).mpr hr)
theorem run_flag (c : Chan) (b : Bool) (s : State) : Run q s (s.modChan c fun r => { r with exclConflict := b }) :=
  run_modChan s (fair_same rfl rfl rfl rfl rfl) rfl
theorem run_tighten (a b : Nat) (x : GroupSet) (s : State) : Run q s (tighten a b x s) :=
  (run_foldl (fun s g => run_bumpGen s g) _ s).trans
    (run_foldl (fun s _ => run_ite (fun _ => run_flag _ _ s) fun _ => Run.refl s) _ _)
theorem run_addExclusion (h : ReqHdr) (a b sc : Nat) (s : State) : Run q s (addExclusion h a b sc s) :=
  run_ite (fun _ => run_refuse s _ _ _) fun _ => run_ite (fun _ => run_refuse s _ _ _) fun _ =>
    run_ite (fun _ => run_refuse s _ _ _) fun hroom =>
      run_deferOr (((run_addedTable hroom).trans (run_tighten _ _ _ _)).trans (run_replyOk _ _ _ _))
theorem run_filterExcl (p : Excl → Bool) (s : State) : Run q s { s with excl := s.excl.filter p } :=
  run_excl (fun h => (List.length_filter_le _ _).trans h) fun h => h.filter _
theorem run_removeExclusion (h : ReqHdr) (a b : Nat) (s : State) : Run q s (removeExclusion h a b s) := by
  refine run_ite (fun _ => run_refuse s _ _ _) fun _ => ?_
  split
  · exact ((run_filterExcl _ s).trans (run_reflagAll _ _)).trans (run_replyOk _ _ _ _)
  · exact run_refuse s _ _ _

/-! ## Pools (R121 to R123) -/

theorem run_addPool (h : ReqHdr) (g f : Nat) (s : State) : Run q s (addPool h g f s) := by
  unfold addPool
  dsimp only
  split
  next g _ =>
    refine run_ite (fun _ => run_refuse s _ _ _) fun _ => run_ite (fun _ => run_refuse s _ _ _) fun hdup =>
      run_ite (fun _ => run_refuse s _ _ _) fun hocc => run_ite (fun _ => run_refuse s _ _ _) fun hfull => ?_
    refine Run.trans (.of_same (sane_pushPool (Nat.lt_of_not_le hfull) (fun x hx => ?_) ?_) fun _ => rfl) (run_replyOk _ _ _ _)
    · intro hf
      exact hdup (List.any_eq_true.mpr ⟨x, hx, decide_eq_true hf⟩)
    · exact Bool.eq_false_iff.mpr hocc
  · exact run_refuse s _ _ _
theorem run_removePool (h : ReqHdr) (g f : Nat) (s : State) : Run q s (removePool h g f s) := by
  unfold removePool
  dsimp only
  split
  · exact run_ite (fun _ => run_refuse s _ _ _) fun _ => run_ite (fun _ => (run_unpool s _ _).trans (run_replyOk _ _ _ _))
      fun _ => run_refuse s _ _ _
  · exact run_refuse s _ _ _
theorem kept_loadFreqs (s : State) (g : Group) (seen fs : List Nat) :
    (loadFreqs s g seen fs).kept.Sublist fs ∧ (loadFreqs s g seen fs).kept.Nodup
      ∧ ∀ f ∈ (loadFreqs s g seen fs).kept, f ∉ seen ∧ s.occupiedIn g f = false := by
  induction fs generalizing seen with
  | nil => exact ⟨List.Sublist.refl _, List.nodup_nil, fun _ h => nomatch h⟩
  | cons x xs ih =>
    obtain ⟨hsub, hnodup, hfree⟩ := ih (x :: seen)
    have hold : ∀ f ∈ (loadFreqs s g (x :: seen) xs).kept, f ∉ seen ∧ s.occupiedIn g f = false := fun f hf =>
      ⟨fun hmem => (hfree f hf).1 (List.mem_cons_of_mem x hmem), (hfree f hf).2⟩
    unfold loadFreqs
    dsimp only
    split
    · exact ⟨hsub.cons x, hnodup, hold⟩
    next hseen =>
      split
      · exact ⟨hsub.cons x, hnodup, hold⟩
      next hocc =>
        refine ⟨hsub.cons_cons x, List.nodup_cons.mpr ⟨fun hx => (hfree x hx).1 List.mem_cons_self, hnodup⟩, fun f hf => ?_⟩
        rcases List.mem_cons.mp hf with rfl | hf
        · exact ⟨fun hmem => hseen (List.contains_iff_mem.mpr hmem), Bool.eq_false_iff.mpr hocc⟩
        · exact hold f hf
theorem run_loadPool (h : ReqHdr) (g n : Nat) (fs : List Nat) (s : State) : Run q s (loadPool h g n fs s) := by
  unfold loadPool
  dsimp only
  split
  next g _ =>
    refine run_ite (fun _ => run_refuse s _ _ _) fun hlen => run_ite (fun _ => run_refuse s _ _ _) fun _ => ?_
    obtain ⟨hsub, hnodup, hfree⟩ := kept_loadFreqs s g [] fs
    have hmap : ((loadFreqs s g [] fs).kept.map PoolEntry.fresh).map (·.freq) = (loadFreqs s g [] fs).kept := by
      rw [List.map_map]; exact List.map_id _
    refine Run.trans (.of_same (sane_setPool (fun _ => ?_) (fun _ => by rw [hmap]; exact hnodup) fun e he => ?_) fun _ => rfl)
      (run_replyOk _ _ _ _)
    · rw [List.length_map]
      have := hsub.length_le
      omega
    · obtain ⟨f, hf, rfl⟩ := List.mem_map.mp he
      exact .inr (hfree f hf).2
  · exact run_refuse s _ _ _

/-! ## Coupling groups (R14, R15) -/

/-- What the regrouping of a stage does to the pools: a frequency of its channels leaves the pool of its group. -/
theorem poolFreqs_reflagAll (cs : List Chan) (s : State) (h : Group) : (reflagAll cs s).poolFreqs h = s.poolFreqs h := by
  rw [reflagAll_changes_chans]; rfl
theorem poolFreqs_unpoolAll (g : Group) (fs : List Nat) (s : State) (h : Group) :
    (fs.foldl (fun s f => unpool g f s) s).poolFreqs h =
      if h = g then (s.poolFreqs h).filter fun x => x ∉ fs else s.poolFreqs h := by
  induction fs generalizing s with
  | nil => simp
  | cons f fs ih =>
    rw [List.foldl_cons, ih, poolFreqs_unpool]
    split
    · rw [List.filter_filter]
      exact List.filter_congr fun x _ => by simp [Bool.and_comm]
    · rfl
theorem regroupStage_eq (z : Stage) (s : State) : regroupStage z s = reflagAll (stageChans z)
    (((stageChans z).flatMap fun c => (s.chan c).occupied).foldl (fun s' f => unpool s.couple[z] f s') s) := by
  have h : ∀ (fs : List Nat) (t : State), fs.foldl (fun s f => unpool s.couple[z] f s) t =
      fs.foldl (fun s f => unpool t.couple[z] f s) t := by
    intro fs
    induction fs with
    | nil => exact fun _ => rfl
    | cons f fs ih => exact fun t => ih (unpool t.couple[z] f t)
  unfold regroupStage
  dsimp only
  rw [h]
theorem foldl_unpool_changes_pools (g : Group) (fs : List Nat) (s : State) :
    fs.foldl (fun s f => unpool g f s) s = { s with pools := (fs.foldl (fun s f => unpool g f s) s).pools } := by
  induction fs generalizing s with
  | nil => rfl
  | cons f fs ih => exact (ih (unpool g f s)).trans rfl
theorem run_regroupStage (z : Stage) (s : State) : Run q s (regroupStage z s) :=
  (run_foldl (fun s _ => run_unpool s _ _) _ s).trans (run_reflagAll _ _)
theorem occupied_reflagAll (cs : List Chan) (s : State) (d : Chan) :
    ((reflagAll cs s).chan d).occupied = (s.chan d).occupied := by
  induction cs generalizing s with
  | nil => rfl
  | cons c cs ih => exact (ih (reflag c s)).trans (occupied_reflag c s d)
/-- The frequencies of the stages in `zs` are out of the pools of their groups; else the pools lose entries alone. -/
structure Regrouped (zs : List Stage) (s t : State) : Prop where
  couple : t.couple = s.couple
  occupied : ∀ c, (t.chan c).occupied = (s.chan c).occupied
  sub : ∀ g, (t.poolFreqs g).Sublist (s.poolFreqs g)
  left : ∀ c, c.stage ∈ zs → ∀ f ∈ (s.chan c).occupied, f ∉ t.poolFreqs s.couple[c.stage]
theorem regrouped_one (z : Stage) (s : State) : Regrouped [z] s (regroupStage z s) := by
  have hfreqs : ∀ g, (regroupStage z s).poolFreqs g = if g = s.couple[z] then
      (s.poolFreqs g).filter fun x => x ∉ (stageChans z).flatMap fun c => (s.chan c).occupied else s.poolFreqs g := fun g => by
    rw [regroupStage_eq, poolFreqs_reflagAll, poolFreqs_unpoolAll]
  refine ⟨?_, fun c => ?_, fun g => ?_, fun c hc f hf hmem => ?_⟩
  · rw [regroupStage_eq, reflagAll_changes_chans, foldl_unpool_changes_pools]
  · rw [regroupStage_eq, occupied_reflagAll, foldl_unpool_changes_pools]; rfl
  · rw [hfreqs]; split
    · exact List.filter_sublist
    · exact List.Sublist.refl _
  · rw [List.mem_singleton] at hc
    subst hc
    rw [hfreqs, if_pos rfl, List.mem_filter, decide_eq_true_eq] at hmem
    exact hmem.2 (List.mem_flatMap.mpr ⟨c, mem_stageChans.mpr rfl, hf⟩)
theorem regrouped_all (zs : List Stage) (s : State) : Regrouped zs s (zs.foldl (fun s z => regroupStage z s) s) := by
  induction zs generalizing s with
  | nil => exact ⟨rfl, fun _ => rfl, fun _ => List.Sublist.refl _, fun _ h => nomatch h⟩
  | cons z zs ih =>
    have h1 := regrouped_one z s
    have h2 := ih (regroupStage z s)
    refine ⟨h2.couple.trans h1.couple, fun c => (h2.occupied c).trans (h1.occupied c), fun g => (h2.sub g).trans (h1.sub g),
      fun c hc f hf hmem => ?_⟩
    rcases List.mem_cons.mp hc with hz | hzs
    · exact h1.left c (List.mem_singleton.mpr hz) f hf ((h2.sub _).subset hmem)
    · refine h2.left c hzs f (by rw [h1.occupied]; exact hf) ?_
      rw [h1.couple]; exact hmem
/-- The state with the new map and relations, before its increments. -/
def recoupled (x : Groups) (s : State) : State := { s with couple := x.couple, rels := x.rels }
theorem sane_recoupled (x : Groups) (s : State) : Sane q false s (recoupled x s) :=
  ⟨rfl, le_rfl, rfl, id, id, id, fun _ => id, id, fun h => noClean h, fun _ => id⟩
theorem foldl_bumpGen (gs : List Group) (s : State) : let t := gs.foldl (fun s g => bumpGen g s) s
    t.couple = s.couple ∧ (∀ c, t.chan c = s.chan c) ∧ ∀ h, t.poolFreqs h = s.poolFreqs h := by
  induction gs generalizing s with
  | nil => exact ⟨rfl, fun _ => rfl, fun _ => rfl⟩
  | cons g gs ih =>
    obtain ⟨h1, h2, h3⟩ := ih (bumpGen g s)
    exact ⟨h1.trans (couple_bumpGen g s), fun c => (h2 c).trans (chan_bumpGen g s c), fun h => (h3 h).trans (poolFreqs_bumpGen s g h)⟩
theorem run_applyGroups (h : ReqHdr) (x : Groups) (s : State) : Run q s (applyGroups h x s) := by
  refine Run.trans (t := (s.regrouped x).foldl (fun s z => regroupStage z s)
    ((s.groupBumps x).foldl (fun s g => bumpGen g s) (recoupled x s))) ?_ (run_replyOk _ _ _ _)
  have hrest : Run q (recoupled x s) ((s.regrouped x).foldl (fun s z => regroupStage z s)
      ((s.groupBumps x).foldl (fun s g => bumpGen g s) (recoupled x s))) :=
    (run_foldl (fun s g => run_bumpGen s g) _ _).trans (run_foldl (fun s z => run_regroupStage z s) _ _)
  obtain ⟨b1, b2, b3⟩ := foldl_bumpGen (s.groupBumps x) (recoupled x s)
  have hreg := regrouped_all (s.regrouped x) ((s.groupBumps x).foldl (fun s g => bumpGen g s) (recoupled x s))
  generalize (s.groupBumps x).foldl (fun s g => bumpGen g s) (recoupled x s) = s2 at b1 b2 b3 hreg hrest ⊢
  generalize (s.regrouped x).foldl (fun s z => regroupStage z s) s2 = t at hreg hrest ⊢
  have hcouple : t.couple = x.couple := hreg.couple.trans b1
  have hocc : ∀ c, (t.chan c).occupied = (s.chan c).occupied := fun c => by rw [hreg.occupied, b2]; rfl
  have hsub : ∀ g, (t.poolFreqs g).Sublist (s.poolFreqs g) := fun g => (b3 g) ▸ hreg.sub g
  refine ⟨(sane_recoupled x s).trans hrest.sane, fun hs => hrest.sound hs, fun _ hc => ?_⟩
  rw [poolsClean_iff] at hc ⊢
  refine fun g => ⟨(hsub g).nodup (hc g).1, fun f hf => Bool.eq_false_iff.mpr fun ho => ?_⟩
  obtain ⟨c, hg, hmem⟩ := occupiedIn_iff.mp ho
  rw [hocc] at hmem
  have hnew : x.couple[c.stage] = g := by rw [← hg, State.groupOf, hcouple]
  by_cases hz : s.couple[c.stage] = x.couple[c.stage]
  · have := (hc g).2 f ((hsub g).subset hf)
    rw [occupiedIn_iff.mpr ⟨c, hz.trans hnew, hmem⟩] at this
    cases this
  · refine hreg.left c (List.mem_filter.mpr ⟨List.mem_finRange _, decide_eq_true hz⟩) f (by rw [b2]; exact hmem) ?_
    rw [b1]
    change f ∈ t.poolFreqs x.couple[c.stage]
    rw [hnew]; exact hf
theorem run_setGroups (h : ReqHdr) (gs rs : List Nat) (s : State) : Run q s (setGroups h gs rs s) := by
  unfold setGroups
  dsimp only
  split
  · exact run_ite (fun _ => run_refuse s _ _ _) fun _ => run_deferOr (run_applyGroups _ _ s)
  · exact run_refuse s _ _ _

/-! ## The rules and the surveys (R45, R180) -/

theorem run_applyRules (h : ReqHdr) (new : Rules) (s : State) : Run q s (applyRules h new s) := by
  unfold applyRules
  dsimp only
  have hbump := (run_rules (q := q) s new).trans (run_foldl (fun s g => run_bumpGen s g) (ruleBumps s.rules new) _)
  refine (hbump.trans ?_).trans (run_replyOk _ _ _ _)
  exact run_ite (fun _ => Run.refl _) fun _ => run_reflagAll _ _
theorem run_setRules (h : ReqHdr) (xs : List Setting) (s : State) : Run q s (setRules h xs s) := by
  unfold setRules
  split
  · exact run_deferOr (run_applyRules _ _ s)
  · exact run_refuse s _ _ _
theorem run_orderSurvey (h : ReqHdr) (st a b c p n : Nat) (s : State) : Run q s (orderSurvey h st a b c p n s) := by
  unfold orderSurvey
  dsimp only
  split
  · exact run_ite (fun _ => run_refuse s _ _ _) fun _ => run_ite (fun _ => run_refuse s _ _ _) fun _ =>
      (((run_surveys s _).trans (run_surveyBegins _ _)).trans (run_replyOk _ _ _ _)).trans (run_sendSurvey _ _ _)
  · exact run_refuse s _ _ _

/-! ## Set changes, confirm mode and reads -/

theorem run_stageChannel (h : ReqHdr) (st sl k : Nat) (o : StagedOps) (s : State) : Run q s (stageChannel h st sl k o s) := by
  unfold stageChannel
  split
  · exact run_ite (fun _ => run_refuse s _ _ _) fun _ => run_ite (fun _ => run_refuse s _ _ _) fun _ =>
      (run_setStaged s _ _).trans (run_replyOk _ _ _ _)
  · exact run_refuse s _ _ _
theorem run_commitStage (h : ReqHdr) (st : Nat) (s : State) : Run q s (commitStage h st s) := by
  unfold commitStage
  split
  next z _ =>
    refine run_ite (fun _ => run_refuse s _ _ _) fun hb => ?_
    simp only [Bool.or_eq_true, Option.isSome_iff_ne_none, Bool.not_eq_true', not_or, not_not, Bool.not_eq_false] at hb
    refine (run_replyOk s h 0x11 []).trans (run_startCommit (fun _ => ?_) (.inl ?_))
    · have hc : (replyOk h 0x11 [] s).commits = s.commits := by rw [replyOk, reply, route_changes]
      rw [State.commitRec, hc]; exact hb.1
    · exact (up_route _ s _).trans hb.2
  · exact run_refuse s _ _ _
theorem run_armStage (h : ReqHdr) (st v : Nat) (s : State) : Run q s (armStage h st v s) := by
  unfold armStage
  split
  next z b _ _ =>
    refine ((run_arm s (s.arm.set z b)).trans ?_).trans (run_replyOk _ _ _ _)
    exact run_ite (fun _ => Run.refl _) fun _ => run_cancelWait _ _
  · exact run_refuse s _ _ _
theorem run_goChannel (h : ReqHdr) (st sl : Nat) (s : State) : Run q s (goChannel h st sl s) := by
  unfold goChannel
  split
  next c _ =>
    split
    next e he =>
      refine run_ite (fun hp => (run_sendEntry fun _ e' he' => ?_).trans (run_replyOk _ _ _ _)) fun _ => run_reply s _ _ _ _ _
      rw [he] at he'
      obtain rfl := Option.some.inj he'
      rw [hp]; exact EntryState.noConfusion
    · exact run_refuse s _ _ _
  · exact run_refuse s _ _ _
/-- A search under way is dropped with its request (R176). -/
theorem run_dropSearch {c : Chan} {e : Entry} {s : State} (he : s.entryOf c = some e) (hs : e.state = .searching) :
    Run q s ((withdrawMove c s).dropEntry c) := by
  refine Run.of_sound ((run_withdrawMove c s).sane.trans (sane_dropEntry _ c)) fun hsound => ?_
  refine (run_withdrawMove c s).trans (run_dropEntry fun _ => ?_)
  have hplace := place_withdrawMove c s c
  rw [if_pos rfl] at hplace
  have hmoves : (withdrawMove c s).movesAt c = [] := by rw [← place_moves, hplace]
  have hstate : ((withdrawMove c s).chan c).state = (s.chan c).state := by rw [← seat_state, ← place_seat, hplace]; rfl
  refine ⟨hmoves, fun hm => ?_⟩
  rw [hstate] at hm
  rcases hsound.searching_state he hs with h | h <;> rw [h] at hm <;> cases hm
theorem run_dropChannel (h : ReqHdr) (st sl : Nat) (s : State) : Run q s (dropChannel h st sl s) := by
  unfold dropChannel
  split
  next c _ =>
    split
    next e he =>
      have hc := entryOf_chan he
      split
      next hp =>
        exact (run_endProposal (by rw [hc]; exact he) (by rw [hp]; exact EntryState.noConfusion)).trans (run_replyOk _ _ _ _)
      next hp => exact (run_dropSearch he hp).trans (run_replyOk _ _ _ _)
      · exact run_reply s _ _ _ _ _
      · exact run_reply s _ _ _ _ _
    · exact run_refuse s _ _ _
  · exact run_refuse s _ _ _
theorem entryOf_sendEntry (c d : Chan) (s : State) :
    (sendEntry c s).entryOf d = if d = c then (s.entryOf d).map (Entry.sent s.now) else s.entryOf d := by
  cases he : s.entryOf c with
  | none =>
    rw [sendEntry_none he]
    split
    next hd => rw [hd, he]; rfl
    · rfl
  | some e =>
    have hc := entryOf_chan he
    have hput : (sendEntry c s).entryOf d = (s.putEntry (e.sent s.now)).entryOf d := by
      rcases sendEntry_some he with heq | ⟨t, heq⟩
      · rw [heq]
      · rw [heq, sendTune, State.entryOf, originate_table]; rfl
    rw [hput]
    split
    next hd =>
      rw [hd, he, ← hc]
      exact entryOf_putEntry_same (by rw [hc]; exact he) rfl
    next hd => exact entryOf_putEntry_other s (by change d ≠ e.chan; rw [hc]; exact hd)
theorem run_sendAll (es : List Entry) {s : State}
    (h : ∀ e ∈ es, ∀ x, s.entryOf e.chan = some x → x.state ≠ .searching) :
    Run q s (es.foldl (fun s e => sendEntry e.chan s) s) := by
  induction es generalizing s with
  | nil => exact Run.refl s
  | cons e es ih =>
    refine (run_sendEntry fun _ => h e List.mem_cons_self).trans (ih fun y hy x hx => ?_)
    rw [entryOf_sendEntry] at hx
    split at hx
    · obtain ⟨w, -, rfl⟩ := Option.map_eq_some_iff.mp hx
      exact EntryState.noConfusion
    · exact h y (List.mem_cons_of_mem e hy) x hx
theorem run_goAll (h : ReqHdr) (s : State) : Run q s (goAll h s) := by
  unfold goAll
  dsimp only
  refine Run.trans ?_ (run_replyOk _ _ _ _)
  refine Run.of_sound (sane_foldl (fun s (e : Entry) => sane_sendEntry e.chan s) _ s) fun hs => run_sendAll _ fun e he x hx => ?_
  obtain ⟨hmem, hp⟩ := List.mem_filter.mp he
  obtain rfl := eq_of_entryOf hs.unique.1 hx hmem rfl
  rw [of_decide_eq_true hp]; exact EntryState.noConfusion
theorem run_readExclusions (h : ReqHdr) (n : Nat) (s : State) : Run q s (readExclusions h n s) := run_replyOk s _ _ _
theorem run_readPool (h : ReqHdr) (g : Nat) (s : State) : Run q s (readPool h g s) := by
  unfold readPool
  dsimp only
  split
  · exact run_replyOk s _ _ _
  · exact run_refuse s _ _ _
theorem run_readProfile (h : ReqHdr) (n : Nat) (s : State) : Run q s (readProfile h n s) := by
  unfold readProfile
  dsimp only
  split
  · exact run_replyOk s _ _ _
  · exact run_refuse s _ _ _
theorem run_readEvents (h : ReqHdr) (n : Nat) (s : State) : Run q s (readEvents h n s) := by
  unfold readEvents
  split
  · refine Run.trans ?_ (run_replyOk _ _ _ _)
    exact run_ite (fun _ => run_latches s _) fun _ => Run.refl s
  · exact run_refuse s _ _ _
theorem run_readCounters (h : ReqHdr) (n m : Nat) (s : State) : Run q s (readCounters h n m s) := by
  unfold readCounters
  split
  · refine Run.trans ?_ (run_replyOk _ _ _ _)
    exact run_ite (fun _ => run_zeroCounters s) fun _ => Run.refl s
  · exact run_refuse s _ _ _
theorem run_identify (h : ReqHdr) (s : State) : Run q s (identify h s) := run_replyOk s _ _ _

end Sys2Proof.Machine
end

section
/-! RESTART keeps what `Run` says and leaves no item (R194). -/

namespace Sys2Proof.Machine

variable {q : Bool}

/-- A fold keeps what each of its steps keeps. -/
theorem foldl_keeps {α β : Type} {f : State → α → State} (g : State → β) (h : ∀ s a, g (f s a) = g s) (xs : List α)
    (s : State) : g (xs.foldl f s) = g s := by
  induction xs generalizing s with
  | nil => rfl
  | cons x xs ih => exact (ih _).trans (h s x)

/-! ## Step 1: the Engine -/

/-- The Engine with no request, no service and no deferred request. -/
def Engine.idle : Engine := ⟨[], [], [], [], none, []⟩
theorem run_idle (s : State) : Run q s { s with engine := Engine.idle } :=
  run_moves s (sane_engine (fun _ => Nat.zero_le _) (fun _ => Nat.zero_le _) (fun _ _ => List.nodup_nil)
    fun _ => List.nil_sublist _) fun _ => ⟨List.nil_sublist _, rfl⟩
theorem run_cut (a : AdmReq) (s : State) : Run q s (a.cut s) := by
  cases a with
  | oper o => exact run_operReply o _ _ _ s
  | whatIf h x f => exact run_refuse s _ _ _
  | guard c f => exact Run.refl s
  | post c f k => exact Run.refl s
theorem reply_changes (h : ReqHdr) (code : Nat) (st : Status) (k : Nat) (x : List Byte) (s : State) : reply h code st k x s =
    { s with
      trunk := (reply h code st k x s).trunk, stagePorts := (reply h code st k x s).stagePorts
      trunkDiscards := (reply h code st k x s).trunkDiscards } := route_changes _ s
theorem cut_changes (a : AdmReq) (s : State) : a.cut s =
    { s with trunk := (a.cut s).trunk, stagePorts := (a.cut s).stagePorts, trunkDiscards := (a.cut s).trunkDiscards } := by
  cases a with
  | oper o => exact reply_changes _ _ _ _ _ s
  | whatIf h x f => exact reply_changes _ _ _ _ _ s
  | guard c f => rfl
  | post c f k => rfl
theorem refuse_changes (h : ReqHdr) (code : Nat) (st : Status) (s : State) : refuse h code st s =
    { s with trunk := (refuse h code st s).trunk, stagePorts := (refuse h code st s).stagePorts
             trunkDiscards := (refuse h code st s).trunkDiscards } := reply_changes _ _ _ _ _ s
theorem run_restartEngine (s : State) : Run q s (restartEngine s) :=
  ((run_idle s).trans (run_foldl (fun s (_ : Deferred) => run_refuse s _ _ _) _ _)).trans
    (run_foldl (fun s a => run_cut a s) _ _)
theorem engine_restartEngine (s : State) : (restartEngine s).engine = Engine.idle := by
  unfold restartEngine
  dsimp only
  rw [foldl_keeps State.engine fun s a => by rw [cut_changes], foldl_keeps State.engine fun s a => by rw [refuse_changes]]
  rfl

/-! ## Step 2: the moves -/

theorem sane_restartEntry (s : State) (e : Entry) : Sane q true s (restartEntry s e) := by
  unfold restartEntry
  split
  · exact Sane.refl s
  · exact sane_release s _
  · exact sane_goDark _ s
  · exact sane_goDark _ s
theorem sane_restartItem (s : State) (i : Item) : Sane q true s (restartItem s i) := by
  unfold restartItem
  split
  · exact sane_goDark _ s
  · exact Sane.refl s
  · exact Sane.refl s
/-- No entry, item, held frame or note is left. -/
def cleared (s : State) : State := { s with table := [], backlog := [], heldFrames := [], notes := [] }
theorem restartMoves_eq (s : State) :
    restartMoves s = cleared ((s.table.foldl restartEntry s).backlog.foldl restartItem (s.table.foldl restartEntry s)) := rfl
theorem sane_cleared (s : State) : Sane q true s (cleared s) :=
  ⟨rfl, le_rfl, rfl, id, fun ⟨_, h2, h3, _, h5⟩ => ⟨Nat.zero_le _, h2, h3, Nat.zero_le _, h5⟩,
    fun _ => ⟨List.nodup_nil, List.nodup_nil, (fun _ h => nomatch h), Nat.zero_le _⟩, fun _ => id, id, fun _ => id, fun _ => id⟩
theorem sane_restartMoves (s : State) : Sane q true s (restartMoves s) := by
  rw [restartMoves_eq]
  exact ((sane_foldl sane_restartEntry _ s).trans (sane_foldl sane_restartItem _ _)).trans (sane_cleared _)

/-- Every record has its shape, and the move of every MOVING channel has one of the entries or items still to go. -/
structure Unwinding (es : List Entry) (is : List Item) (s : State) : Prop where
  shaped : ∀ c, (s.chan c).shaped = true
  moving : ∀ e ∈ es, e.state ≠ .searching → (s.chan e.chan).state = .moving
  owned : ∀ c, (s.chan c).state = .moving → (∃ e ∈ es, e.chan = c ∧ e.state ≠ .searching) ∨ ∃ i ∈ is, i.chan = c ∧ i.want = .push
theorem unwinding_of_sound {s : State} (h : Sound s) : Unwinding s.table s.backlog s where
  shaped := h.shaped
  moving := fun e he hs => by
    have hst := (h.1 e.chan).stand e (mem_entriesAt.mpr ⟨he, rfl⟩)
    exact ((stands_moving hs).mp hst).1
  owned := fun c hm => by
    rcases (h.1 c).owned hm with ⟨e, he, hs⟩ | ⟨i, hi, hw⟩
    · exact .inl ⟨e, (mem_entriesAt.mp he).1, (mem_entriesAt.mp he).2, hs⟩
    · exact .inr ⟨i, (mem_itemsAt.mp hi).1, (mem_itemsAt.mp hi).2, hw⟩
/-- The record of a channel changes to one that is not MOVING. -/
theorem Unwinding.settle {es es' : List Entry} {is is' : List Item} {s t : State} (h : Unwinding es is s) {c : Chan}
    (hother : ∀ d, d ≠ c → (t.chan d).seat = (s.chan d).seat) (hshaped : (t.chan c).shaped = true)
    (hstate : (t.chan c).state ≠ .moving) (hsub : ∀ e ∈ es', e ∈ es) (hnew : ∀ e ∈ es', e.state ≠ .searching → e.chan ≠ c)
    (hes : ∀ e ∈ es, e.chan ≠ c → e ∈ es') (his : ∀ i ∈ is, i.chan ≠ c → i ∈ is') : Unwinding es' is' t where
  shaped := fun d => by
    by_cases hd : d = c
    · rw [hd]; exact hshaped
    · rw [← seat_shaped, hother d hd]; exact h.shaped d
  moving := fun e he hs => by rw [← seat_state, hother _ (hnew e he hs)]; exact h.moving e (hsub e he) hs
  owned := fun d hm => by
    by_cases hd : d = c
    · rw [hd] at hm; exact absurd hm hstate
    · rw [← seat_state, hother d hd] at hm
      rcases h.owned d hm with ⟨e, he, hc, hs⟩ | ⟨i, hi, hc, hw⟩
      · exact .inl ⟨e, hes e he (by rw [hc]; exact hd), hc, hs⟩
      · exact .inr ⟨i, his i hi (by rw [hc]; exact hd), hc, hw⟩
theorem seat_modChan_other (s : State) (c : Chan) (f : ChanRec → ChanRec) (d : Chan) (hd : d ≠ c) :
    ((s.modChan c f).chan d).seat = (s.chan d).seat := by rw [chan_modChan, if_neg hd]
theorem seat_release_other (s : State) (c d : Chan) (hd : d ≠ c) : ((release c s).chan d).seat = (s.chan d).seat := by
  have h := place_release s c d
  rw [if_neg hd] at h
  rw [← place_seat, h]; rfl
theorem unwinding_entry {e : Entry} {es : List Entry} {is : List Item} {s : State} (hn : ((e :: es).map (·.chan)).Nodup)
    (h : Unwinding (e :: es) is s) : Unwinding es is (restartEntry s e) := by
  rw [List.map_cons, List.nodup_cons] at hn
  have hne : ∀ x ∈ es, x.chan ≠ e.chan := fun x hx hc => hn.1 (List.mem_map.mpr ⟨x, hx, hc⟩)
  have hrest : ∀ x ∈ e :: es, x.chan ≠ e.chan → x ∈ es := fun x hx hc =>
    (List.mem_cons.mp hx).resolve_left fun hxe => hc (by rw [hxe])
  cases hs : e.state with
  | searching =>
    have heq : restartEntry s e = s := by simp [restartEntry, hs]
    rw [heq]
    refine ⟨h.shaped, fun x hx => h.moving x (List.mem_cons_of_mem e hx), fun c hm => (h.owned c hm).imp (fun ⟨x, hx, hc, hxs⟩ => ?_) id⟩
    refine ⟨x, (List.mem_cons.mp hx).resolve_left fun hxe => hxs (by rw [hxe, hs]), hc, hxs⟩
  | proposed =>
    have hm := h.moving e List.mem_cons_self (by rw [hs]; exact EntryState.noConfusion)
    have heq : restartEntry s e = release e.chan s := by simp [restartEntry, hs]
    have hseat := seat_release e.chan s
    rw [heq]
    refine h.settle (seat_release_other s e.chan) ?_ ?_ (fun x hx => List.mem_cons_of_mem e hx) (fun x hx _ => hne x hx) hrest
      fun i hi _ => hi
    · rw [← seat_shaped, hseat]; exact shaped_release (h.shaped _) hm
    · rw [← seat_state, hseat]; exact release_not_moving (h.shaped _) hm
  | sent | locking =>
    have heq : restartEntry s e = s.modChan e.chan ChanRec.goDark := by simp [restartEntry, hs]
    obtain ⟨hshaped, hstate⟩ := shaped_goDark (h.shaped e.chan)
    rw [heq]
    refine h.settle (seat_modChan_other s e.chan _) ?_ ?_ (fun x hx => List.mem_cons_of_mem e hx) (fun x hx _ => hne x hx) hrest
      fun i hi _ => hi
    · rw [chan_modChan, if_pos rfl]; exact hshaped
    · rw [chan_modChan, if_pos rfl]; exact hstate
theorem unwinding_entries (es : List Entry) {is : List Item} {s : State} (hn : (es.map (·.chan)).Nodup)
    (h : Unwinding es is s) : Unwinding [] is (es.foldl restartEntry s) := by
  induction es generalizing s with
  | nil => exact h
  | cons e es ih => exact ih (List.nodup_cons.mp hn).2 (unwinding_entry hn h)
theorem unwinding_items (is : List Item) {s : State} (h : Unwinding [] is s) : Unwinding [] [] (is.foldl restartItem s) := by
  induction is generalizing s with
  | nil => exact h
  | cons i is ih =>
    refine ih ?_
    have hsame : i.want ≠ .push → Unwinding [] is s := fun hw =>
      ⟨h.shaped, (fun _ hx => nomatch hx), fun c hm => (h.owned c hm).imp (fun ⟨_, hx, _⟩ => (nomatch hx)) fun ⟨x, hx, hc, hxw⟩ =>
        ⟨x, (List.mem_cons.mp hx).resolve_left fun hxi => hw (by rw [← hxi]; exact hxw), hc, hxw⟩⟩
    cases hw : i.want with
    | push =>
      have heq : restartItem s i = s.modChan i.chan ChanRec.goDark := by simp [restartItem, hw]
      obtain ⟨hshaped, hstate⟩ := shaped_goDark (h.shaped i.chan)
      rw [heq]
      refine h.settle (seat_modChan_other s i.chan _) ?_ ?_ (fun _ hx => nomatch hx) (fun _ hx => nomatch hx)
        (fun _ hx => nomatch hx) fun x hx hc => (List.mem_cons.mp hx).resolve_left fun hxi => hc (by rw [hxi])
      · rw [chan_modChan, if_pos rfl]; exact hshaped
      · rw [chan_modChan, if_pos rfl]; exact hstate
    | search | ret =>
      have heq : restartItem s i = s := by simp [restartItem, hw]
      rw [heq]; exact hsame (by rw [hw]; exact Want.noConfusion)
theorem backlog_restartEntry (s : State) (e : Entry) : (restartEntry s e).backlog = s.backlog := by
  unfold restartEntry
  split <;> rfl
theorem engine_restartMoves (s : State) : (restartMoves s).engine = s.engine := by
  have h1 : ∀ s e, (restartEntry s e).engine = s.engine := fun s e => by unfold restartEntry; split <;> rfl
  have h2 : ∀ s i, (restartItem s i).engine = s.engine := fun s i => by unfold restartItem; split <;> rfl
  rw [restartMoves_eq]
  exact (foldl_keeps State.engine h2 _ _).trans (foldl_keeps State.engine h1 _ _)
/-- The restart's moves end on an Engine without requests. -/
theorem run_restartMoves {s : State} (hm : s.engine.moveQ = []) : Run q s (restartMoves s) := by
  refine .of_sane (sane_restartMoves s) fun hs => ?_
  have hun := unwinding_items _ (unwinding_entries s.table hs.unique.1 (unwinding_of_sound hs))
  have hback : (s.table.foldl restartEntry s).backlog = s.backlog := foldl_keeps State.backlog backlog_restartEntry _ _
  rw [← hback] at hun
  refine ⟨fun c => place_idle rfl (Nat.zero_le _) ?_ (hun.shaped c) fun hmv => ?_, Nat.zero_le _⟩
  · change (restartMoves s).engine.moveQ.filter _ = []
    rw [engine_restartMoves, hm]; rfl
  · rcases hun.owned c hmv with ⟨_, he, _⟩ | ⟨_, hi, _⟩
    · cases he
    · cases hi

/-! ## Step 2: the commits -/

theorem still_abortCommit (z : Stage) (s : State) : Still s (abortCommit z s).2 := by
  unfold abortCommit
  split
  next r hr =>
    have hw : Still s (withdrawCommit z s) := by
      rw [withdrawCommit_changes]; exact ⟨rfl, rfl, rfl, rfl⟩
    exact (hw.trans (still_keepSlots _ z _)).trans (still_setCommit _ z .idle)
  · exact Still.refl s
theorem still_cancelWait (z : Stage) (s : State) : Still s (cancelWait z s) := by
  unfold cancelWait
  split
  · exact still_setCommit s z .idle
  · exact Still.refl s
/-- One stage's part of the restart's commits. -/
def restartCommit (acc : List (Stage × CommitRec) × State) (z : Stage) : List (Stage × CommitRec) × State :=
  match abortCommit z acc.2 with
  | (some r, s1) => (acc.1 ++ [(z, r)], s1)
  | (none, s1) => (acc.1, cancelWait z s1)
theorem run_restartCommit (acc : List (Stage × CommitRec) × State) (z : Stage) :
    Run q acc.2 (restartCommit acc z).2 ∧ Still acc.2 (restartCommit acc z).2 := by
  have h1 := run_abortCommit (q := q) z acc.2
  have h2 := still_abortCommit z acc.2
  unfold restartCommit
  split
  next r s1 hs => rw [hs] at h1 h2; exact ⟨h1, h2⟩
  next s1 hs => rw [hs] at h1 h2; exact ⟨h1.trans (run_cancelWait _ _), h2.trans (still_cancelWait _ _)⟩
theorem run_restartCommits (s : State) : Run q s (restartCommits s).2 ∧ Still s (restartCommits s).2 := by
  have h : ∀ (zs : List Stage) (acc : List (Stage × CommitRec) × State),
      Run q acc.2 (zs.foldl restartCommit acc).2 ∧ Still acc.2 (zs.foldl restartCommit acc).2 := by
    intro zs
    induction zs with
    | nil => exact fun acc => ⟨Run.refl _, Still.refl _⟩
    | cons z zs ih =>
      intro acc
      obtain ⟨h1, h2⟩ := run_restartCommit (q := q) acc z
      obtain ⟨g1, g2⟩ := ih (restartCommit acc z)
      exact ⟨h1.trans g1, h2.trans g2⟩
  exact h _ ([], s)

/-! ## Steps 3 to 6 -/

theorem chan_mapChans (f : ChanRec → ChanRec) (s : State) (c : Chan) :
    State.chan { s with chans := s.chans.map f } c = f (s.chan c) := by simp [State.chan]
theorem fair_rewatched (s : State) (r : ChanRec) : r.Fair s.profiles (r.rewatched s) := by
  unfold ChanRec.rewatched
  split
  next h => exact fair_armed id id (freshWatch_cases s _) fun _ => h.imp id .inl
  · exact fair_off rfl rfl rfl
theorem run_rewatched (s : State) : Run q s { s with chans := s.chans.map (ChanRec.rewatched s) } := by
  refine .of_same (sane_chans (fun c => ?_) fun _ c => ?_) fun c => ?_
  · rw [chan_mapChans]; exact fair_rewatched s _
  · rw [chan_mapChans]; exact List.Subset.refl _
  · have h := chan_mapChans (ChanRec.rewatched s) s c
    simp only [State.place]
    rw [h]; rfl
/-- The pools, the latches and the counters after the restart. -/
def recounted (n : Nat) (s : State) : State :=
  { s with
    pools := s.pools.map fun p => p.map PoolEntry.restarted, latches := Vector.replicate 16 false
    counters := Vector.replicate 6 StageCounters.zero, trunkDiscards := 0, heldDiscards := min n 255 }
theorem pool_recounted (n : Nat) (s : State) (g : Group) : (recounted n s).pool g = (s.pool g).map PoolEntry.restarted := by
  simp [recounted, State.pool]
theorem run_recounted (n : Nat) (s : State) : Run q s (recounted n s) := by
  refine .of_same ⟨rfl, le_rfl, rfl, fun ⟨_, _, _, h⟩ => ⟨bounded_zero, Nat.zero_le _, Nat.min_le_right _ _, h⟩,
    fun ⟨h1, h2, h3, h4, h5, h6, h7⟩ => ⟨h1, h2, h3, h4, h5, h6, fun g => ?_⟩, id, fun _ => id, id,
    fun _ => poolsClean_congr (fun g => ?_) rfl rfl, fun _ => id⟩ fun _ => rfl
  · rw [pool_recounted, List.length_map]; exact h7 g
  · rw [State.poolFreqs, pool_recounted, List.map_map]; rfl
theorem run_restartRecords (n : Nat) (s : State) : Run q s (restartRecords n s) := (run_rewatched s).trans (run_recounted n _)
theorem run_restartNotices (es : List Entry) (rs : List (Stage × CommitRec)) (vs : Vector (Option Survey) 6) (s : State) :
    Run q s (restartNotices es rs vs s) := by
  refine ((run_foldl (fun s _ => run_notifyChan s _ _ _) es s).trans
    ((run_foldl (fun s _ => run_notifyCommit _ _ _ s) rs _).trans ((run_foldl (fun s z => ?_) _ _).trans
      (run_foldl (fun s z => run_ite (fun _ => run_sendStanding z s) fun _ => Run.refl s) _ _))))
  split
  · exact run_notifySurvey _ _ _ s
  · exact Run.refl s
theorem still_originate (a : Addr) (k : Byte) (x : List Byte) (s : State) : Still s (originate a k x s) :=
  Still.trans (t := { s with originSeq := (s.originSeq + 1) % 256 }) ⟨rfl, rfl, rfl, rfl⟩ (still_route _ _)
theorem still_restartNotices (es : List Entry) (rs : List (Stage × CommitRec)) (vs : Vector (Option Survey) 6) (s : State) :
    Still s (restartNotices es rs vs s) := by
  refine ((still_foldl (fun s _ => still_notify s _ _ _ _) es s).trans
    ((still_foldl (fun s _ => still_notify s _ _ _ _) rs _).trans ((still_foldl (fun s z => ?_) _ _).trans
      (still_foldl (fun s z => still_ite (still_originate _ _ _ s) (Still.refl s)) _ _))))
  split
  · exact still_notify s _ _ _ _
  · exact Still.refl s
/-- The restart up to its notices. -/
def restartCore (s : State) : State :=
  restartRecords s.heldFrames.length { (restartCommits (restartMoves (restartEngine s))).2 with surveys := Vector.replicate 6 none }
theorem restartStep_eq (s : State) : restartStep s = queueRechecks (restartNotices s.table
    (restartCommits (restartMoves (restartEngine s))).1 s.surveys (restartCore s)) := by
  unfold restartStep restartCore
  dsimp only
theorem run_restartCore (s : State) : Run q s (restartCore s) := by
  have hm : (restartEngine s).engine.moveQ = [] := by rw [engine_restartEngine]; rfl
  exact (((run_restartEngine s).trans (run_restartMoves hm)).trans (run_restartCommits _).1).trans
    ((run_surveys _ _).trans (run_restartRecords _ _))
theorem backlog_restartRecords (n : Nat) (s : State) : (restartRecords n s).backlog = s.backlog := rfl
theorem backlog_cleared (s : State) : (cleared s).backlog = [] := rfl
theorem backlog_restartCore (s : State) : (restartCore s).backlog = [] := by
  rw [restartCore, backlog_restartRecords]
  have hclear : (restartMoves (restartEngine s)).backlog = [] := by rw [restartMoves_eq, backlog_cleared]
  generalize restartMoves (restartEngine s) = x at hclear ⊢
  obtain ⟨-, hstill⟩ := run_restartCommits (q := false) x
  have hback := hstill.backlog
  generalize (restartCommits x).2 = y at hback ⊢
  exact hback.trans hclear
theorem run_restartStep (s : State) : Run q s (restartStep s) := by
  rw [restartStep_eq]
  exact ((run_restartCore s).trans (run_restartNotices _ _ _ _)).trans (run_queueRechecks _)
theorem standing_of_nil {s : State} (h : s.backlog = []) : Standing s := fun i hi => by rw [h] at hi; cases hi
theorem standing_restartStep (s : State) : Standing (restartStep s) := by
  rw [restartStep_eq]
  exact (standing_of_nil (backlog_restartCore s)).of_still ((still_restartNotices _ _ _ _).trans (still_queueRechecks _))
theorem run_restartDevice (h : ReqHdr) (s : State) : Run q s (restartDevice h s) :=
  (run_replyOk s _ _ _).trans (run_restartStep _)

end Sys2Proof.Machine
end

section
/-! The end of a change, the completions and the expiries keep what `Run` says, and leave only items that stand
(R48, R56, R57, R105 to R181). -/

namespace Sys2Proof.Machine

variable {q : Bool}

/-! ## The deferred list (R56) -/

theorem run_permit {h : ReqHdr} {req : Request} {f : State → State} {s : State} (hf : Run q s (f s)) :
    Run q s (permit h req f s) := by
  unfold permit
  split
  · exact run_refuse s _ _ _
  · exact hf
theorem run_applyOne (d : Deferred) (s : State) : Run q s (applyOne d s) := by
  unfold applyOne
  refine run_permit ?_
  split
  · exact run_setGroups _ _ _ s
  · exact run_addExclusion _ _ _ _ s
  · exact run_setRules _ _ s
  · exact run_writeChannel _ _ _ _ _ _ _ _ s
  · exact Run.refl s
/-- The deferred list is taken out. -/
def undeferred (s : State) : State := { s with engine := { s.engine with deferred := [] } }
theorem run_undeferred (s : State) : Run q s (undeferred s) :=
  .of_same (sane_engine id (fun _ => Nat.zero_le _) (fun _ => id) fun _ => List.Sublist.refl _) fun _ => rfl
theorem applyDeferred_eq (s : State) : applyDeferred s = if s.engine.service.isSome then s
    else s.engine.deferred.foldl (fun s d => closeChange s (applyOne d s)) (undeferred s) := rfl
theorem run_applyDeferred (s : State) : Run q s (applyDeferred s) := by
  rw [applyDeferred_eq]
  exact run_ite (fun _ => Run.refl s) fun _ => (run_undeferred s).trans
    (run_foldl (fun s d => (run_applyOne d s).trans (run_closeChange s _)) _ _)
theorem standing_foldl {α : Type} {f : State → α → State} (h : ∀ s a, Standing (f s a)) (xs : List α) {s : State}
    (hs : Standing s) : Standing (xs.foldl f s) := by
  induction xs generalizing s with
  | nil => exact hs
  | cons x xs ih => exact ih (h s x)
theorem standing_applyDeferred {s : State} (h : Standing s) : Standing (applyDeferred s) := by
  rw [applyDeferred_eq]
  split
  · exact h
  · refine standing_foldl (fun s d => ?_) _ (h.of_still (still_engine s _))
    exact standing_closeChange s _

/-! ## The MOVE request in service -/

theorem head_move {s : State} {m : MoveReq} (h : s.head .move = some (.move m)) : s.engine.moveQ.head? = some m := by
  obtain ⟨x, hx, hxm⟩ := Option.map_eq_some_iff.mp h
  obtain rfl : x = m := by injection hxm
  exact hx
/-- In a sound state the oldest MOVE request is its channel's only one, and its entry is SEARCHING. -/
theorem Sound.head_move {s : State} (hs : Sound s) {m : MoveReq} (h : s.head .move = some (.move m)) :
    s.movesAt m.chan = [m] ∧ ∃ e, s.entryOf m.chan = some e ∧ e.state = .searching := by
  have hmem : m ∈ s.movesAt m.chan := mem_movesAt.mpr ⟨List.mem_of_head? (Machine.head_move h), rfl⟩
  have hone : (s.movesAt m.chan).length ≤ 1 := (hs.1 m.chan).asks
  obtain ⟨x, hx⟩ := List.length_eq_one_iff.mp (le_antisymm hone (List.length_pos_of_mem hmem))
  rw [hx, List.mem_singleton] at hmem
  refine ⟨by rw [hx, hmem], ?_⟩
  obtain ⟨e, he, hse⟩ := (hs.1 m.chan).searching (by rw [place_moves, hx]; exact List.cons_ne_nil _ _)
  cases hentry : s.entryOf m.chan with
  | none => rw [place_entries, (entryOf_eq_none_iff s _).mp hentry] at he; cases he
  | some y =>
    rw [place_entries, (hs.entriesAt_eq hentry).1, List.mem_singleton] at he
    exact ⟨y, rfl, by rw [← he]; exact hse⟩
theorem movesAt_leaveHead {s : State} (hs : Sound s) {m : MoveReq} (h : s.head .move = some (.move m)) :
    (leaveHead .move s).movesAt m.chan = [] := by
  have hp := place_leaveHead_move h m.chan
  rw [if_pos rfl] at hp
  rw [← place_moves, hp, (hs.head_move h).1]; rfl
theorem chan_leaveHead (k : ReqClass) (s : State) (c : Chan) : (leaveHead k s).chan c = s.chan c := by
  rw [leaveHead_changes_engine]; rfl
theorem entryOf_leaveHead (k : ReqClass) (s : State) (c : Chan) : (leaveHead k s).entryOf c = s.entryOf c := by
  rw [leaveHead_changes_engine]; rfl
theorem searching_not_moving {s : State} (hs : Sound s) {c : Chan} {e : Entry} (he : s.entryOf c = some e)
    (h : e.state = .searching) : (s.chan c).state ≠ .moving := fun hm => by
  rcases hs.searching_state he h with hl | hl <;> rw [hl] at hm <;> cases hm
theorem run_skipHead {m : MoveReq} {b : Bool} {s : State} (h : s.head .move = some (.move m)) :
    Run q s (returnSkip m.chan b (leaveHead .move s)) := by
  refine Run.of_sound ((sane_leaveHead .move s).trans (sane_returnSkip _ _ _)) fun hs => ?_
  obtain ⟨e, he, hse⟩ := (hs.head_move h).2
  refine (run_leaveHead s .move).trans (run_returnSkip fun _ => ⟨movesAt_leaveHead hs h, ?_⟩)
  rw [chan_leaveHead]; exact searching_not_moving hs he hse

/-! ## Arbitration (R48) -/

theorem run_endUnserved {k : ReqClass} {r : Served} {s : State} (h : s.head k = some r) : Run q s (endUnserved r s) := by
  have hk := cls_of_head h
  cases r with
  | pool g => exact run_leaveHead s .pool
  | com x => exact run_leaveHead s .commit
  | adm a =>
    cases a with
    | oper o => exact (run_leaveHead s .admission).trans (run_endRevert _ _)
    | whatIf _ _ _ => exact run_leaveHead s .admission
    | guard _ _ => exact run_leaveHead s .admission
    | post _ _ _ => exact run_leaveHead s .admission
  | move m =>
    obtain rfl : ReqClass.move = k := hk
    exact (run_skipHead h).trans (run_closeChange _ _)
theorem standing_endUnserved {r : Served} {s : State} (hs : Standing s) : Standing (endUnserved r s) := by
  have hleave : ∀ k, Standing (leaveHead k s) := fun k => hs.of_still (still_leaveHead s k)
  cases r with
  | pool g => exact hleave .pool
  | com x => exact hleave .commit
  | adm a =>
    cases a with
    | oper o => exact (hleave .admission).of_still (still_route _ _)
    | whatIf _ _ _ => exact hleave .admission
    | guard _ _ => exact hleave .admission
    | post _ _ _ => exact hleave .admission
  | move m => exact standing_closeChange _ _
theorem run_arbitrate (fuel : Nat) (s : State) : Run q s (arbitrate fuel s) := by
  induction fuel generalizing s with
  | zero => exact Run.refl s
  | succ fuel ih =>
    unfold arbitrate
    refine run_ite (fun _ => Run.refl s) fun _ => ?_
    split
    · exact Run.refl s
    · split
      · exact Run.refl s
      next r hr =>
        split
        · exact run_beginService _ _ _ s
        · exact (run_endUnserved hr).trans (ih _)
theorem standing_arbitrate (fuel : Nat) {s : State} (hs : Standing s) : Standing (arbitrate fuel s) := by
  induction fuel generalizing s with
  | zero => exact hs
  | succ fuel ih =>
    unfold arbitrate
    split
    · exact hs
    · split
      · exact hs
      · split
        · exact hs
        · split
          · exact hs.of_still (still_engine s _)
          · exact ih (standing_endUnserved hs)
theorem run_finish (s0 s : State) : Run q s (finish s0 s) :=
  ((run_closeChange s0 s).trans (run_applyDeferred _)).trans (run_arbitrate _ _)
theorem standing_finish (s0 s : State) : Standing (finish s0 s) :=
  standing_arbitrate _ (standing_applyDeferred (standing_closeChange s0 s))
theorem run_change {f : State → State} {s : State} (h : Run q s (f s)) : Run q s (change f s) := h.trans (run_finish s _)
theorem standing_change (f : State → State) (s : State) : Standing (change f s) := standing_finish s _

/-! ## The completions (R57) -/

/-- What the requester of the request in service does keeps what `Run` says. -/
def ActKeeps (q : Bool) (act : Served → Service → Option (State → State)) : Prop :=
  ∀ r v f s, act r v = some f → s.head r.cls = some r → Run q s (f s)
theorem run_completion {act : Served → Service → Option (State → State)} (h : ActKeeps q act) (dt : Nat) (s : State) :
    Run q s (completion dt act s) := by
  refine (run_passTime s dt).trans ?_
  unfold completion
  generalize passTime dt s = u
  dsimp only
  split
  next r v hs =>
    obtain ⟨-, hhead⟩ := serving_eq_some hs
    have hcls := cls_of_head hhead
    split
    next f hf =>
      refine run_change (f := fun s => f (endService s)) ((run_endService u).trans (h r v f _ hf ?_))
      rw [hcls]; exact hhead
    · exact Run.refl u
  · exact Run.refl u
theorem standing_completion {act : Served → Service → Option (State → State)} {dt : Nat} {s : State} (hs : Standing s) :
    Standing (completion dt act s) := by
  have hp : Standing (passTime dt s) := hs.of_still ⟨passTime_chans dt s, passTime_table dt s, passTime_backlog dt s, passTime_caps dt s⟩
  unfold completion
  generalize passTime dt s = u at hp ⊢
  dsimp only
  split
  · split
    · exact standing_change _ _
    · exact hp
  · exact hp
theorem keeps_guardAct : ActKeeps q guardAct := by
  intro r v f s hf _
  unfold guardAct at hf
  split at hf
  · obtain ⟨x, -, rfl⟩ := Option.map_eq_some_iff.mp hf
    exact (run_leaveHead s .admission).trans (run_guardDone _ _ _)
  · cases hf
theorem keeps_postAct : ActKeeps q postAct := by
  intro r v f s hf _
  unfold postAct at hf
  split at hf
  · obtain ⟨x, -, rfl⟩ := Option.map_eq_some_iff.mp hf
    exact (run_leaveHead s .admission).trans (run_postDone _ _ _ _ _)
  · cases hf
theorem keeps_whatIfAct : ActKeeps q whatIfAct := by
  intro r v f s hf _
  unfold whatIfAct at hf
  split at hf
  · obtain ⟨x, -, rfl⟩ := Option.map_eq_some_iff.mp hf
    exact (run_leaveHead s .admission).trans (run_whatIfDone _ _ _ _ _)
  · cases hf
theorem keeps_operAct : ActKeeps q operAct := by
  intro r v f s hf _
  unfold operAct at hf
  split at hf
  · obtain rfl := Option.some.inj hf
    exact run_operDone _ _ s
  · cases hf
theorem keeps_commitAct : ActKeeps q commitAct := by
  intro r v f s hf hhead
  unfold commitAct at hf
  split at hf
  · obtain rfl := Option.some.inj hf
    exact run_stepDone hhead
  · cases hf
theorem keeps_poolAct : ActKeeps q poolAct := by
  intro r v f s hf _
  unfold poolAct at hf
  split at hf
  · obtain rfl := Option.some.inj hf
    exact (run_poolCheckDone s _ _ _).trans (run_ite (fun _ => Run.refl _) fun _ => run_leaveHead _ _)
  · cases hf
/-- The head of the MOVE queue asks for further work of the same channel. -/
theorem run_replaceMove {m x : MoveReq} {s : State} (h : s.head .move = some (.move m)) (hc : x.chan = m.chan) :
    Run q s (replaceHead (.move x) s) := by
  have hq : s.engine.moveQ = m :: s.engine.moveQ.tail := by
    cases hm : s.engine.moveQ with
    | nil => have := head_move h; rw [hm] at this; cases this
    | cons y ys =>
      have := head_move h
      rw [hm] at this
      obtain rfl := Option.some.inj this
      rfl
  have hlen : ∀ d, ((replaceHead (.move x) s).movesAt d).length = (s.movesAt d).length := fun d => by
    simp only [State.movesAt, replaceHead]
    rw [hq, List.filter_cons, List.filter_cons, hc]
    split <;> rfl
  refine .of_sane (sane_replaceMove s x) fun hs => ⟨fun d => ?_, hs.2⟩
  obtain ⟨h1, h2, h3, h4, h5, h6⟩ := hs.1 d
  refine ⟨h1, (hlen d).trans_le h2, h3, h4, h5, fun hne => h6 fun hnil => hne ?_⟩
  have := hlen d
  rw [show s.movesAt d = [] from hnil] at this
  exact List.length_eq_zero_iff.mp this
theorem sane_moveSearched (c : Chan) (x : SearchStep × State) : Sane q false x.2 (moveSearched c x) := by
  obtain ⟨st, s⟩ := x
  cases st with
  | more w y =>
    refine Sane.trans ?_ (sane_replaceMove _ _)
    dsimp only
    split
    next e he => exact sane_putEntry fun _ hp => .inr ⟨e, by rw [← entryOf_chan he] at he; exact he, hp⟩
    · exact Sane.refl s
  | found f m p y => exact (sane_leaveHead .move s).trans (sane_searchFound _ _ _ _ _ _)
  | empty y => exact (sane_leaveHead .move s).trans (sane_noCandidate _ _ _)
theorem run_moveSearched {m : MoveReq} {x : SearchStep × State} (h : x.2.head .move = some (.move m)) :
    Run q x.2 (moveSearched m.chan x) := by
  refine Run.of_sound (sane_moveSearched m.chan x) fun hs => ?_
  obtain ⟨st, s⟩ := x
  obtain ⟨hmoves, e, he, hse⟩ := hs.head_move h
  have hc := entryOf_chan he
  have hlit := hs.searching_state he hse
  cases st with
  | more w y =>
    have hput : Run false s (s.putEntry { e with search := y }) :=
      run_putEntry (e := e) (by rw [hc]; exact he) rfl rfl rfl rfl
    simp only [moveSearched, he]
    exact hput.trans (run_replaceMove h rfl)
  | found f n p y =>
    refine (run_leaveHead s .move).trans (run_searchFound (fun _ => movesAt_leaveHead hs h) fun e' he' => ?_)
    rw [entryOf_leaveHead, he] at he'
    obtain rfl := Option.some.inj he'
    exact hse
  | empty y =>
    exact (run_leaveHead s .move).trans (run_noCandidate fun _ => ⟨movesAt_leaveHead hs h, by rw [chan_leaveHead]; exact hlit⟩)
theorem run_moveSearchDone {m : MoveReq} {o : Outcome} {s : State} (h : s.head .move = some (.move m)) :
    Run q s (moveSearchDone m o s) := by
  unfold moveSearchDone
  split
  · exact (run_searchDone _ _ _ _ s).trans (run_moveSearched (by rw [head_searchDone]; exact h))
  · exact run_leaveHead s .move
theorem keeps_candidateAct : ActKeeps q candidateAct := by
  intro r v f s hf hhead
  unfold candidateAct at hf
  split at hf
  · split at hf
    · cases hf
    · obtain rfl := Option.some.inj hf
      exact run_moveSearchDone hhead
  · cases hf
theorem keeps_openAct : ActKeeps q openAct := by
  intro r v f s hf hhead
  unfold openAct at hf
  split at hf
  · split at hf
    · obtain rfl := Option.some.inj hf
      exact run_moveSearchDone hhead
    · cases hf
  · cases hf
theorem run_returnDone {m : MoveReq} {o : Outcome} {s : State} (h : s.head .move = some (.move m)) :
    Run q s (returnDone m.chan o s) := by
  unfold returnDone
  dsimp only
  split
  · refine run_ite (fun _ => ?_) fun _ => run_skipHead h
    refine Run.of_sound ((sane_leaveHead .move s).trans (sane_searchFound _ _ _ _ _ _)) fun hs => ?_
    obtain ⟨-, e, he, hse⟩ := hs.head_move h
    refine (run_leaveHead s .move).trans (run_searchFound (fun _ => movesAt_leaveHead hs h) fun e' he' => ?_)
    rw [entryOf_leaveHead, he] at he'
    obtain rfl := Option.some.inj he'
    exact hse
  · exact run_skipHead h
theorem keeps_returnAct : ActKeeps q returnAct := by
  intro r v f s hf hhead
  unfold returnAct at hf
  split at hf
  · split at hf
    · obtain rfl := Option.some.inj hf
      exact run_returnDone hhead
    · cases hf
  · cases hf

/-! ## The expiries -/

theorem run_expire {d : Option Nat} {f : State → State} {s : State} (h : ∀ t, d = some t → Run q (passTo t s) (f (passTo t s))) :
    Run q s (expire d f s) := by
  cases d with
  | none => exact Run.refl s
  | some t => exact (run_passTime s _).trans (run_change (h t rfl))
theorem standing_expire {d : Option Nat} {f : State → State} {s : State} (hs : Standing s) : Standing (expire d f s) := by
  cases d with
  | none => exact hs
  | some t => exact standing_change f _
theorem run_settleExpiry (c : Chan) (s : State) : Run q s (settleExpiry c s) := run_modChan s (fair_same rfl rfl rfl rfl rfl) rfl
/-- The entry whose deadline runs is the one its expiry acts on. -/
theorem run_entryExpiry {c : Chan} {x : EntryState} {f : Entry → State → State} {s : State}
    (hf : ∀ e u, u.entryOf e.chan = some e → e.state = x → Run q u (f e u)) :
    Run q s (expire (s.entryDl c x) (onEntry c f) s) := by
  refine run_expire fun t ht => ?_
  cases he : s.entryOf c with
  | none => simp [State.entryDl, he] at ht
  | some e =>
    have hx : e.state = x := by
      by_contra hx
      rw [entryDl_some he, if_neg hx] at ht
      cases ht
    have he' : (passTo t s).entryOf c = some e := (entryOf_passTime _ s c).trans he
    rw [onEntry_some he']
    exact hf e _ (by rw [entryOf_chan he]; exact he') hx

end Sys2Proof.Machine
end

section
/-! Every command but POWER_ON keeps the invariants and, but for the requests that set them, the settings. -/

namespace Sys2Proof.Machine

/-! ## What a command keeps -/

/-- What every command keeps. `k`: the settings too. -/
structure Keeps (k : Bool) (s t : State) : Prop where
  pending : t.pending = s.pending
  now : s.now ≤ t.now
  settings : k = true → t.settings = s.settings
  bounded : Bounded s → Bounded t
  fits : Fits s → Fits t
  unique : Unique s → Unique t
  linked : Linked s → Linked t
  watched : Watched s → Watched t
  placed : Placed s → Placed t
  clean : Placed s → PoolsClean s → PoolsClean t
  queued : Linked s → Queued s → Queued t

variable {k : Bool}

theorem Keeps.refl (s : State) : Keeps k s s :=
  ⟨rfl, le_rfl, fun _ => rfl, id, id, id, id, id, id, fun _ => id, fun _ => id⟩
theorem Keeps.trans {s t u : State} (h : Keeps k s t) (g : Keeps k t u) : Keeps k s u where
  pending := g.pending.trans h.pending
  now := h.now.trans g.now
  settings := fun e => (g.settings e).trans (h.settings e)
  bounded := fun x => g.bounded (h.bounded x)
  fits := fun x => g.fits (h.fits x)
  unique := fun x => g.unique (h.unique x)
  linked := fun x => g.linked (h.linked x)
  watched := fun x => g.watched (h.watched x)
  placed := fun x => g.placed (h.placed x)
  clean := fun x y => g.clean (h.placed x) (h.clean x y)
  queued := fun x y => g.queued (h.linked x) (h.queued x y)
theorem Keeps.weaken {s t : State} (h : Keeps true s t) : Keeps k s t := { h with settings := fun _ => h.settings rfl }
theorem keeps_foldl {α : Type} {f : State → α → State} (h : ∀ s a, Keeps k s (f s a)) (xs : List α) (s : State) :
    Keeps k s (xs.foldl f s) := by
  induction xs generalizing s with
  | nil => exact Keeps.refl s
  | cons x xs ih => exact (h s x).trans (ih _)
/-- An operation that keeps the queues only where a stage that is DOWN has no commit. -/
theorem Keeps.of_runs {s t : State} (h : Run false s t) (hq : Linked s → Run true s t) (hst : Standing s → Standing t) :
    Keeps k s t where
  pending := h.sane.pending
  now := h.sane.now
  settings := fun _ => h.sane.settings
  bounded := h.sane.bounded
  fits := h.sane.fits
  unique := h.sane.unique
  linked := h.sane.allLinked
  watched := h.sane.watched
  placed := fun hp => by
    obtain ⟨hs, hi⟩ := (placed_iff_standing s).mp hp
    exact (placed_iff_standing t).mpr ⟨h.sound hs, hst hi⟩
  clean := fun hp => h.clean hp.sound
  queued := fun hl => (hq hl).sane.queued rfl
theorem Keeps.of_run {s t : State} (h : Run true s t) (hst : Standing s → Standing t) : Keeps k s t :=
  .of_runs h.weaken (fun _ => h) hst
theorem Keeps.of_still {s t : State} (h : Run true s t) (hst : Still s t) : Keeps k s t :=
  .of_run h fun hs => hs.of_still hst
theorem keeps_change {f : State → State} {s : State} (h : Run true s (f s)) : Keeps k s (change f s) :=
  .of_run (run_change h) fun _ => standing_change f s

theorem keeps_finish (s0 s : State) : Keeps k s (finish s0 s) := .of_run (run_finish s0 s) fun _ => standing_finish s0 s

/-! ## Arrival (R62, R72, R74) -/

theorem still_passTime (dt : Nat) (s : State) : Still s (passTime dt s) :=
  ⟨passTime_chans dt s, passTime_table dt s, passTime_backlog dt s, passTime_caps dt s⟩
theorem keeps_passTime (dt : Nat) (s : State) : Keeps k s (passTime dt s) := .of_still (run_passTime s dt) (still_passTime dt s)
theorem still_setPort (p : Port) (x : PortState) (s : State) : Still s (s.setPort p x) := by
  cases p <;> exact ⟨rfl, rfl, rfl, rfl⟩
theorem commits_stageUpSent (z : Stage) (s : State) : (stageUpSent z s).commits = s.commits := by
  have horig : ∀ a x b s, (originate a x b s).commits = s.commits := fun a x b s => originate_commits ..
  unfold stageUpSent
  dsimp only
  rw [notify_commits]
  refine (horig _ _ _ _).trans ?_
  exact foldl_keeps State.commits (fun s u => horig _ _ _ s) _ s
/-- A port whose stage has no commit comes UP. -/
theorem run_portUp_idle {q : Bool} {p : Port} {s : State} (hup : (s.port p).up = true)
    (hidle : ∀ z, p = .stage z → s.commits[z] = .idle) : Run q s (portUp p s) := by
  cases p with
  | trunk => exact Run.refl s
  | stage z =>
    refine (run_stageUpSent z s).trans ?_
    have hup' := (up_stageUpSent z s (.stage z)).trans hup
    have hidle' : (stageUpSent z s).commits[z] = .idle := by rw [commits_stageUpSent]; exact hidle z rfl
    change Run q (stageUpSent z s) (beginWait z (stageUpSent z s))
    generalize stageUpSent z s = u at hup' hidle' ⊢
    refine run_ite (fun _ => (run_setCommit u (.inl hup') fun _ r n hr => ?_).trans (run_tryStart z _)) fun _ => Run.refl u
    rw [hidle'] at hr; cases hr
theorem commits_restartSilence (p : Port) (s : State) : (restartSilence p s).commits = s.commits := by cases p <;> rfl
theorem up_restartSilence (p : Port) (s : State) : ((restartSilence p s).port p).up = true := by
  rw [restartSilence, port_setPort_same]
theorem keeps_arrive (dt : Nat) (p : Port) (s : State) : Keeps k s (arrive dt p s) := by
  refine (keeps_passTime dt s).trans ?_
  unfold arrive
  generalize passTime dt s = u
  dsimp only
  split
  · exact .of_still (run_restartSilence p u) (still_setPort _ _ u)
  next hdown =>
    refine .of_runs (run_change (f := fun s => portUp p (restartSilence p s)) ?_) (fun hl => run_change
      (f := fun s => portUp p (restartSilence p s)) ?_) fun _ => standing_change _ _
    · exact (run_restartSilence p u).trans (run_portUp (up_restartSilence p u))
    · refine (run_restartSilence p u).trans (run_portUp_idle (up_restartSilence p u) fun z hz => ?_)
      rw [commits_restartSilence]
      by_contra hne
      exact hdown (by rw [hz]; exact hl z hne)

/-! ## The requests that set the settings -/

theorem keeps_reply (h : ReqHdr) (code : Nat) (st : Status) (x : Nat) (b : List Byte) (s : State) :
    Keeps k s (reply h code st x b s) := .of_still (run_reply s _ _ _ _ _) (still_route s _)
theorem keeps_refuse (h : ReqHdr) (code : Nat) (st : Status) (s : State) : Keeps k s (refuse h code st s) := keeps_reply ..
/-- The settings but for the profiles are no part of the invariants. -/
theorem keeps_site (s : State) (g : Vector GateMode 6) (l c : Bool) (p : Vector Span 6) (e : Vector Bool 15) :
    Keeps false s { s with gate := g, lock := l, confirm := c, spans := p, enables := e } :=
  ⟨rfl, le_rfl, fun h => noClean h, id, id, id, id, id, id, fun _ => id, fun _ => id⟩
theorem keeps_setGate (h : ReqHdr) (st m : Nat) (s : State) : Keeps false s (setGate h st m s) := by
  unfold setGate
  split
  · exact (keeps_site s _ s.lock s.confirm s.spans s.enables).trans (keeps_reply ..)
  · exact keeps_refuse ..
theorem keeps_setLock (h : ReqHdr) (v : Nat) (s : State) : Keeps false s (setLock h v s) := by
  unfold setLock
  split
  · exact (keeps_site s s.gate _ s.confirm s.spans s.enables).trans (keeps_reply ..)
  · exact keeps_refuse ..
theorem keeps_setConfirm (h : ReqHdr) (v : Nat) (s : State) : Keeps false s (setConfirm h v s) := by
  unfold setConfirm
  split
  · exact (keeps_site s s.gate s.lock _ s.spans s.enables).trans (keeps_reply ..)
  · exact keeps_refuse ..
theorem keeps_setNotices (h : ReqHdr) (vs : List Nat) (s : State) : Keeps false s (setNotices h vs s) := by
  unfold setNotices
  split
  · exact (keeps_site s s.gate s.lock s.confirm s.spans _).trans (keeps_reply ..)
  · exact keeps_refuse ..
theorem keeps_setSpan (h : ReqHdr) (st a b c : Nat) (s : State) : Keeps false s (setSpan h st a b c s) := by
  unfold setSpan
  dsimp only
  split
  · split
    · exact keeps_refuse ..
    · have hset := fun v => (keeps_site s s.gate s.lock s.confirm v s.enables).trans (keeps_reply h 0x2C .ok 0
        (encSpan ⟨a, clamp 1 8 b, clamp 1 96 c⟩) _)
      split
      · exact (hset _).trans (.of_still (run_sendStanding _ _) (still_originate _ _ _ _))
      · exact hset _
  · exact keeps_refuse ..

/-! ## WRITE_PROFILE (R100, R101) -/

theorem persistence_condOf {o : CondOps} {l : Cond} (h : condOf o = some l) : 1 ≤ l.persistence ∧ l.persistence ≤ 8 := by
  obtain ⟨x, -, rfl⟩ := Option.map_eq_some_iff.mp h
  change 1 ≤ clamp 1 8 o.persistence ∧ clamp 1 8 o.persistence ≤ 8
  unfold clamp
  omega
theorem persistence_profileFrom {o : ProfileOps} {p : Profile} (h : profileFrom o = some p) :
    1 ≤ p.level1.persistence ∧ p.level1.persistence ≤ 8 ∧ 1 ≤ p.level2.persistence ∧ p.level2.persistence ≤ 8 := by
  simp only [profileFrom, Option.bind_eq_bind, Option.bind_eq_some_iff, Option.some.injEq] at h
  obtain ⟨l1, h1, l2, h2, cb, _, rs, _, rc, _, rfl⟩ := h
  obtain ⟨a1, a2⟩ := persistence_condOf h1
  obtain ⟨b1, b2⟩ := persistence_condOf h2
  exact ⟨a1, a2, b1, b2⟩
/-- A record when profile `n` has been written: the watch that uses it starts afresh. -/
def ChanRec.reprofiled (n : Fin 8) (s : State) (r : ChanRec) : ChanRec :=
  if r.profile = some n then { r with watch := s.rewatch r, returnWatch := none } else r
/-- Profile `n` written. -/
def rewritten (n : Fin 8) (p : Profile) (s : State) : State := profileWritten n { s with profiles := s.profiles.set n p }
theorem chan_rewritten (n : Fin 8) (p : Profile) (s : State) (c : Chan) :
    (rewritten n p s).chan c = (s.chan c).reprofiled n { s with profiles := s.profiles.set n p } :=
  chan_mapChans (ChanRec.reprofiled n { s with profiles := s.profiles.set n p }) { s with profiles := s.profiles.set n p } c
theorem seat_reprofiled (n : Fin 8) (s : State) (r : ChanRec) : (r.reprofiled n s).seat = r.seat := by
  unfold ChanRec.reprofiled; split <;> rfl
theorem place_rewritten (n : Fin 8) (p : Profile) (s : State) (c : Chan) : (rewritten n p s).place c = s.place c := by
  have h : (rewritten n p s).place c = { s.place c with seat := ((rewritten n p s).chan c).seat } := rfl
  rw [h, chan_rewritten, seat_reprofiled]; rfl
theorem profilesOk_set {n : Fin 8} {p : Profile} {ps : Vector Profile 8} (h : ProfilesOk ps)
    (hp : 1 ≤ p.level1.persistence ∧ p.level1.persistence ≤ 8 ∧ 1 ≤ p.level2.persistence ∧ p.level2.persistence ≤ 8) :
    ProfilesOk (ps.set n p) := by
  intro m
  by_cases hm : n.val = m.val
  · simpa [Fin.getElem_fin, ← hm] using hp
  · simpa only [Fin.getElem_fin, Vector.getElem_set_ne _ _ hm] using h m
theorem watchOk_reprofiled {n : Fin 8} {p : Profile} {s : State} {r : ChanRec} (hps : ProfilesOk (s.profiles.set n p))
    (h : r.WatchOk s.profiles) :
    (r.reprofiled n { s with profiles := s.profiles.set n p }).WatchOk (s.profiles.set n p) := by
  unfold ChanRec.reprofiled
  split
  next hr =>
    have hfair : r.Fair (s.profiles.set n p)
        { r with watch := State.rewatch { s with profiles := s.profiles.set n p } r, returnWatch := none } := by
      refine fair_armed id id ((rewatch_cases _ r).symm.imp (·.2) id) fun harm => ?_
      rcases rewatch_cases { s with profiles := s.profiles.set n p } r with hw | hw
      · exact absurd (hw.symm.trans harm) (by decide)
      · exact hw.1
    unfold ChanRec.WatchOk
    rcases rewatch_cases { s with profiles := s.profiles.set n p } r with hw | ⟨hlit, hw⟩
    · dsimp only
      rw [hw]
      exact ⟨Nat.zero_le _, Nat.zero_le _, fun _ => rfl, fun _ _ => rfl⟩
    · dsimp only
      rw [hw]
      refine ⟨Nat.zero_le _, Nat.zero_le _, fun hoff => ?_, fun m _ => armed_below hps m⟩
      rcases hlit with hl | hl | hl <;> simp [hl] at hoff
  next hr =>
    obtain ⟨h1, h2, h3, h4⟩ := h
    refine ⟨h1, h2, h3, fun m hm => ?_⟩
    have hne : n.val ≠ m.val := fun e => hr (by rw [hm, Fin.ext e])
    simpa only [Fin.getElem_fin, Vector.getElem_set_ne _ _ hne] using h4 m hm
theorem keeps_writeProfile (h : ReqHdr) (num : Nat) (o : ProfileOps) (s : State) :
    Keeps false s (change (writeProfile h num o) s) := by
  cases hn : profileNumber num with
  | none =>
    have heq : writeProfile h num o s = refuse h 0x1F .badRequest s := by simp [writeProfile, hn]
    exact keeps_change (by rw [heq]; exact run_refuse s _ _ _)
  | some n =>
    cases hp : profileFrom o with
    | none =>
      have heq : writeProfile h num o s = refuse h 0x1F .badRequest s := by simp [writeProfile, hn, hp]
      exact keeps_change (by rw [heq]; exact run_refuse s _ _ _)
    | some p =>
      have heq : writeProfile h num o s = replyOk h 0x1F (encProfile p) (rewritten n p s) := by
        simp [writeProfile, hn, hp, rewritten]
      have hrun : Run true (rewritten n p s) (change (writeProfile h num o) s) := by
        unfold change
        rw [heq]
        exact (run_replyOk _ _ _ _).trans (run_finish s _)
      have hrec : ∀ c, ((rewritten n p s).chan c).history = (s.chan c).history
          ∧ ((rewritten n p s).chan c).moveCount = (s.chan c).moveCount := fun c => by
        rw [chan_rewritten, ChanRec.reprofiled]; split <;> exact ⟨rfl, rfl⟩
      have hclean : PoolsClean s → PoolsClean (rewritten n p s) :=
        poolsClean_of_occupied rfl rfl fun c => by
          rw [chan_rewritten, occupied_of_seat_eq (seat_reprofiled _ _ _)]; exact List.Subset.refl _
      refine ⟨hrun.sane.pending, hrun.sane.now, fun e => noClean e, fun ⟨h1, h2, h3, h4, h5, h6⟩ => hrun.sane.bounded
        ⟨h1, h2, h3, h4, h5, fun c => by rw [(hrec c).1, (hrec c).2]; exact h6 c⟩, hrun.sane.fits, hrun.sane.unique,
        hrun.sane.allLinked, fun hw => ?_, fun hpl => ?_, fun hpl hc => ?_, fun _ => hrun.sane.queued rfl⟩
      · obtain ⟨hps, hrecs⟩ := (watched_iff s).mp hw
        have hps' := profilesOk_set (n := n) hps (persistence_profileFrom hp)
        refine hrun.sane.watched ((watched_iff _).mpr ⟨hps', fun c => ?_⟩)
        rw [chan_rewritten]
        exact watchOk_reprofiled hps' (hrecs c)
      · have hsound : Sound (rewritten n p s) := hpl.sound.of_same id (place_rewritten n p s)
        exact (placed_iff_standing _).mpr ⟨hrun.sound hsound, standing_change _ s⟩
      · exact hrun.clean (hpl.sound.of_same id (place_rewritten n p s)) (hclean hc)

/-! ## The requests -/

/-- The request sets one of the settings. -/
def setsSettings : Request → Bool
  | .setGate .. | .setLock .. | .setConfirm .. | .setSpan .. | .setNotices .. | .writeProfile .. => true
  | _ => false
theorem still_ackWatch_standing (h : ReqHdr) (st sl : Nat) {s : State} (hs : Standing s) : Standing (ackWatch h st sl s) := by
  unfold ackWatch
  dsimp only
  split
  next c _ =>
    split
    · exact hs.of_still (still_route s _)
    · exact hs.of_still (still_route s _)
    · refine Standing.of_still (fun i hi => ?_) (still_route _ _)
      have hold := hs i hi
      have hrec : ∀ d, let r := (s.modChan c fun r => { r with watch := r.watch.ack }).chan d
          r.state = (s.chan d).state ∧ r.pinned = (s.chan d).pinned ∧ r.pending = (s.chan d).pending
            ∧ r.returnWatch = (s.chan d).returnWatch := fun d => by
        rw [chan_modChan]
        split
        next hd => rw [hd]; exact ⟨rfl, rfl, rfl, rfl⟩
        · exact ⟨rfl, rfl, rfl, rfl⟩
      obtain ⟨h1, h2, h3, h4⟩ := hrec i.chan
      simp only [State.itemStands, State.movable, ChanRec.dwellReached] at hold ⊢
      rw [h1, h2, h3, h4]
      exact hold
  · exact hs.of_still (still_route s _)
theorem keeps_restart (h : ReqHdr) (s : State) : Keeps k s (handle h .restart s) := by
  refine .of_run ((run_restartDevice h s).trans (run_arbitrate _ _)) fun _ => ?_
  exact standing_arbitrate _ (standing_restartStep _)
theorem still_setStaged (c : Chan) (e : Staged) (s : State) : Still s (s.setStaged c e) := ⟨rfl, rfl, rfl, rfl⟩
theorem still_stageChannel (h : ReqHdr) (st sl x : Nat) (o : StagedOps) (s : State) : Still s (stageChannel h st sl x o s) := by
  unfold stageChannel
  split
  · exact still_ite (still_route s _) (still_ite (still_route s _) ((still_setStaged _ _ s).trans (still_route _ _)))
  · exact still_route s _
theorem still_armStage (h : ReqHdr) (st v : Nat) (s : State) : Still s (armStage h st v s) := by
  unfold armStage
  split
  next z b _ _ =>
    refine ((still_arm s (s.arm.set z b)).trans ?_).trans (still_route _ _)
    exact still_ite (Still.refl _) (still_cancelWait _ _)
  · exact still_route s _
theorem still_readEvents (h : ReqHdr) (n : Nat) (s : State) : Still s (readEvents h n s) := by
  unfold readEvents
  split
  · refine Still.trans ?_ (still_route _ _)
    exact still_ite ⟨rfl, rfl, rfl, rfl⟩ (Still.refl s)
  · exact still_route s _
theorem still_readCounters (h : ReqHdr) (n m : Nat) (s : State) : Still s (readCounters h n m s) := by
  unfold readCounters
  split
  · refine Still.trans ?_ (still_route _ _)
    exact still_ite ⟨rfl, rfl, rfl, rfl⟩ (Still.refl s)
  · exact still_route s _
theorem keeps_read {s t : State} (h : ∃ f, t = route f s) : Keeps k s t := by
  obtain ⟨f, rfl⟩ := h
  exact .of_still (run_route s f) (still_route s f)
/-- A request that sets nothing keeps the settings; every request keeps the invariants. -/
theorem keeps_handle (h : ReqHdr) (req : Request) (s : State) : Keeps (!setsSettings req) s (handle h req s) := by
  cases req with
  | malformed c => exact keeps_refuse ..
  | readChannel st sl =>
    refine keeps_read ?_
    unfold handle readChannel
    dsimp only
    split <;> exact ⟨_, rfl⟩
  | defineChannel st sl c p q n => exact keeps_change (run_defineChannel ..)
  | removeChannel st sl => exact keeps_change (run_removeChannel ..)
  | writeChannel st sl c p q n f => exact keeps_change (run_writeChannel ..)
  | move st sl f o r => exact keeps_change (run_moveChannel ..)
  | revert st sl => exact keeps_change (run_revertChannel ..)
  | release st sl => exact keeps_change (run_releaseChannel ..)
  | ackWatch st sl => exact .of_run (run_ackWatch h st sl s) (still_ackWatch_standing h st sl)
  | checkChannel st sl c => exact keeps_change (run_queueCheck ..)
  | checkGroup g c => exact keeps_change (run_queueCheck ..)
  | stageChannel st sl x ops => exact .of_still (run_stageChannel ..) (still_stageChannel ..)
  | commitStage st => exact keeps_change (run_commitStage ..)
  | armStage st v => exact .of_still (run_armStage ..) (still_armStage ..)
  | addExclusion a b sc => exact keeps_change (run_addExclusion ..)
  | removeExclusion a b => exact keeps_change (run_removeExclusion ..)
  | readExclusions p => exact keeps_read ⟨_, rfl⟩
  | addPool g f => exact keeps_change (run_addPool ..)
  | removePool g f => exact keeps_change (run_removePool ..)
  | loadPool g n fs => exact keeps_change (run_loadPool ..)
  | readPool g =>
    refine keeps_read ?_
    unfold handle readPool
    dsimp only
    split <;> exact ⟨_, rfl⟩
  | writeProfile n ops => exact keeps_writeProfile h n ops s
  | readProfile n =>
    refine keeps_read ?_
    unfold handle readProfile
    dsimp only
    split <;> exact ⟨_, rfl⟩
  | setGroups gs rs => exact keeps_change (run_setGroups ..)
  | setRules xs => exact keeps_change (run_setRules ..)
  | setGate st m => exact keeps_setGate ..
  | setLock v => exact keeps_setLock ..
  | setConfirm v => exact (keeps_setConfirm h v s).trans (keeps_finish s _)
  | setSpan st a b c => exact keeps_setSpan ..
  | setNotices vs => exact keeps_setNotices ..
  | go st sl => exact keeps_change (run_goChannel ..)
  | drop st sl => exact keeps_change (run_dropChannel ..)
  | goAll => exact keeps_change (run_goAll ..)
  | survey st a b c d t => exact keeps_change (run_orderSurvey ..)
  | readEvents c => exact .of_still (run_readEvents ..) (still_readEvents ..)
  | readCounters c p => exact .of_still (run_readCounters ..) (still_readCounters ..)
  | identify => exact keeps_read ⟨_, rfl⟩
  | restart => exact keeps_restart h s

end Sys2Proof.Machine
end

section
/-! The commands from end to end, and what settles the invariants of the whole machine. -/

namespace Sys2Proof.Machine

variable {k : Bool}

theorem Keeps.drop {s t : State} (h : Keeps k s t) : Keeps false s t := { h with settings := fun e => noClean e }

/-! ## Reading and routing (R63 to R68) -/

theorem keeps_countDiscard (p : Port) (x : Ctr) (s : State) : Keeps k s (countDiscard p x s) :=
  .of_still (run_countDiscard s p x) (by cases p <;> exact ⟨rfl, rfl, rfl, rfl⟩)
theorem keeps_readTelemetry (z : Stage) (u : Fin 4) (xs : List Report) (s : State) : Keeps k s (readTelemetry z u xs s) := by
  refine keeps_foldl (fun s x => ?_) xs s
  split
  · split
    · exact Keeps.refl s
    · exact keeps_change (run_channelReport _ _ s)
  · exact Keeps.refl s
theorem run_readSweep {q : Bool} (z : Stage) (d : SweepData) (s : State) : Run q s (readSweep z d s) :=
  run_ite (fun _ => run_surveyFrame _ _ _ s) fun _ => run_ite (fun _ => Run.refl s) fun _ => run_standingSweep _ _ s
theorem run_readTuneReport {q : Bool} (z : Stage) (u : Fin 4) (d : TuneReportData) (s : State) :
    Run q s (readTuneReport z u d s) := by
  unfold readTuneReport
  split
  · exact (run_entryReport _ _ _ _ s).trans (run_noteReport _ _ _ _)
  · exact Run.refl s
theorem keeps_readPassing (z : Stage) (a : Addr) (p : Payload) (s : State) : Keeps k s (readPassing z a p s) := by
  unfold readPassing
  split
  · exact keeps_readTelemetry _ _ _ s
  · exact keeps_change (run_readCapability _ _ _ s)
  · exact keeps_change (run_readTuneReport _ _ _ s)
  · split
    · exact keeps_change (run_readSweep _ _ s)
    · exact Keeps.refl s
  · exact Keeps.refl s
theorem keeps_passOn (p : Port) (f : Frame) (out : Port) (pay : Payload) (s : State) : Keeps k s (passOn p f out pay s) := by
  have h : Keeps k s (handTo out f s) := .of_still (run_handTo s out f) (still_handTo s out f)
  cases p with
  | trunk => exact h
  | stage z => exact h.trans (keeps_readPassing _ _ _ _)
theorem keeps_divertTune (p : Port) (f : Frame) (z : Stage) (u : Fin 4) (pay : Payload) (s : State) :
    Keeps k s (divertTune p f z u pay s) := by
  unfold divertTune
  split
  · split
    · exact keeps_change (run_examineTune _ _ _ s)
    · exact keeps_countDiscard ..
  · exact keeps_countDiscard ..
theorem keeps_deliverZone (p : Port) (f : Frame) (out : Port) (pay : Payload) (s : State) :
    Keeps k s (deliverZone p f out pay s) := by
  unfold deliverZone
  split
  · split
    · exact keeps_divertTune ..
    · exact keeps_passOn ..
  · exact keeps_passOn ..
theorem keeps_permit (h : ReqHdr) (req : Request) (s : State) : Keeps (!setsSettings req) s (permit h req (handle h req) s) := by
  unfold permit
  split
  · exact keeps_refuse ..
  · exact keeps_handle h req s
theorem keeps_request (h : ReqHdr) (req : Request) (s : State) : Keeps (!setsSettings req) s (request h req s) := by
  refine (keeps_arrive h.dt h.port s).trans ?_
  unfold request serve
  dsimp only
  split
  · exact keeps_permit h req _
  · exact keeps_countDiscard ..
/-- What a delivered frame can set: nothing, unless it carries a request that sets. -/
def settingFrame (f : Frame) : Bool :=
  decide (f.kind = kRequest) && decide (f.dst = deviceAddr) && setsSettings (parseRequest f.payload)
theorem keeps_deliver (dt : Nat) (p : Port) (f : Frame) (pay : Payload) (s : State) :
    Keeps (!settingFrame f) s (deliver dt p f pay s) := by
  unfold deliver
  split
  · exact keeps_countDiscard ..
  · split
    · exact keeps_countDiscard ..
    · split
      next hdst =>
        unfold deliverDevice
        split
        next hk =>
          have hset : (!settingFrame f) = !setsSettings (parseRequest f.payload) := by simp [settingFrame, hk, hdst]
          rw [hset]
          exact keeps_permit _ _ s
        · split
          · split
            · exact keeps_readPassing ..
            · exact keeps_countDiscard ..
          · exact keeps_countDiscard ..
      · exact keeps_deliverZone ..
theorem settingFrame_chain (h : FrameHdr) (pay : Payload) : settingFrame (chainFrame h pay) = false := by
  have hk : (chainFrame h pay).kind ≠ kRequest := by
    change (encodePayload pay).1 ≠ kRequest
    cases pay <;> simp [encodePayload, kRequest, kTelemetry, kSweep, kCapability, kTune, kTuneReport]
  simp [settingFrame, hk]
theorem keeps_chainArrival (h : FrameHdr) (pay : Payload) (s : State) : Keeps k s (chainArrival h pay s) := by
  have hdel := keeps_deliver h.dt h.port (chainFrame h pay) pay (arrive h.dt h.port s)
  rw [settingFrame_chain] at hdel
  exact ((keeps_arrive ..).trans hdel).weaken

/-! ## The other commands -/

theorem keeps_setSigdet (p : Port) (b : Bool) (s : State) : Keeps k s (setSigdet p b s) :=
  .of_still (run_setPort s fun _ _ h => h) (still_setPort _ _ s)
theorem keeps_lineSignalLoss (dt : Nat) (p : Port) (s : State) : Keeps k s (lineSignalLoss dt p s) := by
  refine (keeps_passTime dt s).trans ?_
  unfold lineSignalLoss
  generalize passTime dt s = u
  dsimp only
  split
  · refine keeps_change (f := fun s => portDown p .signalLoss (setSigdet p false s)) ?_
    have hclear : Run true u (setSigdet p false u) := run_setPort u fun _ _ h => h
    exact hclear.trans (run_portDown _ _ _)
  · exact keeps_setSigdet p false u
theorem keeps_expire {d : Option Nat} {f : State → State} {s : State} (h : Run true s (expire d f s)) :
    Keeps k s (expire d f s) := .of_run h fun hs => standing_expire hs
theorem keeps_waitExpiry (z : Stage) (s : State) : Keeps k s (expire (s.waitDl z) (startCommit z .linkUp) s) := by
  refine keeps_expire (run_expire fun t ht => ?_)
  have hc : ∃ d, (passTo t s).commits[z] = CommitState.waiting d := by
    have heq : (passTo t s).commits = s.commits := passTime_commits _ s
    rw [heq]
    unfold State.waitDl at ht
    split at ht
    next d hd => exact ⟨d, hd⟩
    · cases ht
  obtain ⟨d, hd⟩ := hc
  refine run_startCommit (fun _ => by simp only [State.commitRec, hd]) (.inr ?_)
  rw [hd]; exact CommitState.noConfusion
theorem keeps_completion {act : Served → Service → Option (State → State)} (h : ActKeeps true act) (dt : Nat) (s : State) :
    Keeps k s (completion dt act s) := .of_run (run_completion h dt s) standing_completion
theorem keeps_receiveFrame (dt : Nat) (p : Port) (bs : List Byte) (s : State) : Keeps false s (receiveFrame dt p bs s) := by
  unfold receiveFrame
  split
  · exact (keeps_passTime dt s).trans (keeps_countDiscard ..)
  next f _ =>
    exact (keeps_arrive ..).trans (keeps_deliver dt p f (parsePayload f.kind f.payload) _).drop
/-- The commands that carry no request and no bytes. -/
theorem keeps_exec_other {i : Instr} (hreq : requestOf i = none) (hbytes : ∀ dt p bs, i ≠ .receiveFrame dt p bs)
    (hon : i ≠ .powerOn) {s t : State} (h : exec i s = .next t) : Keeps true s t := by
  cases i with
  | powerOn => exact absurd rfl hon
  | receiveFrame dt p bs => exact absurd rfl (hbytes dt p bs)
  | lineSignalLoss dt p => cases h; exact keeps_lineSignalLoss dt p s
  | lineSignalReturn dt p => cases h; exact (keeps_passTime dt s).trans (keeps_setSigdet p true _)
  | silenceTimerExpiry p => cases h; exact keeps_expire (run_expire fun _ _ => run_portDown _ _ _)
  | telemetry hd rs => cases h; exact keeps_chainArrival ..
  | sweep hd d => cases h; exact keeps_chainArrival ..
  | capability hd es => cases h; exact keeps_chainArrival ..
  | tune hd d => cases h; exact keeps_chainArrival ..
  | tuneReport hd d => cases h; exact keeps_chainArrival ..
  | windowDeadlineExpiry z n => cases h; exact keeps_expire (run_expire fun _ _ => run_windowExpiry _ _)
  | settleDeadlineExpiry z n => cases h; exact keeps_expire (run_expire fun _ _ => run_settleExpiry _ _)
  | proposalDeadlineExpiry z n =>
    cases h
    exact keeps_expire (run_entryExpiry fun _ _ he hx => run_endProposal he (by rw [hx]; exact EntryState.noConfusion))
  | replyDeadlineExpiry z n =>
    cases h
    exact keeps_expire (run_entryExpiry fun _ _ he hx => run_sendEnded he (by rw [hx]; exact EntryState.noConfusion))
  | lockDeadlineExpiry z n =>
    cases h
    exact keeps_expire (run_entryExpiry fun _ _ he hx => run_moveFail he (by rw [hx]; exact EntryState.noConfusion))
  | waitDeadlineExpiry z => cases h; exact keeps_waitExpiry z s
  | surveyDeadlineExpiry z => cases h; exact keeps_expire (run_expire fun _ _ => run_endSurvey _ _ _)
  | guardCheckCompletion dt => cases h; exact keeps_completion keeps_guardAct dt s
  | postCheckCompletion dt => cases h; exact keeps_completion keeps_postAct dt s
  | checkCompletion dt => cases h; exact keeps_completion keeps_whatIfAct dt s
  | operatorCheckCompletion dt => cases h; exact keeps_completion keeps_operAct dt s
  | candidateCheckCompletion dt => cases h; exact keeps_completion keeps_candidateAct dt s
  | openSearchCompletion dt => cases h; exact keeps_completion keeps_openAct dt s
  | returnCheckCompletion dt => cases h; exact keeps_completion keeps_returnAct dt s
  | commitStepCompletion dt => cases h; exact keeps_completion keeps_commitAct dt s
  | poolCheckCompletion dt => cases h; exact keeps_completion keeps_poolAct dt s
  | _ => cases hreq
theorem keeps_exec {i : Instr} (hon : i ≠ .powerOn) {s t : State} (h : exec i s = .next t) : Keeps false s t := by
  cases hreq : requestOf i with
  | some x =>
    obtain ⟨hd, req⟩ := x
    rw [exec_request hreq] at h
    injection h with h
    rw [← h]
    exact (keeps_request hd req s).drop
  | none =>
    by_cases hbytes : ∀ dt p bs, i ≠ .receiveFrame dt p bs
    · exact (keeps_exec_other hreq hbytes hon h).weaken
    · simp only [not_forall, not_not] at hbytes
      obtain ⟨dt, p, bs, rfl⟩ := hbytes
      cases h
      exact keeps_receiveFrame dt p bs s

/-! ## POWER_ON and reset -/

theorem commits_powerOn (s : State) (z : Stage) : (powerOn s).commits[z] = .idle := by simp [powerOn, State.reset]
theorem linked_powerOn (s : State) : Linked (powerOn s) := fun z h => absurd (commits_powerOn s z) h
theorem linked_reset : Linked State.reset := fun z h => absurd (commits_powerOn State.reset z) h
theorem queued_reset : Queued State.reset := ⟨List.nodup_nil, List.nodup_nil, fun _ h => nomatch h⟩
theorem watched_reset : Watched State.reset := by
  refine (watched_iff _).mpr ⟨fun n => ?_, fun c => ?_⟩
  · revert n; decide
  · rw [chan_reset]
    exact ⟨Nat.zero_le _, Nat.zero_le _, fun _ => rfl, fun n hn => nomatch hn⟩

/-! ## One step -/

/-- A step idles, powers on, or keeps what every command keeps of the state with the queue's rest. -/
theorem step_cases {s t : State} (h : step s = .next t) : t = s ∨ (∃ u, t = powerOn u)
    ∨ ∃ i rest, s.pending = i :: rest ∧ exec i { s with pending := rest } = .next t
      ∧ Keeps false { s with pending := rest } t := by
  unfold step at h
  split at h
  next c rest hp =>
    by_cases hon : c = .powerOn
    · subst hon; cases h; exact .inr (.inl ⟨_, rfl⟩)
    · exact .inr (.inr ⟨c, rest, hp, h, keeps_exec hon h⟩)
  · cases h; exact .inl rfl
/-- What a step keeps: an invariant that says nothing of the queue, that reset meets and that every command keeps. -/
theorem step_keeps {P : State → Prop} (hpending : ∀ s v, P s → P { s with pending := v }) (hreset : ∀ s, P (powerOn s))
    (hkeeps : ∀ s t, Keeps false s t → P s → P t) {s t : State} (hs : P s) (h : step s = .next t) : P t := by
  rcases step_cases h with rfl | ⟨u, rfl⟩ | ⟨_, rest, _, _, hk⟩
  · exact hs
  · exact hreset u
  · exact hkeeps _ _ hk (hpending s rest hs)

/-! ## The queues' lengths -/

theorem card_chan_le {α : Type} {f : α → Stage} {xs : List α} (h : (xs.map f).Nodup) : xs.length ≤ 6 := by
  have := h.length_le_card
  simpa using this
/-- A MOVE request for each SEARCHING entry at most, a commit step for each stage and a recheck for each group at most. -/
theorem length_moveQ_le {s : State} (hp : Placed s) (hf : Fits s) : s.engine.moveQ.length ≤ 12 := by
  obtain ⟨_, _, _, _, _, hnodup, hsearch⟩ := hp
  have hsub : s.engine.moveQ.map (·.chan) ⊆ s.table.map (·.chan) := fun c hc => by
    obtain ⟨m, hm, rfl⟩ := List.mem_map.mp hc
    obtain ⟨e, he, hec, _⟩ := hsearch m hm
    exact List.mem_map.mpr ⟨e, he, hec⟩
  have hle := (hnodup.subperm hsub).length_le
  rw [List.length_map, List.length_map] at hle
  exact hle.trans hf.1
theorem length_queues_le {s : State} (h : Queued s) : s.engine.comQ.length ≤ 6 ∧ s.engine.poolQ.length ≤ 4 := by
  obtain ⟨hpool, hcom, _⟩ := h
  refine ⟨card_chan_le hcom, ?_⟩
  have := hpool.length_le_card
  simpa using this

/-! ## The obligations -/

/-- Settles O2. -/
theorem commandsCompleteAndKeepTheQueue : Obligations.CommandsCompleteAndKeepTheQueue := by
  intro c s
  obtain ⟨t, ht⟩ : ∃ t, exec c s = .next t := by cases c <;> exact ⟨_, rfl⟩
  refine ⟨t, ht, ?_⟩
  by_cases hon : c = .powerOn
  · subst hon; cases ht; exact ⟨rfl, fun h => absurd rfl h⟩
  · have hk := keeps_exec hon ht
    exact ⟨hk.pending, fun _ => hk.now⟩
/-- Settles O55. -/
theorem stepKeepsBounds : Obligations.StepKeepsBounds := by
  have hlinked : ∀ s t : State, Linked s → step s = .next t → Linked t := fun s t hl =>
    step_keeps (P := Linked) (fun _ _ h => h) linked_powerOn (fun _ _ hk => hk.linked) hl
  have hfits : ∀ s t : State, Bounded s → Fits s → step s = .next t → Bounded t ∧ Fits t := fun s t hb hf =>
    step_keeps (P := fun s => Bounded s ∧ Fits s) (fun _ _ h => h) (fun _ => ⟨bounded_reset, fits_reset⟩)
      (fun _ _ hk h => ⟨hk.bounded h.1, hk.fits h.2⟩) ⟨hb, hf⟩
  refine ⟨hfits, hlinked, fun s t hp hf hq hl hw h => ?_, queued_reset, linked_reset, watched_reset⟩
  have hall := step_keeps (P := fun s => Placed s ∧ Fits s ∧ Queued s ∧ Linked s ∧ Watched s) (fun _ _ h => h)
    (fun u => ⟨placed_reset, fits_reset, queued_reset, linked_powerOn u, watched_reset⟩)
    (fun _ _ hk ⟨a, b, c, d, e⟩ => ⟨hk.placed a, hk.fits b, hk.queued d c, hk.linked d, hk.watched e⟩) ⟨hp, hf, hq, hl, hw⟩ h
  obtain ⟨hp', hf', hq', _, hw'⟩ := hall
  obtain ⟨hcom, hpool⟩ := length_queues_le hq'
  exact ⟨length_moveQ_le hp' hf', hcom, hpool, fun c => ⟨(hw'.2 c).1, (hw'.2 c).2.1⟩, hq', hw'⟩
/-- Settles O56. -/
theorem stepKeepsOneMovePerChannel : Obligations.StepKeepsOneMovePerChannel := fun _ _ hu =>
  step_keeps (P := Unique) (fun _ _ h => h) (fun _ => unique_reset) (fun _ _ hk => hk.unique) hu
/-- Settles O57. -/
theorem stepKeepsEveryMoveOwned : Obligations.StepKeepsEveryMoveOwned := fun _ _ hp =>
  step_keeps (P := Placed) (fun _ _ h => h) (fun _ => placed_reset) (fun _ _ hk => hk.placed) hp
/-- Settles O58. -/
theorem stepKeepsPoolsClean : Obligations.StepKeepsPoolsClean := fun _ _ hp hc h =>
  (step_keeps (P := fun s => Placed s ∧ PoolsClean s) (fun _ _ h => h) (fun _ => ⟨placed_reset, poolsClean_reset⟩)
    (fun _ _ hk h => ⟨hk.placed h.1, hk.clean h.1 h.2⟩) ⟨hp, hc⟩ h).2

end Sys2Proof.Machine
end

section
/-! Each of the settings changes by its own request alone (R81, R100, R173, R179, R182, R191). -/

namespace Sys2Proof.Machine

/-- What a request has changed of the settings it is a request for. -/
structure Owned (req : Request) (x y : Settings) : Prop where
  gate : y.gate ≠ x.gate → ∃ a b, req = .setGate a b
  lock : y.lock ≠ x.lock → ∃ v, req = .setLock v
  confirm : y.confirm ≠ x.confirm → ∃ v, req = .setConfirm v
  spans : y.spans ≠ x.spans → ∃ a b c d, req = .setSpan a b c d
  enables : y.enables ≠ x.enables → ∃ v, req = .setNotices v
  profiles : y.profiles ≠ x.profiles → ∃ n o, req = .writeProfile n o

theorem owned_of_eq {req : Request} {x y : Settings} (h : y = x) : Owned req x y := by
  subst h
  exact ⟨fun h => absurd rfl h, fun h => absurd rfl h, fun h => absurd rfl h, fun h => absurd rfl h, fun h => absurd rfl h,
    fun h => absurd rfl h⟩
theorem settings_route (f : Frame) (s : State) : (route f s).settings = s.settings := by rw [route_changes]; rfl

/-! ## The settings after each request that sets one -/

theorem settings_setGate (h : ReqHdr) (st m : Nat) (s : State) :
    ∃ v, (setGate h st m s).settings = { s.settings with gate := v } := by
  unfold setGate
  split
  · exact ⟨_, settings_route _ _⟩
  · exact ⟨s.gate, settings_route _ s⟩
theorem settings_setLock (h : ReqHdr) (x : Nat) (s : State) : ∃ v, (setLock h x s).settings = { s.settings with lock := v } := by
  unfold setLock
  split
  · exact ⟨_, settings_route _ _⟩
  · exact ⟨s.lock, settings_route _ s⟩
theorem settings_setConfirm (h : ReqHdr) (x : Nat) (s : State) :
    ∃ v, (setConfirm h x s).settings = { s.settings with confirm := v } := by
  unfold setConfirm
  split
  · exact ⟨_, settings_route _ _⟩
  · exact ⟨s.confirm, settings_route _ s⟩
theorem settings_setSpan (h : ReqHdr) (st a b c : Nat) (s : State) :
    ∃ v, (setSpan h st a b c s).settings = { s.settings with spans := v } := by
  unfold setSpan
  dsimp only
  split
  · split
    · exact ⟨s.spans, settings_route _ s⟩
    · split
      · exact ⟨_, (run_sendStanding (q := false) _ _).sane.settings.trans (settings_route _ _)⟩
      · exact ⟨_, settings_route _ _⟩
  · exact ⟨s.spans, settings_route _ s⟩
theorem settings_setNotices (h : ReqHdr) (xs : List Nat) (s : State) :
    ∃ v, (setNotices h xs s).settings = { s.settings with enables := v } := by
  unfold setNotices
  split
  · exact ⟨_, settings_route _ _⟩
  · exact ⟨s.enables, settings_route _ s⟩
theorem settings_writeProfile (h : ReqHdr) (n : Nat) (o : ProfileOps) (s : State) :
    ∃ v, (writeProfile h n o s).settings = { s.settings with profiles := v } := by
  unfold writeProfile
  dsimp only
  split
  · exact ⟨_, settings_route _ _⟩
  · exact ⟨s.profiles, settings_route _ s⟩
theorem settings_change (f : State → State) (s : State) : (change f s).settings = (f s).settings :=
  (run_finish (q := false) s _).sane.settings
theorem owned_handle (h : ReqHdr) (req : Request) (s : State) : Owned req s.settings (handle h req s).settings := by
  cases req with
  | setGate st m =>
    obtain ⟨v, hv⟩ := settings_setGate h st m s
    have heq : (handle h (.setGate st m) s).settings = { s.settings with gate := v } := hv
    rw [heq]
    exact { owned_of_eq (x := s.settings) rfl with gate := fun _ => ⟨st, m, rfl⟩ }
  | setLock x =>
    obtain ⟨v, hv⟩ := settings_setLock h x s
    have heq : (handle h (.setLock x) s).settings = { s.settings with lock := v } := hv
    rw [heq]
    exact { owned_of_eq (x := s.settings) rfl with lock := fun _ => ⟨x, rfl⟩ }
  | setConfirm x =>
    obtain ⟨v, hv⟩ := settings_setConfirm h x s
    have heq : (handle h (.setConfirm x) s).settings = { s.settings with confirm := v } := (settings_change _ s).trans hv
    rw [heq]
    exact { owned_of_eq (x := s.settings) rfl with confirm := fun _ => ⟨x, rfl⟩ }
  | setSpan st a b c =>
    obtain ⟨v, hv⟩ := settings_setSpan h st a b c s
    have heq : (handle h (.setSpan st a b c) s).settings = { s.settings with spans := v } := hv
    rw [heq]
    exact { owned_of_eq (x := s.settings) rfl with spans := fun _ => ⟨st, a, b, c, rfl⟩ }
  | setNotices xs =>
    obtain ⟨v, hv⟩ := settings_setNotices h xs s
    have heq : (handle h (.setNotices xs) s).settings = { s.settings with enables := v } := hv
    rw [heq]
    exact { owned_of_eq (x := s.settings) rfl with enables := fun _ => ⟨xs, rfl⟩ }
  | writeProfile n o =>
    obtain ⟨v, hv⟩ := settings_writeProfile h n o s
    have heq : (handle h (.writeProfile n o) s).settings = { s.settings with profiles := v } := (settings_change _ s).trans hv
    rw [heq]
    exact { owned_of_eq (x := s.settings) rfl with profiles := fun _ => ⟨n, o, rfl⟩ }
  | _ => exact owned_of_eq ((keeps_handle h _ s).settings rfl)
theorem owned_permit (h : ReqHdr) (req : Request) (s : State) :
    Owned req s.settings (permit h req (handle h req) s).settings := by
  unfold permit
  split
  · exact owned_of_eq (settings_route _ s)
  · exact owned_handle h req s
theorem settings_arrive (dt : Nat) (p : Port) (s : State) : (arrive dt p s).settings = s.settings :=
  (keeps_arrive (k := true) dt p s).settings rfl
theorem owned_request (h : ReqHdr) (req : Request) (s : State) : Owned req s.settings (request h req s).settings := by
  have harr := settings_arrive h.dt h.port s
  unfold request serve
  dsimp only
  rw [← harr]
  split
  · exact owned_permit h req _
  · exact owned_of_eq ((keeps_countDiscard (k := true) ..).settings rfl)

/-! ## The frames given as bytes -/

/-- A delivered frame changes settings only as a REQUEST frame for the device, and then those of its request. -/
theorem owned_deliver (dt : Nat) (p : Port) (f : Frame) (pay : Payload) (s : State) :
    (deliver dt p f pay s).settings = s.settings ∨ (f.kind = kRequest ∧ f.dst = deviceAddr
      ∧ Owned (parseRequest f.payload) s.settings (deliver dt p f pay s).settings) := by
  by_cases hf : settingFrame f = true
  · have hparts := hf
    simp only [settingFrame, Bool.and_eq_true, decide_eq_true_eq] at hparts
    obtain ⟨⟨hk, hd⟩, -⟩ := hparts
    refine .inr ⟨hk, hd, ?_⟩
    unfold deliver
    split
    · exact owned_of_eq ((keeps_countDiscard (k := true) ..).settings rfl)
    · split
      · exact owned_of_eq ((keeps_countDiscard (k := true) ..).settings rfl)
      · simp only [if_true, deliverDevice, hk]
        exact owned_permit _ _ s
  · rw [Bool.not_eq_true] at hf
    have h := keeps_deliver dt p f pay s
    rw [hf] at h
    exact .inl (h.settings rfl)

/-! ## The commands that carry a request -/

/-- The command that gives a request that sets. -/
def settingInstr (h : ReqHdr) : Request → Instr
  | .setGate a b => .setGate h a b
  | .setLock v => .setLock h v
  | .setConfirm v => .setConfirm h v
  | .setSpan a b c d => .setSpan h a b c d
  | .setNotices v => .setNotices h v
  | .writeProfile n o => .writeProfile h n o
  | _ => .powerOn
theorem eq_settingInstr {i : Instr} {h : ReqHdr} {req : Request} (e : requestOf i = some (h, req))
    (hs : setsSettings req = true) : i = settingInstr h req := by
  cases i with
  | setGate hd a b => cases e; rfl
  | setLock hd v => cases e; rfl
  | setConfirm hd v => cases e; rfl
  | setSpan hd a b c d => cases e; rfl
  | setNotices hd v => cases e; rfl
  | writeProfile hd n o => cases e; rfl
  | check hd ops => cases ops <;> cases e <;> cases hs
  | _ => cases e <;> cases hs

theorem unchanged_settings {s t : State} (e : t.settings = s.settings) {a b c d f g : Prop} : (t.gate ≠ s.gate → a)
    ∧ (t.lock ≠ s.lock → b) ∧ (t.confirm ≠ s.confirm → c) ∧ (t.spans ≠ s.spans → d) ∧ (t.enables ≠ s.enables → f)
    ∧ (t.profiles ≠ s.profiles → g) :=
  ⟨fun h => absurd (congrArg Settings.gate e) h, fun h => absurd (congrArg Settings.lock e) h,
    fun h => absurd (congrArg Settings.confirm e) h, fun h => absurd (congrArg Settings.spans e) h,
    fun h => absurd (congrArg Settings.enables e) h, fun h => absurd (congrArg Settings.profiles e) h⟩

/-- Settles O59, through what a request owns of the settings. -/
theorem settingsChangeOnlyByTheirRequests : Obligations.SettingsChangeOnlyByTheirRequests := by
  intro i s t h hon
  dsimp only
  cases hreq : requestOf i with
  | some x =>
    obtain ⟨hd, req⟩ := x
    have hi := fun hs => eq_settingInstr hreq hs
    rw [exec_request hreq] at h
    cases h
    obtain ⟨h1, h2, h3, h4, h5, h6⟩ := owned_request hd req s
    refine ⟨fun hc => .inl ?_, fun hc => .inl ?_, fun hc => .inl ?_, fun hc => .inl ?_, fun hc => .inl ?_, fun hc => .inl ?_⟩
    · obtain ⟨a, b, rfl⟩ := h1 hc; exact ⟨hd, a, b, hi rfl⟩
    · obtain ⟨v, rfl⟩ := h2 hc; exact ⟨hd, v, hi rfl⟩
    · obtain ⟨v, rfl⟩ := h3 hc; exact ⟨hd, v, hi rfl⟩
    · obtain ⟨a, b, c, d, rfl⟩ := h4 hc; exact ⟨hd, a, b, c, d, hi rfl⟩
    · obtain ⟨v, rfl⟩ := h5 hc; exact ⟨hd, v, hi rfl⟩
    · obtain ⟨n, o, rfl⟩ := h6 hc; exact ⟨hd, n, o, hi rfl⟩
  | none =>
    by_cases hbytes : ∀ dt p bs, i ≠ .receiveFrame dt p bs
    · exact unchanged_settings ((keeps_exec_other hreq hbytes hon h).settings rfl)
    · simp only [not_forall, not_not] at hbytes
      obtain ⟨dt, p, bs, rfl⟩ := hbytes
      cases h
      cases hf : parseFrame bs with
      | none =>
        refine unchanged_settings ?_
        unfold receiveFrame
        rw [hf]
        exact ((keeps_passTime (k := true) dt s).trans (keeps_countDiscard ..)).settings rfl
      | some f =>
        have heq : receiveFrame dt p bs s = deliver dt p f (parsePayload f.kind f.payload) (arrive dt p s) := by
          unfold receiveFrame; rw [hf]
        have harr := settings_arrive dt p s
        rcases owned_deliver dt p f (parsePayload f.kind f.payload) (arrive dt p s) with hset | ⟨hk, hd, hown⟩
        · exact unchanged_settings (by rw [heq, hset, harr])
        · rw [harr, ← heq] at hown
          obtain ⟨h1, h2, h3, h4, h5, h6⟩ := hown
          exact ⟨fun hc => .inr ⟨dt, p, bs, f, rfl, hf, hk, hd, h1 hc⟩, fun hc => .inr ⟨dt, p, bs, f, rfl, hf, hk, hd, h2 hc⟩,
            fun hc => .inr ⟨dt, p, bs, f, rfl, hf, hk, hd, h3 hc⟩, fun hc => .inr ⟨dt, p, bs, f, rfl, hf, hk, hd, h4 hc⟩,
            fun hc => .inr ⟨dt, p, bs, f, rfl, hf, hk, hd, h5 hc⟩, fun hc => .inr ⟨dt, p, bs, f, rfl, hf, hk, hd, h6 hc⟩⟩

end Sys2Proof.Machine
end

section
/-! The increments of the generations (R21, R22), with the demotions they make (R126), and the flags computed again (R19). -/

namespace Sys2Proof.Machine

/-! ## Increments of several groups -/

/-- One increment of each group of a list, in its order. -/
def bumpAll (gs : List Group) (s : State) : State := gs.foldl (fun s g => bumpGen g s) s

theorem bumpGen_changes (g : Group) (s : State) :
    bumpGen g s = { s with gens := s.gens.set g ((s.gens[g] + 1) % 65536), pools := (bumpGen g s).pools } := by
  rw [bumpGen, demotePools_changes_pools]
theorem bumpAll_changes (gs : List Group) (s : State) :
    bumpAll gs s = { s with gens := (bumpAll gs s).gens, pools := (bumpAll gs s).pools } := by
  induction gs generalizing s with
  | nil => rfl
  | cons g gs ih =>
    obtain ⟨a, b, hab⟩ : ∃ a b, bumpGen g s = { s with gens := a, pools := b } := ⟨_, _, bumpGen_changes g s⟩
    have hstep : bumpAll (g :: gs) s = bumpAll gs { s with gens := a, pools := b } := by rw [← hab]; rfl
    rw [hstep]
    exact ih _
theorem bumpAll_chan (gs : List Group) (s : State) (c : Chan) : (bumpAll gs s).chan c = s.chan c := by
  rw [bumpAll_changes]; rfl
theorem bumpAll_groupOf (gs : List Group) (s : State) (c : Chan) : (bumpAll gs s).groupOf c = s.groupOf c := by
  rw [bumpAll_changes]; rfl
theorem bumpAll_near (gs : List Group) (s : State) (g k : Group) : (bumpAll gs s).near g k = s.near g k := by
  rw [bumpAll_changes]; rfl
theorem near_bumpGen (j : Group) (s : State) (g k : Group) : (bumpGen j s).near g k = s.near g k := bumpAll_near [j] s g k

theorem mem_watchedOf {s : State} {g k : Group} : k ∈ s.watchedOf g ↔ k = g ∨ s.near g k = true := by
  simp [State.watchedOf]
theorem demote_demote (e : PoolEntry) : e.demote.demote = e.demote := by
  by_cases h : e.state = .ready ∨ e.state = .blocked <;> simp [PoolEntry.demote, h]
/-- The demotion of a pool's entries (R126). -/
def demoted (p : List PoolEntry) : List PoolEntry := p.map PoolEntry.demote
theorem demoted_demoted (p : List PoolEntry) : demoted (demoted p) = demoted p := by
  rw [demoted, demoted, List.map_map]
  exact List.map_congr_left fun e _ => demote_demote e
theorem demoted_eq (p : List PoolEntry) : demoted p =
    p.map fun e => if e.state = .ready ∨ e.state = .blocked then { e with state := .unchecked } else e := rfl
theorem pool_foldl_demote (gs : List Group) (s : State) (k : Group) :
    (gs.foldl (fun s h => s.setPool h (demoted (s.pool h))) s).pool k = if k ∈ gs then demoted (s.pool k) else s.pool k := by
  induction gs generalizing s with
  | nil => rfl
  | cons g gs ih =>
    rw [List.foldl_cons, ih]
    by_cases e : k = g
    · subst e; simp [demoted_demoted]
    · simp [pool_setPool_other _ _ e, e]
theorem pool_bumpGen (g : Group) (s : State) (k : Group) :
    (bumpGen g s).pool k = if k = g ∨ s.near g k = true then demoted (s.pool k) else s.pool k := by
  refine (pool_foldl_demote _ _ k).trans ?_
  simp only [mem_watchedOf]; rfl
theorem pool_bumpAll (gs : List Group) (s : State) (k : Group) :
    (bumpAll gs s).pool k = if ∃ g ∈ gs, k = g ∨ s.near g k = true then demoted (s.pool k) else s.pool k := by
  induction gs generalizing s with
  | nil => simp [bumpAll]
  | cons g gs ih =>
    refine (ih (bumpGen g s)).trans ?_
    simp only [near_bumpGen, pool_bumpGen, List.exists_mem_cons_iff]
    by_cases h1 : k = g ∨ s.near g k = true
    · simp [h1, demoted_demoted]
    · simp [h1]

theorem gens_bumpGen (g : Group) (s : State) (k : Group) :
    (bumpGen g s).gens[k] = if k = g then (s.gens[k] + 1) % 65536 else s.gens[k] := by
  rw [bumpGen_changes]
  simp only [Fin.getElem_fin, Vector.getElem_set, Fin.ext_iff, eq_comm (a := k.val)]
  split
  next e => simp only [e]
  · rfl
theorem gens_bumpAll (gs : List Group) (s : State) (k : Group) :
    (bumpAll gs s).gens[k] = if gs.count k = 0 then s.gens[k] else (s.gens[k] + gs.count k) % 65536 := by
  induction gs generalizing s with
  | nil => rfl
  | cons g gs ih =>
    refine (ih (bumpGen g s)).trans ?_
    rw [gens_bumpGen, List.count_cons]
    by_cases e : k = g
    · subst e
      simp only [beq_self_eq_true, ↓reduceIte, Nat.add_eq_zero_iff, one_ne_zero, and_false]
      split <;> omega
    · have hne : (g == k) = false := beq_eq_false_iff_ne.mpr fun h => e h.symm
      simp [e, hne]
/-- With a generation within its range, the number of increments says it all. -/
theorem gens_bumpAll_of_lt {gs : List Group} {s : State} {k : Group} (h : s.gens[k] < 65536) :
    (bumpAll gs s).gens[k] = (s.gens[k] + gs.count k) % 65536 := by
  rw [gens_bumpAll]; split <;> omega

/-! ## The flags (R19) -/

theorem conflictOf_congr {s t : State} {c : Chan} (hocc : (t.chan c).occupied = (s.chan c).occupied)
    (hexcl : t.excl = s.excl) (hguard : t.spacing.guard = s.spacing.guard) (hcouple : t.couple = s.couple) :
    t.conflictOf c = s.conflictOf c := by
  rw [State.conflictOf, State.conflictOf, hocc, hexcl, hguard, State.groupOf, hcouple, State.groupOf]
theorem conflictOf_reflagAll (cs : List Chan) (s : State) (c : Chan) : (reflagAll cs s).conflictOf c = s.conflictOf c := by
  refine conflictOf_congr (occupied_reflagAll cs s c) ?_ ?_ ?_ <;> rw [reflagAll_changes_chans]
theorem conflictOf_reflag (d : Chan) (s : State) (c : Chan) : (reflag d s).conflictOf c = s.conflictOf c :=
  conflictOf_reflagAll [d] s c
theorem chan_reflag (d : Chan) (s : State) (c : Chan) : (reflag d s).chan c =
    { s.chan c with exclConflict := if c = d then (s.conflictOf c).isSome else (s.chan c).exclConflict } := by
  rw [reflag, chan_modChan]
  split
  next e => rw [e]
  · rfl
theorem chan_reflagAll (cs : List Chan) (s : State) (c : Chan) : (reflagAll cs s).chan c =
    { s.chan c with exclConflict := if c ∈ cs then (s.conflictOf c).isSome else (s.chan c).exclConflict } := by
  induction cs generalizing s with
  | nil => rfl
  | cons d cs ih =>
    refine (ih (reflag d s)).trans ?_
    rw [chan_reflag, conflictOf_reflag]
    by_cases e : c = d <;> by_cases hm : c ∈ cs <;> simp [e, hm]
theorem mem_chansOfGroups {s : State} {p : Group → Bool} {c : Chan} : c ∈ s.chansOfGroups p ↔ p (s.groupOf c) = true := by
  simp [State.chansOfGroups, mem_allChans]

end Sys2Proof.Machine
end

section
/-! SET_RULES and the profiles: what is stored, and the one change a request makes (R41 to R45, R100). -/

namespace Sys2Proof.Machine

/-! ## One setting (R41 to R44) -/

theorem setRule_shared (r : Rules) (x : Setting) (hx : x.code ≤ 8) : setRule r x = some (match x.code with
    | 0 => { r with spacing := { r.spacing with scc := max 1 (min 63 x.value) } }
    | 1 => { r with spacing := { r.spacing with snear := min 63 x.value } }
    | 2 => { r with spacing := { r.spacing with s3 := min 31 x.value } }
    | 3 => { r with spacing := { r.spacing with s5 := min 31 x.value } }
    | 4 => { r with spacing := { r.spacing with s3t := min 31 x.value } }
    | 5 => { r with spacing := { r.spacing with xhi := min 15 x.value } }
    | 6 => { r with spacing := { r.spacing with guard := min 15 x.value } }
    | 7 => { r with settle := min 60000 x.value }
    | _ => { r with proposal := max 5000 (min 120000 x.value) }) := by
  obtain ⟨code, group, value⟩ := x
  have hcode : code ≤ 8 := hx
  interval_cases code <;> simp [setRule, clamp]
/-- A code beyond the shared rules is an option of a group. -/
theorem setRule_option (r : Rules) (x : Setting) (hx : 9 ≤ x.code) : setRule r x = setOption r x.group x.code x.value := by
  obtain ⟨code, group, value⟩ := x
  obtain ⟨n, rfl⟩ : ∃ n, code = n + 9 := ⟨code - 9, by simp at hx; omega⟩
  rfl
theorem groupOfNat_val (g : Group) : groupOfNat g.val = some g := (groupOfNat_eq_some_iff _ _).mpr rfl
theorem flagOf_of_le {n : Nat} (h : n ≤ 1) : flagOf n = some (decide (n = 1)) := by
  interval_cases n <;> rfl
theorem setOption_eq (r : Rules) (g : Group) (v : Nat) : let o := r.opts[g]
    let put : GroupOpts → Rules := fun y => { r with opts := r.opts.set g y }
    setOption r g.val 9 v = (flagOf v).map (fun b => put { o with fifth := b })
    ∧ setOption r g.val 10 v = (flagOf v).map (fun b => put { o with three := b })
    ∧ setOption r g.val 11 v = (flagOf v).map (fun b => put { o with openSearch := b })
    ∧ setOption r g.val 12 v = some (put { o with downshift := clamp 1 8 v })
    ∧ setOption r g.val 13 v = (flagOf v).map (fun b => put { o with recycle := b })
    ∧ setOption r g.val 14 v = some (put { o with floor := clamp 0 100 v })
    ∧ setOption r g.val 15 v = some (put { o with dwell := clamp 1 63 v }) := by
  unfold setOption
  rw [groupOfNat_val]
  refine ⟨?_, ?_, ?_, rfl, ?_, rfl, rfl⟩ <;> cases flagOf v <;> rfl
theorem setRule_none {r : Rules} {x : Setting} (h : 15 < x.code ∨ 9 ≤ x.code ∧ 3 < x.group) : setRule r x = none := by
  rw [setRule_option r x (by omega)]
  by_cases hg : 3 < x.group
  · unfold setOption; rw [groupOfNat_eq_none hg]; rfl
  · unfold setOption
    cases groupOfNat x.group with
    | none => rfl
    | some g =>
      have hcode : 15 < x.code := by omega
      obtain ⟨n, hn⟩ : ∃ n, x.code = n + 16 := ⟨x.code - 16, by omega⟩
      rw [hn]; rfl

/-! ## The change of a request (R45) -/

theorem count_filter_finRange {n : Nat} (p : Fin n → Bool) (g : Fin n) : ((List.finRange n).filter p).count g = (p g).toNat := by
  cases hp : p g with
  | true => rw [List.count_filter hp, List.count_finRange]; rfl
  | false => exact List.count_eq_zero.mpr fun hm => by simp [hp] at hm
/-- How often SET_RULES increments a group (R45). -/
theorem count_ruleBumps (old new : Rules) (g : Group) : (ruleBumps old new).count g =
    (Spacing.raised old.spacing new.spacing).toNat + (!(old.opts[g]).fifth && (new.opts[g]).fifth).toNat
      + (!(old.opts[g]).three && (new.opts[g]).three).toNat := by
  rw [ruleBumps, List.count_append, List.count_append, count_filter_finRange, count_filter_finRange]
  congr 2
  cases Spacing.raised old.spacing new.spacing
  · rfl
  · exact List.count_finRange g
theorem raised_eq (old new : Spacing) : Spacing.raised old new = decide (old.scc < new.scc ∨ old.snear < new.snear
    ∨ old.s3 < new.s3 ∨ old.s5 < new.s5 ∨ old.s3t < new.s3t ∨ old.xhi < new.xhi ∨ old.guard < new.guard) := by
  simp [Spacing.raised, Bool.or_assoc]

/-- The rules as stored, before what follows from them. -/
def withRules (new : Rules) (s : State) : State :=
  { s with spacing := new.spacing, settlePeriod := new.settle, proposalTimeout := new.proposal, opts := new.opts }
/-- The state a SET_RULES leaves for its reply. -/
def rulesChanged (new : Rules) (s : State) : State :=
  let t := bumpAll (ruleBumps s.rules new) (withRules new s)
  if s.spacing.guard = new.spacing.guard then t else reflagAll allChans t
theorem applyRules_eq (h : ReqHdr) (new : Rules) (s : State) :
    applyRules h new s = replyOk h 0x28 (encRules new) (rulesChanged new s) := rfl
theorem rulesChanged_changes (new : Rules) (s : State) : rulesChanged new s = { s with
    spacing := new.spacing, settlePeriod := new.settle, proposalTimeout := new.proposal, opts := new.opts
    gens := (bumpAll (ruleBumps s.rules new) (withRules new s)).gens
    pools := (bumpAll (ruleBumps s.rules new) (withRules new s)).pools, chans := (rulesChanged new s).chans } := by
  unfold rulesChanged
  dsimp only
  generalize hb : bumpAll (ruleBumps s.rules new) (withRules new s) = t
  have ht : t = { withRules new s with gens := t.gens, pools := t.pools } := by rw [← hb]; exact bumpAll_changes _ _
  split
  · rw [ht]; rfl
  · rw [reflagAll_changes_chans, ht]; rfl
theorem gens_rulesChanged (new : Rules) (s : State) (g : Group) : (rulesChanged new s).gens[g] =
    if (ruleBumps s.rules new).count g = 0 then s.gens[g] else (s.gens[g] + (ruleBumps s.rules new).count g) % 65536 :=
  (congrArg (fun t : State => t.gens[g]) (rulesChanged_changes new s)).trans (gens_bumpAll _ (withRules new s) g)
theorem pool_rulesChanged (new : Rules) (s : State) (g : Group) : (rulesChanged new s).pool g =
    if ∃ k, (ruleBumps s.rules new).count k ≠ 0 ∧ (g = k ∨ s.near k g = true) then demoted (s.pool g) else s.pool g := by
  refine (congrArg (fun t : State => t.pool g) (rulesChanged_changes new s)).trans
    ((pool_bumpAll _ (withRules new s) g).trans ?_)
  simp only [← List.count_pos_iff, Nat.pos_iff_ne_zero]
  rfl
theorem chan_rulesChanged (new : Rules) (s : State) (c : Chan) : (rulesChanged new s).chan c =
    { s.chan c with exclConflict := if s.spacing.guard = new.spacing.guard then (s.chan c).exclConflict
      else ((rulesChanged new s).conflictOf c).isSome } := by
  unfold rulesChanged
  dsimp only
  split
  · exact bumpAll_chan _ _ c
  · rw [chan_reflagAll, bumpAll_chan, if_pos (mem_allChans c), conflictOf_reflagAll]; rfl

/-! ## Profiles (R98, R100) -/

theorem condKindOf_eq (n : Nat) : condKindOf n = [CondKind.foreign, .dropout, .sweepHit, .none][n]? := by
  rcases n with _ | _ | _ | _ | n <;> simp [condKindOf]
theorem combineOf_eq (n : Nat) : combineOf n = [Combine.sequence, .either][n]? := by
  rcases n with _ | _ | n <;> simp [combineOf]
theorem responseOf_eq (n : Nat) : responseOf n = [Response.report, .move, .freeze][n]? := by
  rcases n with _ | _ | _ | n <;> simp [responseOf]
theorem condOf_of_kind {o : CondOps} {k : CondKind} (h : condKindOf o.kind = some k) :
    condOf o = some ⟨k, clampThreshold k o.threshold, clamp 1 8 o.persistence, clamp 0 3 o.reach⟩ := by
  rw [condOf, h]; rfl
theorem clampThreshold_eq (k : CondKind) (t : Nat) :
    ((k = .foreign ∨ k = .sweepHit) → clampThreshold k t = min 100 t) ∧ (k = .dropout → clampThreshold k t = max 1 (min 255 t))
    ∧ (k = .none → 1 ≤ t → t ≤ 100 → clampThreshold k t = t) := by
  refine ⟨?_, ?_, ?_⟩
  · rintro (rfl | rfl) <;> simp [clampThreshold, clamp]
  · rintro rfl; rfl
  · rintro rfl h1 h2; exact if_pos ⟨h1, h2⟩
theorem profileFrom_none {o : ProfileOps} (h : condKindOf o.level1.kind = none ∨ condKindOf o.level2.kind = none
    ∨ combineOf o.combine = none ∨ responseOf o.response = none ∨ 1 < o.returnOnClear) : profileFrom o = none := by
  unfold profileFrom condOf
  rcases h with h | h | h | h | h
  · simp [h]
  · simp [h]
  · simp [h]
  · simp [h]
  · simp [flagOf_eq_none h]

/-- Settles O17: one setting by its code, one request by its increments, one profile field by field. -/
theorem rulesAndProfilesAreStored : Obligations.RulesAndProfilesAreStored := by
  refine ⟨fun r x => ⟨setRule_shared r x, fun g hg => ?options, setRule_none, rfl, fun _ => rfl⟩, fun h s xs ha => ⟨fun hn => ?bad,
    fun new hnew hheld => ?stored⟩, fun o => ⟨fun k1 k2 m r h1 h2 hm hr hrc => ?profile, fun hno => ?noProfile⟩⟩
  case options =>
    obtain ⟨o9, o10, o11, o12, o13, o14, o15⟩ := setOption_eq r g x.value
    have hopt : 9 ≤ x.code → setRule r x = setOption r g.val x.code x.value := fun hc => by rw [setRule_option r x hc, hg]
    refine ⟨fun hv => ⟨fun hc => ?_, fun hc => ?_, fun hc => ?_, fun hc => ?_⟩, fun hv hc => ?_, fun hc => ?_, fun hc => ?_,
      fun hc => ?_⟩
    · rw [hopt (by omega), hc, o9, flagOf_of_le hv]; rfl
    · rw [hopt (by omega), hc, o10, flagOf_of_le hv]; rfl
    · rw [hopt (by omega), hc, o11, flagOf_of_le hv]; rfl
    · rw [hopt (by omega), hc, o13, flagOf_of_le hv]; rfl
    · have hflag := flagOf_eq_none hv
      rcases hc with hc | hc | hc | hc
      · rw [hopt (by omega), hc, o9, hflag]; rfl
      · rw [hopt (by omega), hc, o10, hflag]; rfl
      · rw [hopt (by omega), hc, o11, hflag]; rfl
      · rw [hopt (by omega), hc, o13, hflag]; rfl
    · rw [hopt (by omega), hc, o12]; rfl
    · rw [hopt (by omega), hc, o14, clamp, Nat.zero_max]
    · rw [hopt (by omega), hc, o15]; rfl
  case bad =>
    rw [exec_of_change rfl ha rfl, setRules, rules_arrived, hn]; rfl
  case stored =>
    have hcount := count_ruleBumps s.rules new
    rw [raised_eq] at hcount
    refine ⟨rulesChanged new (arrived h.dt h.port s), ?_, ?_, fun g => ?_, fun g => ?_, fun c => ?_, ?_⟩
    · rw [exec_of_change rfl ha rfl, setRules, rules_arrived, hnew]
      simp only [deferOr, held_arrived, hheld, applyRules_eq, Bool.false_eq_true, if_false]
    · rw [rulesChanged_changes]; rfl
    · rw [gens_rulesChanged, rules_arrived, arrived_gens, hcount]; rfl
    · simp only [pool_rulesChanged, rules_arrived, near_arrived, pool_arrived, hcount]; rfl
    · rw [chan_rulesChanged, chan_arrived, arrived_spacing]
    · have hall := rulesChanged_changes new (arrived h.dt h.port s)
      generalize rulesChanged new (arrived h.dt h.port s) = t at hall ⊢
      rw [hall]
  case profile =>
    replace h1 := (condKindOf_eq _).trans h1
    replace h2 := (condKindOf_eq _).trans h2
    replace hm := (combineOf_eq _).trans hm
    replace hr := (responseOf_eq _).trans hr
    obtain ⟨a1, b1, c1⟩ := clampThreshold_eq k1 o.level1.threshold
    obtain ⟨a2, b2, c2⟩ := clampThreshold_eq k2 o.level2.threshold
    refine ⟨_, by rw [profileFrom, condOf_of_kind h1, condOf_of_kind h2, hm, hr, flagOf_of_le hrc]; rfl,
      ⟨rfl, rfl, Nat.zero_max _, a1, b1, c1⟩, ⟨rfl, rfl, Nat.zero_max _, a2, b2, c2⟩, rfl, rfl, rfl, rfl, rfl⟩
  case noProfile =>
    simp only [← condKindOf_eq, ← combineOf_eq, ← responseOf_eq] at hno
    exact profileFrom_none hno

end Sys2Proof.Machine
end

section
/-! The exclusions: the table, the increments and the flags of an addition and of a removal (R16 to R18). -/

namespace Sys2Proof.Machine

/-! ## The table (R16) -/

/-- An entry with the scope of an addition, when it has its range. -/
def Excl.widen (a b : Nat) (sc : GroupSet) (x : Excl) : Excl := if x.sameRange a b then { x with scope := x.scope ||| sc } else x
theorem sameRange_widen (a b : Nat) (sc : GroupSet) (x : Excl) : (x.widen a b sc).sameRange a b = x.sameRange a b := by
  unfold Excl.widen; split <;> rfl
theorem before_widen (a b : Nat) (sc : GroupSet) (x y : Excl) : (x.widen a b sc).before (y.widen a b sc) = x.before y := by
  have hrange : ∀ z : Excl, (z.widen a b sc).first = z.first ∧ (z.widen a b sc).last = z.last := fun z => by
    unfold Excl.widen; split <;> exact ⟨rfl, rfl⟩
  exact before_congr (hrange x).1 (hrange x).2 (hrange y).1 (hrange y).2
theorem widen_of_sameRange {a b : Nat} {sc : GroupSet} {x : Excl} (h : x.sameRange a b = true) :
    x.widen a b sc = ⟨a, b, x.scope ||| sc⟩ := by
  obtain ⟨rfl, rfl⟩ := (sameRange_iff a b x).mp h
  rw [Excl.widen, if_pos h]
theorem map_widen_of_none {a b : Nat} {sc : GroupSet} {xs : List Excl} (h : ∀ x ∈ xs, x.sameRange a b = false) :
    xs.map (Excl.widen a b sc) = xs := by
  conv_rhs => rw [← List.map_id xs]
  exact List.map_congr_left fun x hx => by rw [Excl.widen, h x hx]; rfl
/-- The entry with a range stands alone in an ordered table. -/
theorem not_sameRange_of_before {a b : Nat} {x y : Excl} (hx : x.sameRange a b = true) (h : x.before y = true) :
    y.sameRange a b = false := by
  rw [← Bool.not_eq_true, sameRange_iff]
  rw [sameRange_iff] at hx
  rw [before_iff] at h
  omega

theorem addedTable_of_some {a b : Nat} {sc : GroupSet} {x : Excl} {xs : List Excl}
    (h : xs.find? (Excl.sameRange a b) = some x) : addedTable a b sc xs = xs.map (Excl.widen a b sc) :=
  if_pos (List.any_eq_true.mpr ⟨x, List.mem_of_find?_eq_some h, List.find?_some h⟩)
theorem addedTable_of_none {a b : Nat} {sc : GroupSet} {xs : List Excl} (h : xs.find? (Excl.sameRange a b) = none) :
    addedTable a b sc xs = insertExcl ⟨a, b, sc⟩ xs := by
  rw [List.find?_eq_none] at h
  exact if_neg fun hany => by
    obtain ⟨x, hx, hr⟩ := List.any_eq_true.mp hany
    exact h x hx hr
/-- Where a widened entry stands, and that the others stand as they stood. -/
theorem widened_at {a b : Nat} {sc : GroupSet} {x : Excl} {xs : List Excl} (hs : xs.Pairwise fun x y => x.before y = true)
    (h : xs.find? (Excl.sameRange a b) = some x) :
    let i := (xs.map (Excl.widen a b sc)).findIdx (Excl.sameRange a b)
    (xs.map (Excl.widen a b sc))[i]? = some ⟨a, b, x.scope ||| sc⟩ ∧ xs[i]? = some x
      ∧ (xs.map (Excl.widen a b sc)).eraseIdx i = xs.eraseIdx i := by
  induction xs with
  | nil => cases h
  | cons y ys ih =>
    obtain ⟨hy, hys⟩ := List.pairwise_cons.mp hs
    rw [List.map_cons, List.findIdx_cons, sameRange_widen]
    by_cases hr : y.sameRange a b = true
    · rw [List.find?_cons_of_pos hr] at h
      obtain rfl := Option.some.inj h
      rw [hr]
      exact ⟨congrArg some (widen_of_sameRange hr), rfl,
        map_widen_of_none fun z hz => not_sameRange_of_before hr (hy z hz)⟩
    · rw [List.find?_cons_of_neg hr] at h
      rw [Bool.not_eq_true] at hr
      obtain ⟨h1, h2, h3⟩ := ih hys h
      have hsame : y.widen a b sc = y := by rw [Excl.widen, hr]; rfl
      rw [hr, hsame]
      exact ⟨h1, h2, congrArg (y :: ·) h3⟩
/-- Where a new entry stands, and that it is the only change. -/
theorem inserted_at {a b : Nat} {sc : GroupSet} {xs : List Excl} (h : xs.find? (Excl.sameRange a b) = none) :
    let i := (insertExcl ⟨a, b, sc⟩ xs).findIdx (Excl.sameRange a b)
    (insertExcl ⟨a, b, sc⟩ xs)[i]? = some ⟨a, b, sc⟩ ∧ (insertExcl ⟨a, b, sc⟩ xs).eraseIdx i = xs := by
  have hown : Excl.sameRange a b ⟨a, b, sc⟩ = true := (sameRange_iff a b _).mpr ⟨rfl, rfl⟩
  induction xs with
  | nil => simp [insertExcl, List.findIdx_cons, hown]
  | cons y ys ih =>
    have hall := List.find?_eq_none.mp h
    have hys : ys.find? (Excl.sameRange a b) = none :=
      List.find?_eq_none.mpr fun z hz => hall z (List.mem_cons_of_mem y hz)
    unfold insertExcl
    split
    · rw [List.findIdx_cons, hown]; exact ⟨rfl, rfl⟩
    · obtain ⟨h1, h2⟩ := ih hys
      rw [List.findIdx_cons, Bool.eq_false_iff.mpr (hall y List.mem_cons_self)]
      exact ⟨h1, congrArg (y :: ·) h2⟩
theorem sorted_addedTable (a b : Nat) (sc : GroupSet) {xs : List Excl} (hs : xs.Pairwise fun x y => x.before y = true) :
    (addedTable a b sc xs).Pairwise fun x y => x.before y = true := by
  cases h : xs.find? (Excl.sameRange a b) with
  | some x =>
    rw [addedTable_of_some h, List.pairwise_map]
    exact hs.imp fun {x y} hxy => (before_widen a b sc x y).trans hxy
  | none =>
    rw [addedTable_of_none h]
    exact sorted_insertExcl (fun y hy hr => List.find?_eq_none.mp h y hy ((sameRange_iff a b y).mpr hr)) hs

/-! ## The groups of an addition (R17) -/

theorem mem_groups {b : GroupSet} {g : Group} : g ∈ b.groups ↔ b.has g = true := by simp [GroupSet.groups]
theorem count_groups (b : GroupSet) (g : Group) : b.groups.count g = (b.has g).toNat := count_filter_finRange _ g
/-- The flags an addition sets. -/
theorem flagged (x : Excl) (cs : List Chan) (s : State) :
    let t := cs.foldl (fun s c => if (s.chan c).occupied.any (x.covers s.spacing.guard)
      then s.modChan c fun r => { r with exclConflict := true } else s) s
    t = { s with chans := t.chans } ∧ ∀ c, t.chan c = { s.chan c with
      exclConflict := (s.chan c).exclConflict || (decide (c ∈ cs) && (s.chan c).occupied.any (x.covers s.spacing.guard)) } := by
  induction cs generalizing s with
  | nil => exact ⟨rfl, fun c => by simp⟩
  | cons d cs ih =>
    rw [List.foldl_cons]
    split
    next hd =>
      obtain ⟨h1, h2⟩ := ih (s.modChan d fun r => { r with exclConflict := true })
      refine ⟨h1, fun c => (h2 c).trans ?_⟩
      rw [chan_modChan]
      by_cases e : c = d
      · subst e; rw [if_pos rfl]; simp [hd]
      · rw [if_neg e]; simp [e, modChan_spacing]
    next hd =>
      obtain ⟨h1, h2⟩ := ih s
      refine ⟨h1, fun c => (h2 c).trans ?_⟩
      by_cases e : c = d
      · subst e; simp [hd]
      · simp [e]
theorem tighten_changes (a b : Nat) (e : GroupSet) (s : State) : tighten a b e s = { s with
    gens := (bumpAll e.groups s).gens, pools := (bumpAll e.groups s).pools, chans := (tighten a b e s).chans } := by
  have h := (flagged ⟨a, b, e⟩ ((bumpAll e.groups s).chansOfGroups e.has) (bumpAll e.groups s)).1
  have hb := bumpAll_changes e.groups s
  change tighten a b e s = { bumpAll e.groups s with chans := (tighten a b e s).chans } at h
  generalize bumpAll e.groups s = t at h hb ⊢
  rw [h, hb]
theorem gens_tighten (a b : Nat) (e : GroupSet) (s : State) (g : Group) : (tighten a b e s).gens[g] =
    if e.has g = true then (s.gens[g] + 1) % 65536 else s.gens[g] := by
  refine (congrArg (fun t : State => t.gens[g]) (tighten_changes a b e s)).trans ((gens_bumpAll _ s g).trans ?_)
  rw [count_groups]
  cases e.has g <;> rfl
theorem pool_tighten (a b : Nat) (e : GroupSet) (s : State) (g : Group) : (tighten a b e s).pool g =
    if ∃ k, e.has k = true ∧ (g = k ∨ s.near k g = true) then demoted (s.pool g) else s.pool g := by
  refine (congrArg (fun t : State => t.pool g) (tighten_changes a b e s)).trans ((pool_bumpAll _ s g).trans ?_)
  simp only [mem_groups]
theorem chan_tighten (a b : Nat) (e : GroupSet) (s : State) (c : Chan) : (tighten a b e s).chan c = { s.chan c with
    exclConflict := (s.chan c).exclConflict || (e.has (s.groupOf c)
      && (s.chan c).occupied.any fun f => decide (a ≤ f + s.spacing.guard ∧ f ≤ b + s.spacing.guard)) } := by
  refine ((flagged ⟨a, b, e⟩ ((bumpAll e.groups s).chansOfGroups e.has) (bumpAll e.groups s)).2 c).trans ?_
  have hcovers : (fun f => decide (a ≤ f + s.spacing.guard ∧ f ≤ b + s.spacing.guard)) =
      (⟨a, b, e⟩ : Excl).covers s.spacing.guard := by funext f; simp [Excl.covers]
  have hguard : (bumpAll e.groups s).spacing = s.spacing := by rw [bumpAll_changes]
  rw [hcovers, bumpAll_chan, hguard]
  simp only [mem_chansOfGroups, bumpAll_groupOf, Bool.decide_eq_true]

/-- The table of a state edited. -/
def withExcl (v : List Excl) (s : State) : State := { s with excl := v }
/-- The state an addition leaves for its reply (R16, R17). -/
def exclAdded (a b : Nat) (sc : GroupSet) (s : State) : State :=
  tighten a b (effectiveScope a b sc s.excl) (withExcl (addedTable a b sc s.excl) s)
theorem exclAdded_changes (a b : Nat) (sc : GroupSet) (s : State) : exclAdded a b sc s = { s with
    excl := addedTable a b sc s.excl, gens := (exclAdded a b sc s).gens, pools := (exclAdded a b sc s).pools
    chans := (exclAdded a b sc s).chans } := by
  have h := tighten_changes a b (effectiveScope a b sc s.excl) (withExcl (addedTable a b sc s.excl) s)
  change exclAdded a b sc s = _ at h
  rw [h]; rfl
theorem excl_exclAdded (a b : Nat) (sc : GroupSet) (s : State) : (exclAdded a b sc s).excl = addedTable a b sc s.excl := by
  rw [exclAdded_changes]
theorem pool_exclAdded (a b : Nat) (sc : GroupSet) (s : State) (g : Group) : (exclAdded a b sc s).pool g =
    if ∃ k, (effectiveScope a b sc s.excl).has k = true ∧ (g = k ∨ s.near k g = true) then demoted (s.pool g) else s.pool g :=
  pool_tighten a b _ (withExcl _ s) g
theorem chan_exclAdded (a b : Nat) (sc : GroupSet) (s : State) (c : Chan) : (exclAdded a b sc s).chan c = { s.chan c with
    exclConflict := (s.chan c).exclConflict || ((effectiveScope a b sc s.excl).has (s.groupOf c)
      && (s.chan c).occupied.any fun f => decide (a ≤ f + s.spacing.guard ∧ f ≤ b + s.spacing.guard)) } :=
  chan_tighten a b _ (withExcl _ s) c
/-- An addition passes its tests when its operands are within their values and the table has room for a new range. -/
theorem addExclusion_eq (h : ReqHdr) {lo hi k : Nat} {s : State} (hle : lo ≤ hi) (hhi : hi ≤ 8191) (h1 : 1 ≤ k) (h15 : k ≤ 15) :
    addExclusion h lo hi k s = if (s.excl.find? (Excl.sameRange lo hi)).isSome = false ∧ 48 ≤ s.excl.length
      then refuse h 0x18 .full s
      else deferOr h (.addExclusion lo hi k) (s.held (effectiveScope lo hi (BitVec.ofNat 4 k) s.excl).groups)
        (applyExclusion h lo hi (BitVec.ofNat 4 k)) s := by
  have hgrid : (offGrid lo || offGrid hi) = false := by
    simp only [offGrid_eq_decide, Bool.or_eq_false_iff, decide_eq_false_iff_not]; omega
  have hvalues : ¬ (hi < lo ∨ k = 0 ∨ 15 < k) := by omega
  have hany : s.excl.any (Excl.sameRange lo hi) = (s.excl.find? (Excl.sameRange lo hi)).isSome := by
    rw [Bool.eq_iff_iff, List.any_eq_true, List.find?_isSome]
  unfold addExclusion
  simp only [hgrid, hvalues, hany, Bool.false_eq_true, if_false, Bool.and_eq_true, Bool.not_eq_true', decide_eq_true_eq]

/-- The state a removal leaves for its reply (R18). -/
def exclRemoved (x : Excl) (v : List Excl) (s : State) : State :=
  reflagAll ((withExcl v s).chansOfGroups x.scope.has) (withExcl v s)
theorem exclRemoved_changes (x : Excl) (v : List Excl) (s : State) :
    exclRemoved x v s = { s with excl := v, chans := (exclRemoved x v s).chans } := reflagAll_changes_chans _ _
theorem chan_exclRemoved (x : Excl) (v : List Excl) (s : State) (c : Chan) : (exclRemoved x v s).chan c = { s.chan c with
    exclConflict := if x.scope.has (s.groupOf c) = true then ((exclRemoved x v s).conflictOf c).isSome
      else (s.chan c).exclConflict } := by
  refine (chan_reflagAll _ _ c).trans ?_
  simp only [mem_chansOfGroups, exclRemoved, conflictOf_reflagAll]
  rfl

/-- Settles O28: the table by where the entry stands in it, the rest by the increments and the flags. -/
theorem exclusionsAreAddedAndRemoved : Obligations.ExclusionsAreAddedAndRemoved := by
  intro h s lo hi hle hhi hsorted
  refine ⟨fun k ha h1 h15 hroom => ?added, fun k ha h1 h15 hnone hfull => ?full, fun ha => ?removed⟩
  case full =>
    rw [exec_of_change rfl ha rfl, addExclusion_eq h hle hhi h1 h15, arrived_excl, hnone, if_pos ⟨rfl, hfull⟩]; rfl
  case added =>
    intro b eff hheld
    have heff : effectiveScope lo hi b s.excl = eff := rfl
    have hexec : exec (.addExclusion h lo hi k) s = .next (finish (arrived h.dt h.port s) (replyOk h 0x18
        [byteOf ((exclAdded lo hi b (arrived h.dt h.port s)).excl.findIdx (Excl.sameRange lo hi))]
        (exclAdded lo hi b (arrived h.dt h.port s)))) := by
      have hno : ¬ ((s.excl.find? (Excl.sameRange lo hi)).isSome = false ∧ 48 ≤ s.excl.length) := by
        rintro ⟨h2, h3⟩
        rcases hroom with h4 | h4
        · rw [h2] at h4; cases h4
        · omega
      rw [exec_of_change rfl ha rfl, addExclusion_eq h hle hhi h1 h15, arrived_excl, if_neg hno, held_arrived, heff]
      simp only [deferOr, hheld, Bool.false_eq_true, if_false]
      rfl
    have htable : (exclAdded lo hi b (arrived h.dt h.port s)).excl = addedTable lo hi b s.excl := by
      rw [excl_exclAdded, arrived_excl]
    refine ⟨_, _, hexec, ?_⟩
    rw [htable]
    refine ⟨?_, ?_, sorted_addedTable lo hi b hsorted, fun g => ?_, fun g => ?_, fun c => ?_, ?_⟩
    · cases hold : s.excl.find? (Excl.sameRange lo hi) with
      | some x => rw [addedTable_of_some hold]; exact (widened_at hsorted hold).1
      | none => rw [addedTable_of_none hold]; exact (inserted_at hold).1
    · cases hold : s.excl.find? (Excl.sameRange lo hi) with
      | some x => rw [addedTable_of_some hold]; exact (widened_at hsorted hold).2
      | none => rw [addedTable_of_none hold]; exact (inserted_at hold).2
    · refine (gens_tighten lo hi _ (withExcl _ (arrived h.dt h.port s)) g).trans ?_
      rw [arrived_excl, heff]
      simp only [withExcl, arrived_gens]
    · simp only [pool_exclAdded, arrived_excl, heff, near_arrived, pool_arrived]; rfl
    · rw [chan_exclAdded, arrived_excl, heff, chan_arrived, groupOf_arrived, arrived_spacing]
    · have hall := exclAdded_changes lo hi b (arrived h.dt h.port s)
      rw [arrived_excl] at hall
      exact hall
  case removed =>
    have hgrid : (offGrid lo || offGrid hi) = false := by
      simp only [offGrid_eq_decide, Bool.or_eq_false_iff, decide_eq_false_iff_not]; omega
    rw [exec_of_change rfl ha rfl, removeExclusion, hgrid, arrived_excl]
    cases hold : s.excl.find? (Excl.sameRange lo hi) with
    | none => rfl
    | some x =>
      refine ⟨exclRemoved x (s.excl.filter fun y => !y.sameRange lo hi) (arrived h.dt h.port s), rfl, ?_, fun c => ?_, ?_⟩
      · rw [exclRemoved_changes]; rfl
      · rw [chan_exclRemoved, chan_arrived, groupOf_arrived]
      · have hall := exclRemoved_changes x (s.excl.filter fun y => !y.sameRange lo hi) (arrived h.dt h.port s)
        generalize exclRemoved x _ (arrived h.dt h.port s) = t at hall ⊢
        rw [hall]

end Sys2Proof.Machine
end

section
/-! WRITE_CHANNEL, the pools' edits, SET_GROUPS, and the writes that wait for a held group (R14, R15, R55, R121 to R123,
R187). -/

namespace Sys2Proof.Machine

/-! ## WRITE_CHANNEL (R187) -/

/-- The tests of a write, in their order. -/
theorem writeChannel_eq (h : ReqHdr) {st sl cl p q n f : Nat} {c : Chan} {x : Attrs} {s : State} (hc : chanOf st sl = some c)
    (hx : attrsOf cl p q n = some x) : writeChannel h st sl cl p q n f s =
      if 8191 < f ∧ f ≠ 65535 then reply h 0x04 .outOfGrid 0 [] s
      else if (s.chan c).state = .unused then reply h 0x04 .notFound 0 [] s
      else if f ≠ 65535 ∧ s.operBusy c = true then reply h 0x04 .busy 0 [] s
      else deferOr h (.writeChannel st sl cl p q n f) (s.writeWaits c x.cls)
        (applyWrite h c x (if f = 65535 then none else some f)) s := by
  unfold writeChannel
  rw [hc, hx]
  by_cases e : f = 65535
  · simp [e]; rfl
  · simp [e, offGrid_eq_decide]; rfl
theorem storeAttrs_other (c : Chan) (x : Attrs) (s : State) {d : Chan} (h : d ≠ c) : (storeAttrs c x s).chan d = s.chan d := by
  rw [storeAttrs_eq]
  split
  · rw [chan_bumpGen, chan_setChan_other _ _ h]
  · rw [chan_setChan_other _ _ h]
theorem storeAttrs_same (c : Chan) (x : Attrs) (s : State) : (storeAttrs c x s).chan c = (s.chan c).attributed s x := by
  rw [storeAttrs_eq]
  split
  · rw [chan_bumpGen, chan_setChan_same]
  · rw [chan_setChan_same]
theorem attributed_eq (s : State) (x : Attrs) (r : ChanRec) : r.attributed s x = { r with
    cls := x.cls, priority := x.priority, profile := x.profile, pinned := x.pinned
    watch := if r.profile = x.profile then r.watch
      else ⟨if (r.state = .active ∨ r.state = .held ∨ r.state = .moving) ∧ s.liveProfile x.profile = true
        then .armed else .off, 0, 0, none⟩
    returnWatch := if r.profile = x.profile then r.returnWatch else none } := by
  have hwatch : s.rewatch { r with cls := x.cls, priority := x.priority, profile := x.profile, pinned := x.pinned } =
      ⟨if (r.state = .active ∨ r.state = .held ∨ r.state = .moving) ∧ s.liveProfile x.profile = true
        then .armed else .off, 0, 0, none⟩ := by
    unfold State.rewatch State.freshWatch
    by_cases h1 : r.state = .active ∨ r.state = .held ∨ r.state = .moving
    · rw [if_pos h1]
      by_cases h2 : s.liveProfile x.profile = true
      · rw [if_pos h2, if_pos ⟨h1, h2⟩]; rfl
      · rw [if_neg h2, if_neg fun h => h2 h.2]; rfl
    · rw [if_neg h1, if_neg fun h => h1 h.1]; rfl
  unfold ChanRec.attributed
  dsimp only
  rw [hwatch]
  by_cases h : r.profile = x.profile <;> simp [h]
theorem gens_storeAttrs (c : Chan) (x : Attrs) (s : State) (g : Group) : (storeAttrs c x s).gens[g] =
    if (s.chan c).cls = .low ∧ x.cls = .high ∧ (s.chan c).occupied ≠ [] ∧ g = s.groupOf c
    then (s.gens[g] + 1) % 65536 else s.gens[g] := by
  rw [storeAttrs_eq]
  by_cases h : (s.chan c).cls = .low ∧ x.cls = .high ∧ (s.chan c).occupied ≠ []
  · rw [if_pos h, gens_bumpGen]
    obtain ⟨h1, h2, h3⟩ := h
    simp only [h1, h2, h3, true_and, ne_eq, not_false_eq_true, setChan_gens]
  · rw [if_neg h, if_neg (fun h' => h ⟨h'.1, h'.2.1, h'.2.2.1⟩)]; rfl
theorem storeAttrs_changes (c : Chan) (x : Attrs) (s : State) : storeAttrs c x s = { s with
    chans := (storeAttrs c x s).chans, gens := (storeAttrs c x s).gens, pools := (storeAttrs c x s).pools } := by
  rw [storeAttrs_eq]
  split
  · have h := bumpGen_changes (s.groupOf c) (s.setChan c ((s.chan c).attributed s x))
    generalize bumpGen (s.groupOf c) (s.setChan c ((s.chan c).attributed s x)) = t at h ⊢
    rw [h]; rfl
  · rfl
theorem assigned_storeAttrs (c : Chan) (x : Attrs) (s : State) : ((storeAttrs c x s).chan c).assigned = (s.chan c).assigned := by
  rw [storeAttrs_same, attributed_eq]

/-- Settles O20: the tests in their order, and then the attributes and what follows the frequency. -/
theorem writesStoreTheirAttributes : Obligations.WritesStoreTheirAttributes := by
  intro h s st sl cl p q n f c x hc hx ha
  dsimp only
  rw [exec_of_change rfl ha rfl, writeChannel_eq h hc hx, chan_arrived]
  refine ⟨fun h1 h2 => ?_, fun h1 h2 => ?_, fun h1 h2 h3 => ?_, fun h2 hw hf => ?_⟩
  · rw [if_pos ⟨h1, h2⟩]
  · rw [if_neg (by omega), if_pos h2]
  · rw [if_neg (by omega), if_neg h2, if_pos ⟨by omega, h3⟩]
  · have hno : ¬ (f ≠ 65535 ∧ (arrived h.dt h.port s).operBusy c = true) := by
      rintro ⟨h4, h5⟩
      rcases hf with h6 | ⟨-, h6⟩
      · exact h4 h6
      · rw [h5] at h6; cases h6
    rw [if_neg (by omega), if_neg h2, if_neg hno]
    refine ⟨storeAttrs c x (arrived h.dt h.port s), ?_, fun d hd => ?_, ?_, fun g => ?_, storeAttrs_changes _ _ _⟩
    · have hassigned := assigned_storeAttrs c x (arrived h.dt h.port s)
      rw [chan_arrived] at hassigned
      simp only [deferOr, hw, Bool.false_eq_true, if_false, applyWrite]
      by_cases e : f = 65535
      · simp only [e, if_true]
      · simp only [e, if_false, hassigned]
        rfl
    · rw [storeAttrs_other c x _ hd, chan_arrived]
    · rw [storeAttrs_same, attributed_eq, chan_arrived, liveProfile_arrived]
    · rw [gens_storeAttrs, chan_arrived, groupOf_arrived, arrived_gens]

/-! ## The pools (R121 to R123) -/

/-- What a load keeps, and how many it leaves out for each reason. -/
theorem loadFreqs_eq (s : State) (g : Group) (seen fs : List Nat) :
    let l := loadFreqs s g seen fs
    let distinct := (fs.filter fun f => !seen.contains f).eraseDups
    l.kept = distinct.filter (fun f => !s.occupiedIn g f) ∧ l.dup + distinct.length = fs.length
      ∧ l.occ + l.kept.length = distinct.length := by
  induction fs generalizing seen with
  | nil => exact ⟨rfl, rfl, rfl⟩
  | cons f fs ih =>
    obtain ⟨h1, h2, h3⟩ := ih (f :: seen)
    unfold loadFreqs
    dsimp only
    by_cases hseen : seen.contains f = true
    · have hsame : (f :: fs).filter (fun x => !seen.contains x) = fs.filter fun x => !(f :: seen).contains x := by
        rw [List.filter_cons_of_neg (by simpa using hseen)]
        refine List.filter_congr fun x _ => ?_
        by_cases e : x = f
        · subst e; simpa using hseen
        · simp [e]
      rw [if_pos hseen, hsame]
      refine ⟨h1, ?_, h3⟩
      rw [List.length_cons, ← h2]; dsimp only; omega
    · have hstep : ((f :: fs).filter fun x => !seen.contains x).eraseDups =
          f :: (fs.filter fun x => !(f :: seen).contains x).eraseDups := by
        rw [List.filter_cons_of_pos (by simpa using hseen), List.eraseDups_cons, List.filter_filter]
        congr 2
        exact List.filter_congr fun x _ => by simp [Bool.not_or, beq_eq_decide]
      rw [if_neg hseen, hstep]
      by_cases hocc : s.occupiedIn g f = true
      · rw [if_pos hocc, List.filter_cons_of_neg (by simp [hocc])]
        refine ⟨h1, ?_, ?_⟩ <;> simp only [List.length_cons] <;> omega
      · rw [if_neg hocc, List.filter_cons_of_pos (by simpa using hocc), h1]
        rw [h1] at h3
        refine ⟨rfl, ?_, ?_⟩ <;> simp only [List.length_cons] <;> omega
theorem any_freq (p : List PoolEntry) (f : Nat) : p.any (fun e => e.freq = f) = true ↔ ∃ e ∈ p, e.freq = f := by
  simp only [List.any_eq_true, decide_eq_true_eq]
theorem readyCount_push (g : Group) (f : Nat) (s : State) :
    (s.setPool g (s.pool g ++ [PoolEntry.fresh f])).readyCount g = s.readyCount g := by
  simp [State.readyCount, PoolEntry.fresh]

/-- Settles O29: each request by its tests; a load by what it keeps. -/
theorem poolsAreEdited : Obligations.PoolsAreEdited := by
  intro h s n g hg
  refine ⟨fun f ha => ?add, fun f ha => ?remove, fun fs ha hlen hgrid => ?load⟩
  case add =>
    rw [exec_of_change rfl ha rfl, addPool, hg]
    simp only [offGrid_eq_decide, any_freq, pool_arrived, occupiedIn_arrived, refuse_eq, decide_eq_true_eq]
    have hready := readyCount_push g f (arrived h.dt h.port s)
    rw [pool_arrived, readyCount_arrived] at hready
    rw [hready]
    simp only [State.setPool, arrived_pools]
    rfl
  case remove =>
    rw [exec_of_change rfl ha rfl, removePool, hg]
    simp only [offGrid_eq_decide, any_freq, pool_arrived, refuse_eq, decide_eq_true_eq, unpool, State.setPool, arrived_pools]
  case load =>
    obtain ⟨h1, h2, h3⟩ := loadFreqs_eq (arrived h.dt h.port s) g [] fs
    have hfilter : fs.filter (fun f => !([] : List Nat).contains f) = fs := List.filter_eq_self.mpr fun _ _ => rfl
    simp only [hfilter, occupiedIn_arrived] at h1 h2 h3
    have hin : fs.any offGrid = false := by
      rw [List.any_eq_false]
      intro f hf
      have := hgrid f hf
      simp only [offGrid_eq_decide, decide_eq_true_eq]; omega
    have hno : ¬ (16 < fs.length ∨ fs.length ≠ fs.length) := by simp; omega
    rw [exec_of_change rfl ha rfl, loadPool, hg]
    simp only [hno, hin, Bool.false_eq_true, if_false, State.setPool, arrived_pools]
    rw [← h1]
    have hdup : (loadFreqs (arrived h.dt h.port s) g [] fs).dup = fs.length - fs.eraseDups.length := by omega
    have hocc : (loadFreqs (arrived h.dt h.port s) g [] fs).occ =
      fs.eraseDups.length - (loadFreqs (arrived h.dt h.port s) g [] fs).kept.length := by omega
    rw [← hdup, ← hocc]
    rfl

/-! ## SET_GROUPS (R14, R15) -/

theorem mapM_eq_some_iff {α : Type} {f : Nat → Option α} {e : α → Nat} (hf : ∀ n a, f n = some a ↔ n = e a) (xs : List Nat)
    (ys : List α) : xs.mapM f = some ys ↔ xs = ys.map e := by
  induction xs generalizing ys with
  | nil => cases ys <;> simp
  | cons x xs ih =>
    rw [List.mapM_cons]
    simp only [Option.bind_eq_bind, Option.bind_eq_some_iff, hf, ih, Option.pure_def, Option.some.injEq]
    constructor
    · rintro ⟨a, rfl, bs, rfl, rfl⟩; rfl
    · intro h
      cases ys with
      | nil => cases h
      | cons y ys => obtain ⟨rfl, rfl⟩ := List.cons.inj h; exact ⟨y, rfl, ys, rfl, rfl⟩
theorem sixOf_eq_some_iff {α : Type} (xs : List α) (v : Vector α 6) : sixOf xs = some v ↔ xs = v.toList := by
  unfold sixOf
  split
  next h =>
    rw [Option.some.injEq]
    constructor
    · rintro rfl; rfl
    · rintro rfl; rfl
  next h =>
    refine iff_of_false (fun h' => nomatch h') ?_
    rintro rfl
    exact h (Vector.length_toList)
/-- The code of a relation (R80). -/
def relNumber : Rel → Nat
  | .near => 1
  | .far => 2
theorem relOf_eq_some_iff (n : Nat) (r : Rel) : relOf n = some r ↔ n = relNumber r := by
  rcases n with _ | _ | _ | n <;> cases r <;> simp [relOf, relNumber]
theorem groupsOf_eq_some_iff (gs rs : List Nat) (x : Groups) : groupsOf gs rs = some x ↔
    gs = x.couple.toList.map (·.val) ∧ rs = x.rels.toList.map relNumber := by
  have hgs := mapM_eq_some_iff (fun n g => (groupOfNat_eq_some_iff n g).trans eq_comm) gs
  have hrs := mapM_eq_some_iff relOf_eq_some_iff rs
  unfold groupsOf
  simp only [Option.bind_eq_bind, Option.bind_eq_some_iff, hgs, hrs, sixOf_eq_some_iff, Option.some.injEq]
  constructor
  · rintro ⟨c, ⟨ys, rfl, rfl⟩, r, ⟨zs, rfl, rfl⟩, rfl⟩; exact ⟨rfl, rfl⟩
  · rintro ⟨rfl, rfl⟩; exact ⟨x.couple, ⟨_, rfl, rfl⟩, x.rels, ⟨_, rfl, rfl⟩, rfl⟩

/-! ### The increments -/

theorem count_twice {α : Type} (u v : α → Group) (p : α → Bool) (g : Group) (xs : List α) :
    ((xs.filter p).flatMap fun z => [u z, v z]).count g =
      (xs.filter fun z => p z && u z = g).length + (xs.filter fun z => p z && v z = g).length := by
  simp only [← List.countP_eq_length_filter]
  induction xs with
  | nil => rfl
  | cons x xs ih =>
    rw [List.countP_cons, List.countP_cons]
    cases hp : p x with
    | false => simpa [hp] using ih
    | true =>
      rw [List.filter_cons_of_pos hp, List.flatMap_cons, List.count_append, ih]
      simp only [Bool.true_and, List.count_cons, List.count_nil, beq_iff_eq, decide_eq_true_eq]
      omega
theorem count_either {α : Type} (u v : α → Group) (p : α → Bool) (g : Group) (xs : List α) (hne : ∀ z ∈ xs, u z ≠ v z) :
    (xs.flatMap fun z => if p z = true then [u z, v z] else []).count g =
      (xs.filter fun z => p z && (u z = g || v z = g)).length := by
  rw [← List.countP_eq_length_filter]
  induction xs with
  | nil => rfl
  | cons x xs ih =>
    have hx := hne x List.mem_cons_self
    rw [List.flatMap_cons, List.count_append, ih fun z hz => hne z (List.mem_cons_of_mem x hz), List.countP_cons]
    cases hp : p x with
    | false => simp
    | true =>
      by_cases hu : u x = g
      · have hv : ¬ v x = g := fun h => hx (hu.trans h.symm)
        simp [hu, hv]; omega
      · simp [hu, List.count_cons]; omega
theorem count_groupBumps (s : State) (x : Groups) (g : Group) : (s.groupBumps x).count g =
    ((List.finRange 6).filter fun z => decide (s.couple[z] ≠ x.couple[z]) && x.couple[z] = g).length
    + ((List.finRange 6).filter fun z => decide (s.couple[z] ≠ x.couple[z]) && s.couple[z] = g).length
    + (pairGroups.filter fun p => s.rels[p.1] = .far && x.rels[p.1] = .near && (p.2.1 = g || p.2.2 = g)).length := by
  have hpairs : ∀ p ∈ pairGroups, p.2.1 ≠ p.2.2 := by decide
  have htight := count_either (fun p => p.2.1) (fun p => p.2.2)
    (fun p : Fin 6 × Group × Group => decide (s.rels[p.1] = .far) && decide (x.rels[p.1] = .near)) g pairGroups hpairs
  rw [State.groupBumps, List.count_append]
  refine congrArg₂ (· + ·) (count_twice _ _ _ g _) ?_
  rw [← htight, State.tightened]
  simp only [Bool.and_eq_true, decide_eq_true_eq]

/-! ### The pools and the flags -/

theorem mem_poolFreqs {s : State} {g : Group} {f : Nat} : f ∈ s.poolFreqs g ↔ ∃ e ∈ s.pool g, e.freq = f := by
  simp [State.poolFreqs]
theorem regroupStage_changes (z : Stage) (s : State) :
    regroupStage z s = { s with pools := (regroupStage z s).pools, chans := (regroupStage z s).chans } := by
  rw [regroupStage_eq, reflagAll_changes_chans, foldl_unpool_changes_pools]
theorem mem_poolFreqs_regroupStage (z : Stage) (s : State) (g : Group) (f : Nat) : f ∈ (regroupStage z s).poolFreqs g ↔
    f ∈ s.poolFreqs g ∧ ∀ c : Chan, c.stage = z → s.couple[c.stage] = g → f ∉ (s.chan c).occupied := by
  rw [regroupStage_eq, poolFreqs_reflagAll, poolFreqs_unpoolAll]
  split
  next e =>
    rw [List.mem_filter, decide_eq_true_eq, List.mem_flatMap]
    refine and_congr_right fun _ => ⟨fun h c hc _ ho => h ⟨c, mem_stageChans.mpr hc, ho⟩, ?_⟩
    rintro h ⟨c, hc, ho⟩
    obtain rfl := mem_stageChans.mp hc
    exact h c rfl e.symm ho
  next e =>
    refine (and_iff_left_of_imp fun _ c hc hg => ?_).symm
    subst hc
    exact absurd hg.symm e
theorem conflictOf_regroupStage (z : Stage) (s : State) (c : Chan) : (regroupStage z s).conflictOf c = s.conflictOf c := by
  rw [regroupStage_eq, conflictOf_reflagAll, foldl_unpool_changes_pools]; rfl
theorem chan_regroupStage (z : Stage) (s : State) (c : Chan) : (regroupStage z s).chan c = { s.chan c with
    exclConflict := if c.stage = z then (s.conflictOf c).isSome else (s.chan c).exclConflict } := by
  rw [regroupStage_eq, chan_reflagAll, foldl_unpool_changes_pools]
  simp only [mem_stageChans]
  rfl
/-- What the regrouping of the stages `zs` leaves: their frequencies out of the pools of their groups, their flags
computed again, and nothing else. -/
theorem regrouped_exactly (zs : List Stage) (s : State) : let t := zs.foldl (fun s z => regroupStage z s) s
    t = { s with pools := t.pools, chans := t.chans }
    ∧ (∀ g f, f ∈ t.poolFreqs g ↔ f ∈ s.poolFreqs g ∧ ∀ c : Chan, c.stage ∈ zs → s.couple[c.stage] = g →
        f ∉ (s.chan c).occupied)
    ∧ ∀ c, t.chan c = { s.chan c with
        exclConflict := if c.stage ∈ zs then (s.conflictOf c).isSome else (s.chan c).exclConflict } := by
  induction zs generalizing s with
  | nil => exact ⟨rfl, fun g f => by simp, fun c => rfl⟩
  | cons z zs ih =>
    obtain ⟨h1, h2, h3⟩ := ih (regroupStage z s)
    have hcouple : (regroupStage z s).couple = s.couple := by rw [regroupStage_changes]
    have hocc : ∀ c, ((regroupStage z s).chan c).occupied = (s.chan c).occupied := (regrouped_one z s).occupied
    rw [List.foldl_cons]
    generalize zs.foldl (fun s z => regroupStage z s) (regroupStage z s) = t at h1 h2 h3 ⊢
    refine ⟨?_, fun g f => (h2 g f).trans ?_, fun c => (h3 c).trans ?_⟩
    · rw [h1, regroupStage_changes]
    · rw [mem_poolFreqs_regroupStage, and_assoc]
      simp only [hcouple, hocc, List.mem_cons, or_imp, forall_and]
    · rw [conflictOf_regroupStage, chan_regroupStage]
      by_cases e : c.stage = z <;> by_cases hm : c.stage ∈ zs <;> simp [e, hm]

/-- The state a SET_GROUPS leaves for its reply. -/
def groupsSet (x : Groups) (s : State) : State :=
  (s.regrouped x).foldl (fun s z => regroupStage z s) (bumpAll (s.groupBumps x) (recoupled x s))
theorem applyGroups_eq (h : ReqHdr) (x : Groups) (s : State) : applyGroups h x s = replyOk h 0x21 [] (groupsSet x s) := rfl
theorem mem_regrouped {s : State} {x : Groups} {z : Stage} : z ∈ s.regrouped x ↔ s.couple[z] ≠ x.couple[z] := by
  simp [State.regrouped]
theorem groupsSet_changes (x : Groups) (s : State) : groupsSet x s = { s with
    couple := x.couple, rels := x.rels, gens := (bumpAll (s.groupBumps x) (recoupled x s)).gens
    pools := (groupsSet x s).pools, chans := (groupsSet x s).chans } := by
  have h := (regrouped_exactly (s.regrouped x) (bumpAll (s.groupBumps x) (recoupled x s))).1
  have hb := bumpAll_changes (s.groupBumps x) (recoupled x s)
  change groupsSet x s = { bumpAll (s.groupBumps x) (recoupled x s) with
    pools := (groupsSet x s).pools, chans := (groupsSet x s).chans } at h
  generalize groupsSet x s = t at h ⊢
  generalize bumpAll (s.groupBumps x) (recoupled x s) = u at h hb ⊢
  rw [h, hb]; rfl
theorem gens_groupsSet (x : Groups) (s : State) (g : Group) (h : s.gens[g] < 65536) :
    (groupsSet x s).gens[g] = (s.gens[g] + (s.groupBumps x).count g) % 65536 :=
  (congrArg (fun t : State => t.gens[g]) (groupsSet_changes x s)).trans (gens_bumpAll_of_lt (s := recoupled x s) h)
theorem mem_poolFreqs_groupsSet (x : Groups) (s : State) (g : Group) (f : Nat) : f ∈ (groupsSet x s).poolFreqs g ↔
    f ∈ s.poolFreqs g ∧ ∀ c : Chan, s.couple[c.stage] ≠ x.couple[c.stage] → x.couple[c.stage] = g →
      f ∉ (s.chan c).occupied := by
  refine ((regrouped_exactly (s.regrouped x) (bumpAll (s.groupBumps x) (recoupled x s))).2.1 g f).trans ?_
  obtain ⟨b1, b2, b3⟩ := foldl_bumpGen (s.groupBumps x) (recoupled x s)
  change (bumpAll _ _).couple = _ at b1
  change ∀ c, (bumpAll _ _).chan c = _ at b2
  change ∀ g, (bumpAll _ _).poolFreqs g = _ at b3
  rw [b3]
  simp only [b1, b2, mem_regrouped]
  rfl
theorem chan_groupsSet (x : Groups) (s : State) (c : Chan) : (groupsSet x s).chan c = { s.chan c with
    exclConflict := if s.couple[c.stage] ≠ x.couple[c.stage] then ((groupsSet x s).conflictOf c).isSome
      else (s.chan c).exclConflict } := by
  obtain ⟨h1, -, h3⟩ := regrouped_exactly (s.regrouped x) (bumpAll (s.groupBumps x) (recoupled x s))
  have hocc := (regrouped_all (s.regrouped x) (bumpAll (s.groupBumps x) (recoupled x s))).occupied
  have hconflict : (groupsSet x s).conflictOf c = (bumpAll (s.groupBumps x) (recoupled x s)).conflictOf c := by
    refine conflictOf_congr (hocc c) ?_ ?_ ?_ <;> rw [groupsSet, h1]
  refine (h3 c).trans ?_
  rw [bumpAll_chan]
  simp only [mem_regrouped, hconflict]
  rfl

/-- A stage that would be regrouped has a MOVING channel. -/
theorem regroup_moving_iff (s : State) (x : Groups) :
    ((s.regrouped x).any fun z => (stageChans z).any fun c => (s.chan c).state = .moving) = true ↔
      ∃ c : Chan, s.couple[c.stage] ≠ x.couple[c.stage] ∧ (s.chan c).state = .moving := by
  simp only [List.any_eq_true, mem_regrouped, mem_stageChans, decide_eq_true_eq]
  constructor
  · rintro ⟨z, hz, c, rfl, hc⟩; exact ⟨c, hz, hc⟩
  · rintro ⟨c, hz, hc⟩; exact ⟨_, hz, c, rfl, hc⟩
theorem setGroups_busy (h : ReqHdr) {gs rs : List Nat} {x : Groups} {s : State} (hx : groupsOf gs rs = some x)
    (hbusy : ∃ c : Chan, s.couple[c.stage] ≠ x.couple[c.stage] ∧ (s.chan c).state = .moving) :
    setGroups h gs rs s = reply h 0x21 .busy 0 [] s := by
  unfold setGroups
  rw [hx]
  exact if_pos ((regroup_moving_iff s x).mpr hbusy)
theorem setGroups_free (h : ReqHdr) {gs rs : List Nat} {x : Groups} {s : State} (hx : groupsOf gs rs = some x)
    (hfree : ∀ c : Chan, s.couple[c.stage] ≠ x.couple[c.stage] → (s.chan c).state ≠ .moving) :
    setGroups h gs rs s = deferOr h (.setGroups gs rs) (s.held (s.groupBumps x)) (applyGroups h x) s := by
  unfold setGroups
  rw [hx]
  refine if_neg fun hb => ?_
  obtain ⟨c, h1, h2⟩ := (regroup_moving_iff s x).mp hb
  exact hfree c h1 h2
theorem groupBumps_arrived (dt : Nat) (p : Port) (s : State) (x : Groups) :
    (arrived dt p s).groupBumps x = s.groupBumps x := by
  simp only [State.groupBumps, State.regrouped, State.tightened, arrived_couple, arrived_rels]

/-- Settles O30: the operands, the tests, and then the increments, the pools and the flags. -/
theorem stagesAreRegrouped : Obligations.StagesAreRegrouped := by
  refine ⟨fun gs rs x => groupsOf_eq_some_iff gs rs x, fun h s gs rs x ha hx => ⟨fun hbusy => ?busy, fun hfree hheld hgens => ?set⟩⟩
  case busy =>
    simp only [decide_eq_true_eq] at hbusy
    rw [exec_of_change rfl ha rfl, setGroups_busy h hx (by simpa only [arrived_couple, chan_arrived] using hbusy)]
  case set =>
    simp only [decide_eq_true_eq] at hfree
    refine ⟨groupsSet x (arrived h.dt h.port s), ?_, ?_, ?_, fun g => ?_, fun g f => ?_, fun c => ?_, ?_⟩
    · rw [exec_of_change rfl ha rfl, setGroups_free h hx (by simpa only [arrived_couple, chan_arrived] using hfree),
        groupBumps_arrived, held_arrived, hheld]
      rfl
    · rw [groupsSet_changes]
    · rw [groupsSet_changes]
    · rw [gens_groupsSet _ _ _ (by rw [arrived_gens]; exact hgens g), groupBumps_arrived, arrived_gens, count_groupBumps]
    · rw [← mem_poolFreqs, ← mem_poolFreqs, mem_poolFreqs_groupsSet]
      simp only [State.poolFreqs, pool_arrived, arrived_couple, chan_arrived, decide_eq_true_eq]
    · rw [chan_groupsSet]
      simp only [chan_arrived, arrived_couple, decide_eq_true_eq]
    · have hall := groupsSet_changes x (arrived h.dt h.port s)
      generalize groupsSet x (arrived h.dt h.port s) = t at hall ⊢
      rw [hall]

/-! ## The writes that wait (R55, R187) -/

theorem deferOr_waits (h : ReqHdr) (r : Request) (f : State → State) (s : State) : deferOr h r true f s =
    if s.engine.deferred.length < 4 then { s with engine := { s.engine with deferred := s.engine.deferred ++ [⟨h, r⟩] } }
    else reply h r.code .busy 0 [] s := by
  unfold deferOr
  by_cases e : s.engine.deferred.length < 4
  · rw [if_pos rfl, if_neg (by omega), if_pos e]
  · rw [if_pos rfl, if_pos (by omega), if_neg e]; rfl
/-- A request whose handling is a write that waits joins the deferred list, or is BUSY. -/
theorem exec_of_wait {i : Instr} {h : ReqHdr} {r : Request} {s : State} {f g : State → State} (e : requestOf i = some (h, r))
    (ha : Accepted h r s) (hf : handle h r = change f) (hw : f (arrived h.dt h.port s) = deferOr h r true g (arrived h.dt h.port s)) :
    exec i s = .next (finish (arrived h.dt h.port s) (if s.engine.deferred.length < 4
      then { arrived h.dt h.port s with engine := { (arrived h.dt h.port s).engine with
        deferred := (arrived h.dt h.port s).engine.deferred ++ [⟨h, r⟩] } }
      else reply h r.code .busy 0 [] (arrived h.dt h.port s))) := by
  rw [exec_of_change e ha hf, hw, deferOr_waits, arrived_engine]
theorem up_arrived {dt : Nat} {p : Port} {s : State} (h : (s.port p).up = true) (q : Port) :
    ((arrived dt p s).port q).up = (s.port q).up := by
  unfold arrived restartSilence
  by_cases e : q = p
  · subst e; rw [port_setPort_same, h]
  · rw [port_setPort_other _ _ e, passTime_up]
theorem operBusy_arrived {dt : Nat} {p : Port} {s : State} (h : (s.port p).up = true) (c : Chan) :
    (arrived dt p s).operBusy c = s.operBusy c := by
  simp only [State.operBusy, chan_arrived, entryOf_arrived, up_arrived h, State.tableFull, arrived_table, State.admFull,
    arrived_engine]
theorem serving_arrived (dt : Nat) (p : Port) (s : State) : (arrived dt p s).serving = s.serving := by
  have hhead : (arrived dt p s).head = s.head := by funext k; cases k <;> simp only [State.head, arrived_engine]
  simp only [State.serving, arrived_engine, hhead]
theorem writeWaits_arrived (dt : Nat) (p : Port) (s : State) (c : Chan) (cls : TxClass) :
    (arrived dt p s).writeWaits c cls = s.writeWaits c cls := by
  simp only [State.writeWaits, chan_arrived, held_arrived, groupOf_arrived, State.heldSubject, serving_arrived, State.holding,
    arrived_engine]

/-- Settles O21: each of the four writes, with its wait found true. -/
theorem heldGroupsDeferTheirWrites : Obligations.HeldGroupsDeferTheirWrites := by
  intro i h r s e ha a
  rintro (⟨xs, new, rfl, hnew, hheld⟩ | ⟨f, l, k, rfl, hle, hl, h1, h15, hroom, hheld⟩ | ⟨gs, rs, x, rfl, hx, hfree, hheld⟩
    | ⟨st, sl, cl, p, q, n, f, c, x, rfl, hc, hx, hf, hused, hwait⟩)
  · refine exec_of_wait e ha rfl (g := applyRules h new) ?_
    rw [setRules, rules_arrived, hnew]
    simp only [held_arrived, hheld]
  · refine exec_of_wait e ha rfl (g := applyExclusion h f l (BitVec.ofNat 4 k)) ?_
    have hany : s.excl.any (Excl.sameRange f l) = (s.excl.find? (Excl.sameRange f l)).isSome := by
      rw [Bool.eq_iff_iff, List.any_eq_true, List.find?_isSome]
    have hno : ¬ ((s.excl.find? (Excl.sameRange f l)).isSome = false ∧ 48 ≤ s.excl.length) := by
      rintro ⟨h2, h3⟩
      rcases hroom with h4 | h4
      · rw [hany, h2] at h4; cases h4
      · omega
    rw [addExclusion_eq h hle hl h1 h15, arrived_excl, if_neg hno, held_arrived, hheld]
  · refine exec_of_wait e ha rfl (g := applyGroups h x) ?_
    rw [setGroups_free h hx (by simpa only [arrived_couple, chan_arrived] using hfree), groupBumps_arrived, held_arrived, hheld]
  · refine exec_of_wait e ha rfl (g := applyWrite h c x (if f = 65535 then none else some f)) ?_
    obtain ⟨hup, -, -⟩ := id ha
    have hno : ¬ (f ≠ 65535 ∧ (arrived h.dt h.port s).operBusy c = true) := by
      rw [operBusy_arrived hup]
      rintro ⟨h4, h5⟩
      rcases hf with h6 | ⟨-, h6⟩
      · exact h4 h6
      · rw [h5] at h6; cases h6
    rw [writeChannel_eq h hc hx, chan_arrived, if_neg (by omega), if_neg hused, if_neg hno, writeWaits_arrived, hwait]

end Sys2Proof.Machine
end

section
/-! What a sending can change (R69, R191), and SURVEY (R119, R180). -/

namespace Sys2Proof.Machine

/-! ## Sendings: frames that wait, latches and the counters of sending -/

/-- `t` is `s` after sendings: frames join what waits at the ports, and nothing else changes but the sequence counter, the
latches and the discard counter of the trunk. -/
structure Tells (s t : State) : Prop where
  only : t = { s with
    trunk := t.trunk, stagePorts := t.stagePorts, trunkDiscards := t.trunkDiscards, originSeq := t.originSeq
    latches := t.latches }
  up : ∀ p, (t.port p).up = (s.port p).up
  silence : ∀ p, (t.port p).silence = (s.port p).silence
  sigdet : ∀ p, (t.port p).sigdet = (s.port p).sigdet
  waits : ∀ p, (s.port p).tx <+: (t.port p).tx
  mute : ∀ p, (s.port p).up = false → (t.port p).tx = (s.port p).tx

theorem Tells.refl (s : State) : Tells s s :=
  ⟨rfl, fun _ => rfl, fun _ => rfl, fun _ => rfl, fun _ => List.prefix_rfl, fun _ _ => rfl⟩
theorem Tells.trans {s t u : State} (h : Tells s t) (g : Tells t u) : Tells s u where
  only := by
    have hg := g.only
    rw [h.only] at hg
    exact hg
  up := fun p => (g.up p).trans (h.up p)
  silence := fun p => (g.silence p).trans (h.silence p)
  sigdet := fun p => (g.sigdet p).trans (h.sigdet p)
  waits := fun p => (h.waits p).trans (g.waits p)
  mute := fun p hp => (g.mute p ((h.up p).trans hp)).trans (h.mute p hp)
theorem tells_foldl {α : Type} {f : State → α → State} (h : ∀ s a, Tells s (f s a)) (xs : List α) (s : State) :
    Tells s (xs.foldl f s) := by
  induction xs generalizing s with
  | nil => exact Tells.refl s
  | cons x xs ih => exact (h s x).trans (ih _)
theorem tells_ite {p : Prop} [Decidable p] {s a b : State} (ha : p → Tells s a) (hb : ¬ p → Tells s b) :
    Tells s (if p then a else b) := by
  split
  next h => exact ha h
  next h => exact hb h

theorem tells_setLatch (i : Fin 16) (s : State) : Tells s (setLatch i s) :=
  ⟨rfl, fun p => by cases p <;> rfl, fun p => by cases p <;> rfl, fun p => by cases p <;> rfl,
    fun p => by cases p <;> exact List.prefix_rfl, fun p _ => by cases p <;> rfl⟩
theorem tells_seq (n : Nat) (s : State) : Tells s { s with originSeq := n } :=
  ⟨rfl, fun p => by cases p <;> rfl, fun p => by cases p <;> rfl, fun p => by cases p <;> rfl,
    fun p => by cases p <;> exact List.prefix_rfl, fun p _ => by cases p <;> rfl⟩
theorem tells_handTo (p : Port) (f : Frame) (s : State) : Tells s (handTo p f s) := by
  by_cases hup : (s.port p).up = true
  · rw [handTo_of_up hup]
    have hport : ∀ q, ((s.setPort p { s.port p with tx := (s.port p).tx ++ [f] }).port q) =
        if q = p then { s.port q with tx := (s.port q).tx ++ [f] } else s.port q := fun q => by
      split
      next e => rw [e, port_setPort_same]
      next e => rw [port_setPort_other _ _ e]
    refine ⟨?_, fun q => ?_, fun q => ?_, fun q => ?_, fun q => ?_, fun q hq => ?_⟩
    · cases p <;> rfl
    · rw [hport]; split <;> rfl
    · rw [hport]; split <;> rfl
    · rw [hport]; split <;> rfl
    · rw [hport]; split
      · exact List.prefix_append _ _
      · exact List.prefix_rfl
    · have hne : q ≠ p := fun e => by rw [e, hup] at hq; cases hq
      rw [hport, if_neg hne]
  · unfold handTo
    rw [if_neg hup]
    cases p with
    | trunk =>
      exact ⟨rfl, fun p => by cases p <;> rfl, fun p => by cases p <;> rfl, fun p => by cases p <;> rfl,
        fun p => by cases p <;> exact List.prefix_rfl, fun p _ => by cases p <;> rfl⟩
    | stage z => exact Tells.refl s
theorem tells_route (f : Frame) (s : State) : Tells s (route f s) := by
  unfold route
  split
  · exact tells_handTo _ f s
  · exact Tells.refl s
theorem tells_originate (a : Addr) (k : Byte) (x : List Byte) (s : State) : Tells s (originate a k x s) :=
  (tells_seq _ s).trans (tells_route _ _)
theorem tells_notify (k : NoticeKind) (a b : Nat) (x : List Byte) (s : State) : Tells s (notify k a b x s) :=
  (tells_setLatch _ s).trans (tells_ite (fun _ => tells_originate _ _ _ _) fun _ => Tells.refl _)
theorem tells_notifyChan (k : NoticeKind) (c : Chan) (x : List Byte) (s : State) : Tells s (notifyChan k c x s) :=
  tells_notify _ _ _ _ _
theorem tells_reply (h : ReqHdr) (code : Nat) (st : Status) (k : Nat) (x : List Byte) (s : State) :
    Tells s (reply h code st k x s) := tells_route _ _

/-- What a sending leaves alone. -/
theorem Tells.chan {s t : State} (h : Tells s t) (c : Chan) : t.chan c = s.chan c := by rw [h.only]; rfl
theorem Tells.pool {s t : State} (h : Tells s t) (g : Group) : t.pool g = s.pool g := by rw [h.only]; rfl
theorem Tells.staged {s t : State} (h : Tells s t) (c : Chan) : t.staged c = s.staged c := by rw [h.only]; rfl
theorem Tells.commits {s t : State} (h : Tells s t) : t.commits = s.commits := by rw [h.only]

theorem latches_route (f : Frame) (s : State) : (route f s).latches = s.latches := by rw [route_changes]
/-- A notice sets the latch of its kind and no other (R192). -/
theorem latches_notify (k : NoticeKind) (a b : Nat) (x : List Byte) (s : State) :
    (notify k a b x s).latches = s.latches.set k.idx.castSucc true := by
  unfold notify
  dsimp only
  split
  · exact latches_route _ _
  · rfl
theorem latches_originate (a : Addr) (k : Byte) (x : List Byte) (s : State) : (originate a k x s).latches = s.latches :=
  latches_route _ _

/-! ## SURVEY (R119, R180) -/

theorem nodup_stageChans (z : Stage) : (stageChans z).Nodup :=
  (List.nodup_finRange 32).map fun a b h => by cases h; rfl
/-- The same change of several channels, each once. -/
theorem chan_foldl_modChan (f : ChanRec → ChanRec) {cs : List Chan} (hn : cs.Nodup) (s : State) (d : Chan) :
    (cs.foldl (fun s c => s.modChan c f) s).chan d = if d ∈ cs then f (s.chan d) else s.chan d := by
  induction cs generalizing s with
  | nil => rfl
  | cons c cs ih =>
    obtain ⟨hc, hcs⟩ := List.nodup_cons.mp hn
    rw [List.foldl_cons, ih hcs, chan_modChan]
    by_cases e : d = c
    · subst e; simp [hc]
    · simp [e]
theorem foldl_modChan_changes (f : ChanRec → ChanRec) (cs : List Chan) (s : State) :
    cs.foldl (fun s c => s.modChan c f) s = { s with chans := (cs.foldl (fun s c => s.modChan c f) s).chans } := by
  induction cs generalizing s with
  | nil => rfl
  | cons c cs ih => exact ih (s.modChan c f)
theorem surveyBegins_eq (z : Stage) (s : State) :
    surveyBegins z s = (stageChans z).foldl (fun t c => t.modChan c (ChanRec.surveyed s)) s := by
  have h : ∀ (cs : List Chan) (t : State), t.profiles = s.profiles →
      cs.foldl (fun t c => t.modChan c (ChanRec.surveyed t)) t = cs.foldl (fun t c => t.modChan c (ChanRec.surveyed s)) t := by
    intro cs
    induction cs with
    | nil => exact fun _ _ => rfl
    | cons c cs ih =>
      intro t ht
      have hsame : ChanRec.surveyed t = ChanRec.surveyed s := by funext r; unfold ChanRec.surveyed; rw [ht]
      rw [List.foldl_cons, List.foldl_cons, hsame]
      exact ih _ ht
  exact h _ s rfl
theorem surveyWatch_eq (q : Profile) (y : Watch) : surveyWatch q y =
    if y.st = .suspect ∧ q.level1.kind = .sweepHit then ⟨.armed, 0, 0, none⟩
    else if y.st = .armed ∨ y.st = .suspect then { y with
      run1 := if q.level1.kind = .sweepHit then 0 else y.run1
      run2 := if q.level2.kind = .sweepHit then 0 else y.run2 }
    else y := by
  unfold surveyWatch
  by_cases h : y.st = .suspect ∧ q.level1.kind = .sweepHit
  · simp [h, Watch.armed]
  · simp only [h, if_false]
/-- The state a SURVEY leaves for its reply and its order. -/
def surveyed (z : Stage) (v : Survey) (s : State) : State := surveyBegins z { s with surveys := s.surveys.set z (some v) }
theorem surveyed_changes (z : Stage) (v : Survey) (s : State) :
    surveyed z v s = { s with surveys := s.surveys.set z (some v), chans := (surveyed z v s).chans } := by
  unfold surveyed
  rw [surveyBegins_eq]
  exact foldl_modChan_changes _ _ _
theorem chan_surveyed (z : Stage) (v : Survey) (s : State) (c : Chan) : (surveyed z v s).chan c =
    if c.stage = z then (s.chan c).surveyed s else s.chan c := by
  unfold surveyed
  rw [surveyBegins_eq, chan_foldl_modChan _ (nodup_stageChans z)]
  simp only [mem_stageChans]
  rfl
theorem orderSurvey_eq (h : ReqHdr) {st start : Nat} {z : Stage} (hz : stageOf st = some z) (hstart : start ≤ 8191)
    (k n p w : Nat) (s : State) : orderSurvey h st start k n p w s =
      let v := surveyOf s.now start k n p w
      if s.surveys[z].isSome = true ∨ (s.port (.stage z)).up = false then refuse h 0x33 .busy s
      else sendSurvey z v (replyOk h 0x33 (be16 v.start ++ e8 v.step ++ e8 v.count ++ e8 v.passes
        ++ be32 (v.deadline - s.now)) (surveyed z v s)) := by
  have hin : ¬ 8191 < start := by omega
  unfold orderSurvey
  rw [hz]
  simp only [offGrid_eq_decide, hin, decide_false, Bool.false_eq_true, if_false, Bool.or_eq_true, Bool.not_eq_true']
  rfl

/-- Settles O32. -/
theorem surveysBeginAtOnce : Obligations.SurveysBeginAtOnce := by
  intro h s st start k n p w z ha hz hstart
  rw [exec_of_change rfl ha rfl, orderSurvey_eq h hz hstart, arrived_surveys]
  refine ⟨fun hbusy => by rw [if_pos hbusy]; rfl, fun hnone hup => ?_⟩
  have hno : ¬ (s.surveys[z].isSome = true ∨ ((arrived h.dt h.port s).port (.stage z)).up = false) := by
    rw [hnone, hup]; simp
  rw [if_neg hno]
  refine ⟨surveyed z (surveyOf (arrived h.dt h.port s).now start k n p w) (arrived h.dt h.port s), ?_, ?_, fun c hc => ?_,
    fun c hc hp => ?_, fun c i hc hp => ?_, ?_⟩
  · simp only [surveyOf, Nat.add_sub_cancel_left]; rfl
  · rw [surveyed_changes, arrived_surveys]; rfl
  · rw [chan_surveyed, if_neg hc, chan_arrived]
  · rw [chan_surveyed, if_pos hc, chan_arrived, ChanRec.surveyed, hp]
    dsimp only [ChanRec.zeroReturn]
  · rw [chan_surveyed, if_pos hc, chan_arrived, ChanRec.surveyed, hp]
    dsimp only [ChanRec.zeroReturn]
    rw [surveyWatch_eq, arrived_profiles, hp]
  · have hall := surveyed_changes z (surveyOf (arrived h.dt h.port s).now start k n p w) (arrived h.dt h.port s)
    generalize surveyed z _ (arrived h.dt h.port s) = t at hall ⊢
    rw [hall]

end Sys2Proof.Machine
end

section
/-! The commit of a stage: its drops, its steps, its end and its abort (R165 to R172). -/

namespace Sys2Proof.Machine

/-! ## Places written twice -/

theorem setCommit_setCommit (s : State) (z : Stage) (a b : CommitState) : (s.setCommit z a).setCommit z b = s.setCommit z b := by
  simp [State.setCommit, Vector.set_set]
theorem setChan_setChan (s : State) (c : Chan) (a b : ChanRec) : (s.setChan c a).setChan c b = s.setChan c b := by
  simp [State.setChan, Vector.set_set]
theorem commits_setCommit_same (s : State) (z : Stage) (a : CommitState) : (s.setCommit z a).commits[z] = a := by
  rw [commits_setCommit, if_pos rfl]
section
variable {s : State} {z : Stage} {r : CommitRec} (hr : s.commits[z] = .committing r)
include hr
theorem commitRec_of_committing : s.commitRec z = some r := by rw [State.commitRec, hr]
theorem modCommit_of_committing (f : CommitRec → CommitRec) : modCommit z f s = s.setCommit z (.committing (f r)) := by
  rw [modCommit, commitRec_of_committing hr]
end
theorem modCommit_setCommit (s : State) (z : Stage) (r : CommitRec) (f : CommitRec → CommitRec) :
    modCommit z f (s.setCommit z (.committing r)) = s.setCommit z (.committing (f r)) := by
  rw [modCommit_of_committing (commits_setCommit_same s z _), setCommit_setCommit]

/-! ## A drop (R165) -/

/-- The record of a channel that a drop parked: no frequency, so no flag. -/
def ChanRec.parked (r : ChanRec) : ChanRec :=
  { r with
    state := .parked, assigned := none, pending := none, ret := none, heldCause := none
    watch := ⟨.off, 0, 0, none⟩, returnWatch := none, settle := none, exclConflict := false }
theorem parkChannel_eq (c : Chan) (s : State) : parkChannel c s =
    { s.setChan c (s.chan c).parked with backlog := s.backlog.filter fun i => i.chan ≠ c } := by
  have hrec : ∀ t : State, t.chan c = (s.chan c).park → (t.conflictOf c).isSome = false := fun t ht => by
    rw [State.conflictOf, ht]; rfl
  unfold parkChannel reflag State.modChan
  rw [hrec _ (by rw [State.chan, dropItem_chans]; exact chan_setChan_same s c _)]
  have hchan : ((s.setChan c (s.chan c).park).dropItem c).chan c = (s.chan c).park := chan_setChan_same s c _
  rw [hchan]
  exact congrArg (fun t : State => { t with backlog := s.backlog.filter fun i => i.chan ≠ c })
    (setChan_setChan s c (s.chan c).park (s.chan c).parked)

/-- A drop of the channel waits for its move (R165). -/
def State.dropBusy (s : State) (c : Chan) : Bool := (s.chan c).state = .moving
  || (((s.chan c).state = .active || (s.chan c).state = .held) && (s.entryOf c).isSome)
/-- A drop of the channel meets no channel it can park (R165). -/
def State.dropGone (s : State) (c : Chan) : Bool := (s.chan c).state = .dark || (s.chan c).state = .unused
/-- What a drop of slot `n` adds to the commit's record. -/
def CommitRec.met (n : Slot) (busy gone : Bool) (r : CommitRec) : CommitRec :=
  if busy then { r with deferred := r.deferred ++ [n] } else if gone then r.skip else r.drop
/-- What a drop does to the channel's record. -/
def State.dropped (s : State) (c : Chan) : ChanRec :=
  if ((s.chan c).state = .active ∨ (s.chan c).state = .held) ∧ s.entryOf c = none then (s.chan c).parked else s.chan c
section
variable {z : Stage} {n : Slot} {s : State}
theorem dropSlot_park (h : (s.chan ⟨z, n⟩).state = .active ∨ (s.chan ⟨z, n⟩).state = .held) (he : s.entryOf ⟨z, n⟩ = none) :
    dropSlot z n s = modCommit z CommitRec.drop (parkChannel ⟨z, n⟩ s) := by
  unfold dropSlot
  rcases h with h | h <;> simp [h, he]
theorem dropSlot_parked (h : (s.chan ⟨z, n⟩).state = .parked) : dropSlot z n s = modCommit z CommitRec.drop s := by
  simp [dropSlot, h]
theorem dropSlot_gone (h : s.dropGone ⟨z, n⟩ = true) : dropSlot z n s = modCommit z CommitRec.skip s := by
  simp only [State.dropGone, Bool.or_eq_true, decide_eq_true_eq] at h
  rcases h with h | h <;> simp [dropSlot, h]
theorem dropSlot_busy (h : s.dropBusy ⟨z, n⟩ = true) :
    dropSlot z n s = modCommit z (fun r => { r with deferred := r.deferred ++ [n] }) s := by
  simp only [State.dropBusy, Bool.or_eq_true, Bool.and_eq_true, decide_eq_true_eq] at h
  rcases h with h | ⟨h | h, he⟩
  · simp [dropSlot, h]
  · simp [dropSlot, h, he]
  · simp [dropSlot, h, he]
/-- The four ways a drop can find its channel. -/
theorem drop_cases (s : State) (c : Chan) : s.dropBusy c = true ∨ (s.dropBusy c = false ∧ s.dropGone c = true)
    ∨ (s.dropBusy c = false ∧ s.dropGone c = false ∧ (s.chan c).state = .parked)
    ∨ (s.dropBusy c = false ∧ s.dropGone c = false ∧ ((s.chan c).state = .active ∨ (s.chan c).state = .held)
      ∧ s.entryOf c = none) := by
  cases hs : (s.chan c).state <;> cases he : s.entryOf c <;> simp [State.dropBusy, State.dropGone, hs, he]
/-- What one drop does. -/
theorem dropSlot_does {r : CommitRec} (hr : s.commits[z] = .committing r) :
    let t := dropSlot z n s
    (∀ d, t.chan d = if d = ⟨z, n⟩ then s.dropped d else s.chan d)
    ∧ t.commits[z] = .committing (r.met n (s.dropBusy ⟨z, n⟩) (s.dropGone ⟨z, n⟩)) ∧ t.table = s.table ∧ t.gens = s.gens := by
  have hmod : ∀ f, modCommit z f s = s.setCommit z (.committing (f r)) := modCommit_of_committing hr
  have hkeep : ∀ (v : CommitState), s.dropped ⟨z, n⟩ = s.chan ⟨z, n⟩ →
      ∀ d, (s.setCommit z v).chan d = if d = ⟨z, n⟩ then s.dropped d else s.chan d := fun v hd d => by
    split
    next e => rw [e, hd]; rfl
    · rfl
  have hsame : ¬ (((s.chan ⟨z, n⟩).state = .active ∨ (s.chan ⟨z, n⟩).state = .held) ∧ s.entryOf ⟨z, n⟩ = none) →
      s.dropped ⟨z, n⟩ = s.chan ⟨z, n⟩ := fun h => if_neg h
  rcases drop_cases s ⟨z, n⟩ with hb | ⟨hb, hg⟩ | ⟨hb, hg, hp⟩ | ⟨hb, hg, ha, he⟩
  · rw [dropSlot_busy hb, hmod, CommitRec.met, hb]
    refine ⟨hkeep _ (hsame fun ⟨h1, h2⟩ => ?_), commits_setCommit_same _ _ _, rfl, rfl⟩
    simp only [State.dropBusy, h2, Bool.or_eq_true, decide_eq_true_eq, Option.isSome_none, Bool.and_false,
      Bool.false_eq_true, or_false] at hb
    rw [hb] at h1; simp at h1
  · rw [dropSlot_gone hg, hmod, CommitRec.met, hb, hg]
    refine ⟨hkeep _ (hsame fun ⟨h1, h2⟩ => ?_), commits_setCommit_same _ _ _, rfl, rfl⟩
    simp only [State.dropGone, Bool.or_eq_true, decide_eq_true_eq] at hg
    rcases hg with h | h <;> rw [h] at h1 <;> simp at h1
  · rw [dropSlot_parked hp, hmod, CommitRec.met, hb, hg]
    refine ⟨hkeep _ (hsame fun ⟨h1, h2⟩ => ?_), commits_setCommit_same _ _ _, rfl, rfl⟩
    rw [hp] at h1; simp at h1
  · have hr' : (parkChannel ⟨z, n⟩ s).commits[z] = .committing r := by rw [parkChannel_eq]; exact hr
    rw [dropSlot_park ha he, modCommit_of_committing hr', CommitRec.met, hb, hg]
    refine ⟨fun d => ?_, commits_setCommit_same _ _ _, by rw [parkChannel_eq]; rfl, by rw [parkChannel_eq]; rfl⟩
    rw [parkChannel_eq]
    change (s.setChan _ _).chan d = _
    by_cases e : d = ⟨z, n⟩
    · subst e
      rw [chan_setChan_same, if_pos rfl, State.dropped, if_pos ⟨ha, he⟩]
    · rw [chan_setChan_other _ _ e, if_neg e]
end

/-! ## All drops (R165) -/

/-- What the drops of several slots add to the commit's record. -/
def CommitRec.metAll (s : State) (z : Stage) (ns : List Slot) (r : CommitRec) : CommitRec :=
  { r with
    deferred := r.deferred ++ ns.filter fun n => s.dropBusy ⟨z, n⟩
    skipped := r.skipped + (ns.filter fun n => !s.dropBusy ⟨z, n⟩ && s.dropGone ⟨z, n⟩).length
    dropped := r.dropped + (ns.filter fun n => !s.dropBusy ⟨z, n⟩ && !s.dropGone ⟨z, n⟩).length }
theorem drops_do (z : Stage) {ns : List Slot} (hn : ns.Nodup) {s : State} {r : CommitRec} (hr : s.commits[z] = .committing r) :
    let t := ns.foldl (fun s n => dropSlot z n s) s
    (∀ d : Chan, t.chan d = if d.stage = z ∧ d.slot ∈ ns then s.dropped d else s.chan d)
    ∧ t.commits[z] = .committing (r.metAll s z ns) ∧ t.gens = s.gens := by
  induction ns generalizing s r with
  | nil => exact ⟨fun d => by simp, by simpa [CommitRec.metAll] using hr, rfl⟩
  | cons n ns ih =>
    obtain ⟨hnot, hns⟩ := List.nodup_cons.mp hn
    obtain ⟨h1, h2, h3, h4⟩ := dropSlot_does (n := n) hr
    obtain ⟨g1, g2, g3⟩ := ih hns h2
    rw [List.foldl_cons]
    have hentry : ∀ d, (dropSlot z n s).entryOf d = s.entryOf d := fun d => by rw [State.entryOf, h3, State.entryOf]
    have hother : ∀ m ∈ ns, (dropSlot z n s).chan ⟨z, m⟩ = s.chan ⟨z, m⟩ := fun m hm => by
      rw [h1, if_neg]; rintro ⟨rfl⟩; exact hnot hm
    refine ⟨fun d => (g1 d).trans ?_, g2.trans ?_, g3.trans h4⟩
    · by_cases hd : d.stage = z ∧ d.slot ∈ ns
      · obtain ⟨rfl, hm⟩ := hd
        rw [if_pos ⟨rfl, hm⟩, if_pos ⟨rfl, List.mem_cons_of_mem n hm⟩]
        simp only [State.dropped, hentry]
        rw [hother d.slot hm]
      · rw [if_neg hd, h1]
        by_cases e : d = ⟨z, n⟩
        · subst e; simp
        · have hno : ¬ (d.stage = z ∧ d.slot ∈ n :: ns) := by
            rintro ⟨rfl, hm⟩
            rcases List.mem_cons.mp hm with h | h
            · exact e (by rw [← h])
            · exact hd ⟨rfl, h⟩
          rw [if_neg e, if_neg hno]
    · have hbusy : ∀ m ∈ ns, (dropSlot z n s).dropBusy ⟨z, m⟩ = s.dropBusy ⟨z, m⟩ := fun m hm => by
        simp only [State.dropBusy, hother m hm, hentry]
      have hgone : ∀ m ∈ ns, (dropSlot z n s).dropGone ⟨z, m⟩ = s.dropGone ⟨z, m⟩ := fun m hm => by
        simp only [State.dropGone, hother m hm]
      have f1 := List.filter_congr (p := fun m => (dropSlot z n s).dropBusy ⟨z, m⟩) (q := fun m => s.dropBusy ⟨z, m⟩) hbusy
      have f2 := List.filter_congr (p := fun m => !(dropSlot z n s).dropBusy ⟨z, m⟩ && (dropSlot z n s).dropGone ⟨z, m⟩)
        (q := fun m => !s.dropBusy ⟨z, m⟩ && s.dropGone ⟨z, m⟩) fun m hm => by rw [hbusy m hm, hgone m hm]
      have f3 := List.filter_congr (p := fun m => !(dropSlot z n s).dropBusy ⟨z, m⟩ && !(dropSlot z n s).dropGone ⟨z, m⟩)
        (q := fun m => !s.dropBusy ⟨z, m⟩ && !s.dropGone ⟨z, m⟩) fun m hm => by rw [hbusy m hm, hgone m hm]
      unfold CommitRec.metAll
      rw [f1, f2, f3]
      cases hb : s.dropBusy ⟨z, n⟩ <;> cases hg : s.dropGone ⟨z, n⟩ <;>
        simp [CommitRec.met, CommitRec.skip, CommitRec.drop, hb, hg] <;> omega

theorem not_gone_of_busy {s : State} {c : Chan} (h : s.dropBusy c = true) : s.dropGone c = false := by
  revert h
  cases hs : (s.chan c).state <;> simp [State.dropBusy, State.dropGone, hs]
theorem dropped_of_busy {s : State} {c : Chan} (h : s.dropBusy c = true) : s.dropped c = s.chan c := by
  refine if_neg fun ⟨h1, h2⟩ => ?_
  revert h
  rcases h1 with h1 | h1 <;> simp [State.dropBusy, h1, h2]
theorem dropped_of_gone {s : State} {c : Chan} (h : s.dropGone c = true) : s.dropped c = s.chan c := by
  refine if_neg fun ⟨h1, _⟩ => ?_
  revert h
  rcases h1 with h1 | h1 <;> simp [State.dropGone, h1]
theorem dropped_of_parked {s : State} {c : Chan} (h : (s.chan c).state = .parked) : s.dropped c = s.chan c := by
  refine if_neg fun ⟨h1, _⟩ => ?_
  rcases h1 with h1 | h1 <;> rw [h] at h1 <;> cases h1

/-- Settles O26: the request by its tests, the drops by what each does to its channel and to the record. -/
theorem commitsStartWithTheirDrops : Obligations.CommitsStartWithTheirDrops := by
  refine ⟨fun h st z s ha hz => ?_, fun z s r hr => ?_⟩
  · dsimp only
    rw [exec_of_change rfl ha rfl, commitStage, hz]
    simp only [commitRec_arrived, Bool.or_eq_true, Bool.not_eq_true', refuse_eq]
    rfl
  · have hnodup : ((List.finRange 32).filter fun n => s.staged ⟨z, n⟩ = .drop).Nodup := (List.nodup_finRange 32).filter _
    obtain ⟨h1, h2, h3⟩ := drops_do z hnodup hr
    refine ⟨fun n hn hs he => ?_, fun c hc => ?_, h2.trans ?_, h3⟩
    · refine (h1 ⟨z, n⟩).trans ?_
      rw [if_pos ⟨rfl, hn⟩, State.dropped, if_pos ⟨hs, he⟩]; rfl
    · refine (h1 c).trans ?_
      split
      next hin =>
        obtain ⟨rfl, hm⟩ := hin
        rcases hc with h | h | h | h | h
        · exact absurd rfl h
        · exact absurd hm h
        · exact dropped_of_busy h
        · exact dropped_of_gone h
        · exact dropped_of_parked h
      · rfl
    · have hgone : ∀ n, (!s.dropBusy ⟨z, n⟩ && s.dropGone ⟨z, n⟩) = s.dropGone ⟨z, n⟩ := fun n => by
        cases hb : s.dropBusy ⟨z, n⟩
        · rfl
        · rw [not_gone_of_busy hb]; rfl
      simp only [CommitRec.metAll, hgone]
      rfl

end Sys2Proof.Machine
end

section
/-! The steps of a commit, its end, its abort and the restart's commits (R166 to R172, R194). -/

namespace Sys2Proof.Machine

/-! ## A step meets its channel (R167, R168) -/

section
variable {z : Stage} {n : Slot} {s : State} {r : CommitRec} (hr : s.commits[z] = .committing r)
include hr

theorem stepOne_busy (h : (s.chan ⟨z, n⟩).state = .dark ∨ (s.chan ⟨z, n⟩).state = .moving ∨ (s.chan ⟨z, n⟩).state = .held
    ∨ (s.entryOf ⟨z, n⟩).isSome = true) : stepOne z n s =
      (false, s.setCommit z (.committing { r with phase := .stepping n, skipped := r.skipped + 1 })) := by
  unfold stepOne
  rw [modCommit_of_committing hr]
  exact (if_pos h).trans (congrArg _ (modCommit_setCommit s z _ _))
/-- A channel that is not busy has its entry decide. -/
theorem stepOne_free (hs : (s.chan ⟨z, n⟩).state = .unused ∨ (s.chan ⟨z, n⟩).state = .parked
    ∨ (s.chan ⟨z, n⟩).state = .active) (he : s.entryOf ⟨z, n⟩ = none) :
    let t := s.setCommit z (.committing { r with phase := .stepping n })
    stepOne z n s = match s.staged ⟨z, n⟩ with
      | .add x k p q => if (s.chan ⟨z, n⟩).state = .active then (false, modCommit z (CommitRec.fail n 11) t)
        else askStep z n x (defineStaged ⟨z, n⟩ k p q t)
      | .change x => if (s.chan ⟨z, n⟩).state = .unused then (false, modCommit z (CommitRec.fail n 9) t)
        else match x with
          | .given f _ => if (s.chan ⟨z, n⟩).state = .active ∧ (s.chan ⟨z, n⟩).assigned = some f then
              (false, modCommit z (fun r => { r with applied := r.applied + 1 }) t)
            else askStep z n x t
          | .any => askStep z n x t
      | _ => (false, t) := by
  have hfree : ¬ ((s.chan ⟨z, n⟩).state = .dark ∨ (s.chan ⟨z, n⟩).state = .moving ∨ (s.chan ⟨z, n⟩).state = .held
      ∨ (s.entryOf ⟨z, n⟩).isSome = true) := by
    rw [he]
    rcases hs with h | h | h <;> rw [h] <;> simp
  unfold stepOne
  rw [modCommit_of_committing hr]
  exact (if_neg hfree).trans rfl
end
/-- A search that ends at once fails its step (R168). -/
theorem askStep_any {z : Stage} (n : Slot) {s t : State} {r : CommitRec}
    (ht : t.commits = s.commits.set z (.committing r)) :
    askStep z n .any t = match searchNext ⟨z, n⟩ ⟨[], 0, []⟩ t with
      | (.more w q, u) => (true, joinCom ⟨z, n, false, w, q⟩ u)
      | (_, u) => (false, { u with commits := s.commits.set z (.committing (r.fail n 12)) }) := by
  have hrec : t.commits[z] = .committing r := by rw [ht]; exact commits_setCommit_same s z _
  have hend : (searchNext ⟨z, n⟩ Search.start t).2.commits = t.commits := by rw [searchNext_changes_pools]
  have hmod : modCommit z (CommitRec.fail n 12) (searchNext ⟨z, n⟩ Search.start t).2 =
      { (searchNext ⟨z, n⟩ Search.start t).2 with commits := s.commits.set z (.committing (r.fail n 12)) } := by
    rw [modCommit_of_committing (by rw [hend]; exact hrec), State.setCommit, hend, ht, Vector.set_set]
  unfold askStep
  rw [start_eq] at hmod ⊢
  clear hend
  generalize searchNext ⟨z, n⟩ ⟨[], 0, []⟩ t = x at hmod ⊢
  obtain ⟨o, u⟩ := x
  cases o with
  | more w q => rfl
  | found f m p y => exact congrArg (Prod.mk false) hmod
  | empty y => exact congrArg (Prod.mk false) hmod

/-! ## The staged entries (R162, R171) -/

theorem staged_setStaged (s : State) (c : Chan) (e : Staged) (d : Chan) :
    (s.setStaged c e).staged d = if d = c then e else s.staged d := by
  split
  next h => rw [h]; simp [State.staged, State.setStaged]
  next h =>
    have hne : c.idx.val ≠ d.idx.val := fun hi => h (Chan.idx_inj (Fin.ext hi.symm))
    simp [State.staged, State.setStaged, Vector.getElem_set_ne _ _ hne]
theorem staged_keepSlots (z : Stage) (p : Slot → Bool) (s : State) (d : Chan) :
    (keepSlots z p s).staged d = if d.stage = z ∧ p d.slot = true then .keep else s.staged d := by
  have h : ∀ (ns : List Slot) (t : State), (ns.foldl (fun s n => s.setStaged ⟨z, n⟩ .keep) t).staged d =
      if d.stage = z ∧ d.slot ∈ ns then .keep else t.staged d := by
    intro ns
    induction ns with
    | nil => intro t; simp
    | cons n ns ih =>
      intro t
      rw [List.foldl_cons, ih, staged_setStaged]
      by_cases e : d = ⟨z, n⟩
      · subst e; simp
      · have hne : d.stage = z → d.slot ≠ n := fun h1 h2 => e (by rw [← h1, ← h2])
        by_cases hz : d.stage = z <;> simp [hz, e, hne]
  refine (h _ s).trans ?_
  simp

/-! ## A withdrawal (R50, R136) -/

/-- An entry without its in-search mark. -/
def PoolEntry.unmarked (e : PoolEntry) : PoolEntry := { e with inSearch := false }
theorem pool_unmark (w : Work) (s : State) (g : Group) : (w.unmark s).pool g =
    (s.pool g).map fun e => if w = .pool g e.freq then e.unmarked else e := by
  have hid : ∀ p : List PoolEntry, (∀ e ∈ p, w ≠ .pool g e.freq) →
      p.map (fun e => if w = .pool g e.freq then e.unmarked else e) = p := fun p hp => by
    conv_rhs => rw [← List.map_id p]
    exact List.map_congr_left fun e he => if_neg (hp e he)
  cases w with
  | pool k f =>
    by_cases e : g = k
    · subst e
      refine (pool_setPool_same s g _).trans (List.map_congr_left fun e _ => ?_)
      simp [PoolEntry.unmarked, eq_comm]
    · refine (pool_setPool_other s _ e).trans (hid _ fun _ _ h => ?_).symm
      injection h with h1; exact e h1.symm
  | _ => exact (hid _ fun _ _ h => by cases h).symm
theorem pool_foldl_unmark (qs : List ComReq) (s : State) (g : Group) : (qs.foldl (fun s q => q.work.unmark s) s).pool g =
    (s.pool g).map fun e => if ∃ q ∈ qs, q.work = .pool g e.freq then e.unmarked else e := by
  induction qs generalizing s with
  | nil => simp
  | cons q qs ih =>
    rw [List.foldl_cons, ih, pool_unmark, List.map_map]
    refine List.map_congr_left fun e _ => ?_
    by_cases h : q.work = .pool g e.freq <;> simp [h, PoolEntry.unmarked]
/-- The service while a stage's request is withdrawn (R50). -/
def State.serviceWithout (s : State) (z : Stage) : Option Service :=
  if s.inService fun r => match r with | .com q => q.stage = z | _ => false then none else s.engine.service
theorem serviceWithout_eq (s : State) (z : Stage) : s.serviceWithout z = match s.serving with
    | some (.com q, _) => if q.stage = z then none else s.engine.service
    | _ => s.engine.service := by
  unfold State.serviceWithout State.inService
  rcases s.serving with _ | ⟨r, v⟩
  · rfl
  · cases r with
    | com q => by_cases h : q.stage = z <;> simp [h]
    | _ => rfl
theorem withdrawCommit_eq (z : Stage) (s : State) : withdrawCommit z s = { s with
    pools := ((s.engine.comQ.filter fun q => q.stage = z).foldl (fun s q => q.work.unmark s) s).pools
    engine := { s.engine with service := s.serviceWithout z, comQ := s.engine.comQ.filter fun q => q.stage ≠ z } } := by
  have hpools : ∀ (qs : List ComReq) (t u : State), t.pools = u.pools →
      (qs.foldl (fun s q => q.work.unmark s) t).pools = (qs.foldl (fun s q => q.work.unmark s) u).pools := by
    intro qs
    induction qs with
    | nil => exact fun _ _ h => h
    | cons q qs ih =>
      refine fun t u h => ih _ _ ?_
      change (q.work.unmark t).pools = (q.work.unmark u).pools
      generalize q.work = w
      cases w <;> simp [Work.unmark, markEntry, State.setPool, State.pool, h]
  unfold withdrawCommit State.serviceWithout
  dsimp only
  generalize s.inService _ = b
  rw [foldl_unmark_changes_pools, hpools _ (discardIf b s) s (by cases b <;> rfl)]
  cases b <;> rfl

/-! ## The abort (R171) -/

/-- The state an abort leaves for its notice. -/
def aborted (z : Stage) (r : CommitRec) (s : State) : State :=
  (keepSlots z (fun n => !(s.unreached z r).contains n && !r.deferred.contains n) (withdrawCommit z s)).setCommit z .idle
theorem abortCommit_of_committing {z : Stage} {s : State} {r : CommitRec} (hr : s.commits[z] = .committing r) :
    abortCommit z s = (some (s.abortedRec z r), aborted z r s) := by
  unfold abortCommit
  rw [commitRec_of_committing hr]
  rfl
theorem aborted_changes (z : Stage) (r : CommitRec) (s : State) : aborted z r s = { s with
    commits := s.commits.set z .idle, staging := (aborted z r s).staging, pools := (aborted z r s).pools
    engine := { s.engine with service := s.serviceWithout z, comQ := s.engine.comQ.filter fun q => q.stage ≠ z } } := by
  unfold aborted
  rw [keepSlots_changes_staging, withdrawCommit_eq]
  rfl
theorem staged_aborted (z : Stage) (r : CommitRec) (s : State) (d : Chan) : (aborted z r s).staged d =
    if d.stage = z ∧ d.slot ∉ s.unreached z r ∧ d.slot ∉ r.deferred then .keep else s.staged d := by
  refine (staged_keepSlots z _ (withdrawCommit z s) d).trans ?_
  have hsame : (withdrawCommit z s).staged d = s.staged d := by rw [withdrawCommit_eq]; rfl
  rw [hsame]
  simp
theorem pool_aborted (z : Stage) (r : CommitRec) (s : State) (g : Group) : (aborted z r s).pool g = (s.pool g).map fun e =>
    if ∃ q ∈ s.engine.comQ, q.stage = z ∧ q.work = .pool g e.freq then { e with inSearch := false } else e := by
  have hpool : (aborted z r s).pool g = (withdrawCommit z s).pool g := by
    unfold aborted
    rw [keepSlots_changes_staging]; rfl
  rw [hpool, withdrawCommit_eq]
  refine (pool_foldl_unmark _ s g).trans ?_
  simp only [List.mem_filter, decide_eq_true_eq, and_assoc]
  rfl

/-! ## The restart's commits (R172) -/

theorem unreached_aborted {y z : Stage} (h : y ≠ z) (r x : CommitRec) (s : State) :
    (aborted z r s).unreached y x = s.unreached y x := by
  have hstaged : ∀ m, (aborted z r s).staged ⟨y, m⟩ = s.staged ⟨y, m⟩ := fun m => by
    rw [staged_aborted, if_neg fun hz => h hz.1]
  unfold State.unreached
  simp only [hstaged]
/-- One stage's part: its record is told when a commit runs; no commit and no wait of the stage is left, and what the
others hold stays. -/
theorem restartCommit_does (acc : List (Stage × CommitRec) × State) (z : Stage) : let t := restartCommit acc z
    t.1 = acc.1 ++ ((acc.2.commitRec z).map fun r => (z, acc.2.abortedRec z r)).toList
    ∧ t.2.commits[z] = .idle
    ∧ (∀ y, y ≠ z → t.2.commits[y] = acc.2.commits[y] ∧ ∀ r, t.2.abortedRec y r = acc.2.abortedRec y r)
    ∧ (∀ c, acc.2.commitRec c.stage = none → t.2.staged c = acc.2.staged c)
    ∧ t.2 = { acc.2 with
      commits := t.2.commits, staging := t.2.staging, pools := t.2.pools, engine := t.2.engine } := by
  obtain ⟨rs, s⟩ := acc
  cases hz : s.commits[z] with
  | committing r =>
    have heq : restartCommit (rs, s) z = (rs ++ [(z, s.abortedRec z r)], aborted z r s) := by
      simp only [restartCommit, abortCommit_of_committing hz]
    have hset : (aborted z r s).commits = s.commits.set z .idle := by rw [aborted_changes]
    rw [heq]
    refine ⟨by rw [commitRec_of_committing hz]; rfl, ?_, fun y hy => ⟨?_, fun x => ?_⟩, fun c hc => ?_, ?_⟩
    · change (aborted z r s).commits[z] = _
      rw [hset]; exact commits_setCommit_same s z _
    · change (aborted z r s).commits[y] = _
      rw [hset]; exact (commits_setCommit s z y .idle).trans (if_neg hy)
    · simp only [State.abortedRec, unreached_aborted hy]
    · refine (staged_aborted z r s c).trans (if_neg fun h => ?_)
      have hc' : s.commitRec c.stage = none := hc
      rw [h.1, commitRec_of_committing hz] at hc'; cases hc'
    · have hall := aborted_changes z r s
      change aborted z r s = { s with
        commits := (aborted z r s).commits, staging := (aborted z r s).staging, pools := (aborted z r s).pools
        engine := (aborted z r s).engine }
      generalize aborted z r s = t at hall ⊢
      rw [hall]
  | idle =>
    have hnone : s.commitRec z = none := by rw [State.commitRec, hz]
    have heq : restartCommit (rs, s) z = (rs, s) := by
      simp only [restartCommit, abortCommit, hnone, cancelWait, hz]
    rw [heq]
    exact ⟨by rw [hnone]; exact (List.append_nil _).symm, hz, fun y _ => ⟨rfl, fun _ => rfl⟩, fun _ _ => rfl, rfl⟩
  | waiting d =>
    have hnone : s.commitRec z = none := by rw [State.commitRec, hz]
    have heq : restartCommit (rs, s) z = (rs, s.setCommit z .idle) := by
      simp only [restartCommit, abortCommit, hnone, cancelWait, hz]
    rw [heq]
    exact ⟨by rw [hnone]; exact (List.append_nil _).symm, commits_setCommit_same s z _,
      fun y hy => ⟨(commits_setCommit s z y .idle).trans (if_neg hy), fun _ => rfl⟩, fun _ _ => rfl, rfl⟩
theorem restartCommits_do (zs : List Stage) (hn : zs.Nodup) (acc : List (Stage × CommitRec) × State) :
    let t := zs.foldl restartCommit acc
    t.1 = acc.1 ++ zs.filterMap (fun y => (acc.2.commitRec y).map fun r => (y, acc.2.abortedRec y r))
    ∧ (∀ y, t.2.commits[y] = if y ∈ zs then .idle else acc.2.commits[y])
    ∧ (∀ c, acc.2.commitRec c.stage = none → t.2.staged c = acc.2.staged c)
    ∧ t.2 = { acc.2 with
      commits := t.2.commits, staging := t.2.staging, pools := t.2.pools, engine := t.2.engine } := by
  induction zs generalizing acc with
  | nil => exact ⟨(List.append_nil _).symm, fun y => rfl, fun _ _ => rfl, rfl⟩
  | cons z zs ih =>
    obtain ⟨hnot, hzs⟩ := List.nodup_cons.mp hn
    obtain ⟨h1, h2, h3, h4, h5⟩ := restartCommit_does acc z
    obtain ⟨g1, g2, g3, g4⟩ := ih hzs (restartCommit acc z)
    rw [List.foldl_cons]
    generalize restartCommit acc z = m at h1 h2 h3 h4 h5 g1 g2 g3 g4 ⊢
    generalize zs.foldl restartCommit m = t at g1 g2 g3 g4 ⊢
    have hrec : ∀ y ∈ zs, m.2.commitRec y = acc.2.commitRec y := fun y hy => by
      rw [State.commitRec, (h3 y fun e => hnot (e ▸ hy)).1, State.commitRec]
    refine ⟨?_, fun y => ?_, fun c hc => ?_, ?_⟩
    · have htail : zs.filterMap (fun y => (m.2.commitRec y).map fun r => (y, m.2.abortedRec y r)) =
          zs.filterMap fun y => (acc.2.commitRec y).map fun r => (y, acc.2.abortedRec y r) :=
        List.filterMap_congr fun y hy => by
          rw [hrec y hy]; exact congrArg (Option.map · _) (funext fun r => by rw [(h3 y fun e => hnot (e ▸ hy)).2])
      rw [g1, h1, htail, List.append_assoc]
      congr 1
      rw [List.filterMap_cons]
      cases acc.2.commitRec z <;> rfl
    · rw [g2]
      by_cases e : y = z
      · subst e; rw [if_neg hnot, if_pos List.mem_cons_self, h2]
      · rw [(h3 y e).1]; simp [e]
    · refine (g3 c ?_).trans (h4 c hc)
      by_cases e : c.stage = z
      · rw [State.commitRec, e, h2]
      · rw [State.commitRec, (h3 _ e).1]; exact hc
    · rw [g4, h5]
theorem restartCommits_eq (s : State) : restartCommits s = (List.finRange 6).foldl restartCommit ([], s) := rfl
theorem commits_restartCommits (s : State) : (restartCommits s).2.commits = Vector.replicate 6 .idle := by
  obtain ⟨-, h, -⟩ := restartCommits_do (List.finRange 6) (List.nodup_finRange 6) ([], s)
  rw [restartCommits_eq]
  generalize (List.finRange 6).foldl restartCommit ([], s) = t at h ⊢
  refine Vector.ext fun i hi => ?_
  have hy := h ⟨i, hi⟩
  rw [if_pos (List.mem_finRange _)] at hy
  rw [Vector.getElem_replicate]
  exact hy
theorem told_restartCommits (s : State) : (restartCommits s).1 =
    (List.finRange 6).filterMap fun y => (s.commitRec y).map fun r => (y, s.abortedRec y r) := by
  rw [restartCommits_eq]
  exact (restartCommits_do (List.finRange 6) (List.nodup_finRange 6) ([], s)).1

/-! ## The clauses together -/

/-- The record without the deferred drop of a slot (R166). -/
def CommitRec.without (n : Slot) (r : CommitRec) : CommitRec := { r with deferred := r.deferred.filter fun m => m ≠ n }
theorem settleDrop_eq {z : Stage} (n : Slot) {s : State} {r : CommitRec} (hr : s.commits[z] = .committing r) :
    settleDrop z n s =
      let c : Chan := ⟨z, n⟩
      if (s.entryOf c).isSome = true ∨ (s.chan c).state = .moving then s
      else if (s.chan c).state = .active ∨ (s.chan c).state = .held then
        { (s.setCommit z (.committing (r.without n).drop)).setChan c (s.chan c).parked with
          backlog := s.backlog.filter fun i => i.chan ≠ c }
      else if (s.chan c).state = .parked then s.setCommit z (.committing (r.without n).drop)
      else s.setCommit z (.committing (r.without n).skip) := by
  have hu := commits_setCommit_same s z (.committing (r.without n))
  unfold settleDrop
  simp only [Bool.or_eq_true, decide_eq_true_eq]
  refine ite_congr rfl (fun _ => rfl) fun hm => ?_
  rw [modCommit_of_committing hr]
  change dropSlot z n (s.setCommit z (.committing (r.without n))) = _
  obtain ⟨he, hmove⟩ := not_or.mp hm
  have he : s.entryOf ⟨z, n⟩ = none := Option.not_isSome_iff_eq_none.mp he
  by_cases ha : (s.chan ⟨z, n⟩).state = .active ∨ (s.chan ⟨z, n⟩).state = .held
  · have hpark : (parkChannel ⟨z, n⟩ (s.setCommit z (.committing (r.without n)))).commits[z] = .committing (r.without n) := by
      rw [parkChannel_eq]; exact hu
    rw [if_pos ha, dropSlot_park (s := s.setCommit z (.committing (r.without n))) ha he, modCommit_of_committing hpark,
      parkChannel_eq]
    exact congrArg (fun t : State => { t.setChan ⟨z, n⟩ (s.chan ⟨z, n⟩).parked with
      backlog := s.backlog.filter fun i => i.chan ≠ (⟨z, n⟩ : Chan) }) (setCommit_setCommit s z _ _)
  · rw [if_neg ha]
    by_cases hp : (s.chan ⟨z, n⟩).state = .parked
    · rw [if_pos hp, dropSlot_parked (s := s.setCommit z (.committing (r.without n))) hp, modCommit_setCommit]
    · have hg : (s.setCommit z (.committing (r.without n))).dropGone ⟨z, n⟩ = true := by
        change s.dropGone ⟨z, n⟩ = true
        cases hs : (s.chan ⟨z, n⟩).state <;> simp_all [State.dropGone]
      rw [if_neg hp, dropSlot_gone hg, modCommit_setCommit]
theorem stepFound_eq {z : Stage} (n : Slot) {s : State} {r : CommitRec} (hr : s.commits[z] = .committing r) (f : Nat) :
    stepFound z n f s =
      let c : Chan := ⟨z, n⟩
      if ((s.chan c).state = .parked ∨ (s.chan c).state = .active) ∧ s.entryOf c = none ∧ (s.port (.stage z)).up = true then
        runSteps z ((List.finRange 32).filter fun m => n < m) { reserve c f s with
          backlog := (reserve c f s).backlog ++ [⟨c, .push, s.now, false⟩]
          commits := s.commits.set z (.committing { r with outstanding := r.outstanding ++ [n] }) }
      else runSteps z ((List.finRange 32).filter fun m => n < m) (s.setCommit z (.committing { r with skipped := r.skipped + 1 })) := by
  have hres : (joinBacklog ⟨⟨z, n⟩, .push, s.now, false⟩ (reserve ⟨z, n⟩ f s)).commits[z] = .committing r := by
    rw [← hr]; exact congrArg (fun v : Vector CommitState 6 => v[z]) (commits_reserve ⟨z, n⟩ f s)
  unfold stepFound nextStep
  dsimp only
  rw [modCommit_of_committing hres, modCommit_of_committing hr]
  simp only [Option.isNone_iff_eq_none]
  refine ite_congr rfl (fun _ => congrArg _ ?_) fun _ => rfl
  have h := commits_reserve ⟨z, n⟩ f s
  unfold State.setCommit joinBacklog
  generalize reserve ⟨z, n⟩ f s = t at h ⊢
  rw [← h]
theorem endCommit_eq {z : Stage} {s : State} {r : CommitRec} (hr : s.commits[z] = .committing r) : endCommit z s =
    if r.phase = .draining ∧ r.outstanding = [] ∧ r.deferred = [] then
      let s1 := keepSlots z (fun _ => true) s
      (notifyCommit z r .complete { s1 with arm := s1.arm.set z false }).setCommit z .idle
    else s := by
  unfold endCommit
  rw [commitRec_of_committing hr]
  simp only [CommitRec.ended, Bool.and_eq_true, decide_eq_true_eq, List.isEmpty_iff, and_assoc]

theorem endCommit_done {z : Stage} {s : State} {r : CommitRec} (hr : s.commits[z] = .committing r)
    (h : r.phase = .draining ∧ r.outstanding = [] ∧ r.deferred = []) :
    endCommit z s = { notifyCommit z r .complete { keepSlots z (fun _ => true) s with arm := s.arm.set z false } with
      commits := s.commits.set z .idle } := by
  rw [endCommit_eq hr, if_pos h]
  dsimp only
  have hk := keepSlots_changes_staging z (fun _ => true) s
  generalize keepSlots z (fun _ => true) s = t at hk ⊢
  have harm : t.arm = s.arm := by rw [hk]
  have hcommits : t.commits = s.commits := by rw [hk]
  have hn := notify_changes .commitDone z.val 255
    (e8 r.trigger.code ++ e8 CommitCause.complete.code ++ encCounts r ++ encFailed r.failedList) { t with arm := s.arm.set z false }
  rw [harm]
  unfold State.setCommit notifyCommit
  generalize notify .commitDone z.val 255
    (e8 r.trigger.code ++ e8 CommitCause.complete.code ++ encCounts r ++ encFailed r.failedList) { t with arm := s.arm.set z false }
    = u at hn ⊢
  have hu : u.commits = s.commits := by rw [hn]; exact hcommits
  rw [hu]

theorem abortedRec_eq (s : State) (z : Stage) (r : CommitRec) : s.abortedRec z r = { r with
    skipped := r.skipped + (if r.phase = .draining then 0 else 1) + r.deferred.length + (s.unreached z r).length } := by
  unfold State.abortedRec
  cases hp : r.phase <;> rfl

/-- Settles O27, clause by clause. -/
theorem commitStepsMeetTheirChannel : Obligations.CommitStepsMeetTheirChannel := by
  intro z n s r hr
  refine ⟨stepOne_busy (r := r) hr, fun he => ⟨fun t k p q hs ht => ?_, fun t hs ht => ?_, fun f fb hs ht ha => ?_,
    fun f fb hs ht => ?_, fun f fb k p q hs ht => ?_, fun hs ht => ?_, fun k p q hs ht => ?_⟩, fun f => stepFound_eq n hr f,
    settleDrop_eq n hr, ⟨fun hno => ?_, fun hdone => ?_, ?_⟩, fun s => ⟨told_restartCommits s, commits_restartCommits s⟩⟩
  · rw [stepOne_free hr (.inr (.inr hs)) he, ht]
    exact (if_pos hs).trans (congrArg _ (modCommit_setCommit s z _ _))
  · rw [stepOne_free hr (.inl hs) he, ht]
    exact (if_pos hs).trans (congrArg _ (modCommit_setCommit s z _ _))
  · rw [stepOne_free hr (.inr (.inr hs)) he, ht]
    refine (if_neg (by rw [hs]; exact ChState.noConfusion)).trans ?_
    exact (if_pos ⟨hs, ha⟩).trans (congrArg _ (modCommit_setCommit s z _ _))
  · rw [stepOne_free hr (.inr (hs.imp id And.left)) he, ht]
    have hused : ¬ (s.chan ⟨z, n⟩).state = .unused := by rcases hs with h | ⟨h, -⟩ <;> rw [h] <;> exact ChState.noConfusion
    have hother : ¬ ((s.chan ⟨z, n⟩).state = .active ∧ (s.chan ⟨z, n⟩).assigned = some f) := by
      rintro ⟨h1, h2⟩
      rcases hs with h | ⟨-, h⟩
      · rw [h] at h1; cases h1
      · exact h h2
    exact (if_neg hused).trans (if_neg hother)
  · rw [stepOne_free hr (hs.imp id .inl) he, ht]
    have hidle : ¬ (s.chan ⟨z, n⟩).state = .active := by rcases hs with h | h <;> rw [h] <;> exact ChState.noConfusion
    exact if_neg hidle
  · have hused : ¬ (s.chan ⟨z, n⟩).state = .unused := by rcases hs with h | h <;> rw [h] <;> exact ChState.noConfusion
    rw [stepOne_free hr (.inr hs) he, ht]
    refine (if_neg hused).trans ((askStep_any (s := s) n rfl).trans ?_)
    beta_reduce
    generalize searchNext ⟨z, n⟩ ⟨[], 0, []⟩ _ = y
    obtain ⟨o, u⟩ := y
    cases o <;> rfl
  · have hidle : ¬ (s.chan ⟨z, n⟩).state = .active := by rcases hs with h | h <;> rw [h] <;> exact ChState.noConfusion
    rw [stepOne_free hr (hs.imp id .inl) he, ht]
    refine (if_neg hidle).trans ((askStep_any (s := s) n rfl).trans ?_)
    beta_reduce
    generalize hu : searchNext ⟨z, n⟩ ⟨[], 0, []⟩ (defineStaged ⟨z, n⟩ k p q _) = y
    have hu' : searchNext ⟨z, n⟩ ⟨[], 0, []⟩ (State.setChan (s.setCommit z (.committing { r with phase := .stepping n })) ⟨z, n⟩
      (if (s.chan ⟨z, n⟩).state = .unused then { ChanRec.reset with state := .parked, cls := k, priority := p, profile := q }
        else { s.chan ⟨z, n⟩ with cls := k, priority := p, profile := q })) = y := hu
    rw [hu']
    obtain ⟨o, u⟩ := y
    cases o <;> rfl
  · rw [endCommit_eq hr, if_neg hno]
  · have hend := endCommit_done hr hdone
    have hstaged : ∀ d : Chan, (keepSlots z (fun _ => true) s).staged d = if d.stage = z then .keep else s.staged d := fun d => by
      rw [staged_keepSlots]; simp
    have hk := keepSlots_changes_staging z (fun _ => true) s
    generalize keepSlots z (fun _ => true) s = t at hend hstaged hk ⊢
    refine ⟨{ t with arm := s.arm.set z false }, hend, hstaged, ?_⟩
    rw [hk]
  · have hall := aborted_changes z r s
    have habort := abortCommit_of_committing hr
    have hstaged := staged_aborted z r s
    have hpool := pool_aborted z r s
    have hdown : commitDown z s = notifyCommit z (s.abortedRec z r) .stageDown (aborted z r s) := by rw [commitDown, habort]
    rw [abortedRec_eq] at habort hdown
    generalize aborted z r s = t at hall habort hstaged hpool hdown ⊢
    exact ⟨t, habort, hdown, hstaged, hpool, hall.trans (by rw [serviceWithout_eq] <;> rfl)⟩

end Sys2Proof.Machine
end

section
/-! RESTART: what it ends and what it keeps (R194). -/

namespace Sys2Proof.Machine

/-! ## The POOL requests of a close, and an Engine with no other requests (R48) -/

/-- The requests of the pools that need a recheck and have none, in a free order. -/
theorem queueRechecks_eq (s : State) : ∃ (order : List Group) (k : Nat),
    order.Perm ((List.finRange 4).filter fun g => (s.pool g).any (fun e => e.state = .unchecked) && !s.engine.poolQ.contains g)
    ∧ queueRechecks s = { s with freeCount := k, engine := { s.engine with poolQ := s.engine.poolQ ++ order } } := by
  have hjoin : ∀ (gs : List Group) (t : State), gs.foldl (fun s g => joinPool g s) t =
      { t with engine := { t.engine with poolQ := t.engine.poolQ ++ gs } } := by
    intro gs
    induction gs with
    | nil => intro t; simp
    | cons g gs ih =>
      intro t
      rw [List.foldl_cons, ih]
      simp [joinPool, List.append_assoc]
  have hperm := freeOrder_perm ((List.finRange 4).filter fun g => s.needsRecheck g && !s.engine.poolQ.contains g).length
    ((List.finRange 4).filter fun g => s.needsRecheck g && !s.engine.poolQ.contains g) s
  obtain ⟨k, hk⟩ := freeOrder_state ((List.finRange 4).filter fun g => s.needsRecheck g && !s.engine.poolQ.contains g).length
    ((List.finRange 4).filter fun g => s.needsRecheck g && !s.engine.poolQ.contains g) s
  refine ⟨_, k, hperm, ?_⟩
  unfold queueRechecks
  dsimp only
  rw [hjoin, hk]
/-- With POOL requests alone, the Engine's choice changes its POOL queue and its service and nothing else. -/
theorem arbitrate_pools (n : Nat) {s : State} (hm : s.engine.moveQ = []) (ha : s.engine.admQ = []) (hc : s.engine.comQ = []) :
    ∃ q v, arbitrate n s = { s with engine := { s.engine with poolQ := q, service := v } } := by
  induction n generalizing s with
  | zero => exact ⟨s.engine.poolQ, s.engine.service, rfl⟩
  | succ n ih =>
    unfold arbitrate
    by_cases hserve : s.engine.service.isSome = true
    · rw [if_pos hserve]; exact ⟨s.engine.poolQ, s.engine.service, rfl⟩
    · rw [if_neg hserve]
      cases hq : s.engine.poolQ with
      | nil =>
        have hnone : s.nextClass = none := by simp [State.nextClass, hm, ha, hc, hq]
        rw [hnone]
        exact ⟨s.engine.poolQ, s.engine.service, rfl⟩
      | cons g gs =>
        have hnext : s.nextClass = some .pool := by simp [State.nextClass, hm, ha, hc, hq]
        have hhead : s.head .pool = some (.pool g) := by simp [State.head, hq]
        rw [hnext]
        dsimp only
        rw [hhead]
        cases hcand : s.candOf (.pool g) with
        | some x => exact ⟨s.engine.poolQ, _, by simp only [hcand]; rfl⟩
        | none =>
          obtain ⟨q, v, h⟩ := ih (s := leaveHead .pool s) hm ha hc
          exact ⟨q, v, by simp only [hcand]; exact h⟩

/-! ## The answers of the waiting requests (R56, R60) -/

/-- A REPLY handed on while the Engine is as `e`. -/
theorem reply_withEngine (h : ReqHdr) (code : Nat) (st : Status) (k : Nat) (x : List Byte) (e : Engine) (s : State) :
    reply h code st k x { s with engine := e } = { reply h code st k x s with engine := e } := by
  have hport : ∀ p, State.port { s with engine := e } p = s.port p := fun p => by cases p <;> rfl
  have hand : ∀ (p : Port) (f : Frame), handTo p f { s with engine := e } = { handTo p f s with engine := e } := fun p f => by
    unfold handTo
    rw [hport]
    split
    · cases p <;> rfl
    · cases p <;> rfl
  unfold reply route
  split
  · exact hand _ _
  · rfl
/-- A request that waited, as its BUSY answers it: its header, its code and its results. -/
def answerBusy (u : State) (x : ReqHdr × Nat × List Byte) : State := reply x.1 x.2.1 .busy 0 x.2.2 u
/-- What a cut ADMISSION request is answered with. -/
def AdmReq.told (s : State) : AdmReq → Option (ReqHdr × Nat × List Byte)
  | .oper o => some (o.hdr, o.code, if o.code = 4 then encAttrs (s.chan o.chan) else [])
  | .whatIf g _ _ => some (g, 0x0C, [])
  | .guard .. | .post .. => none
theorem answers_withEngine (xs : List (ReqHdr × Nat × List Byte)) (e : Engine) (s : State) :
    xs.foldl answerBusy { s with engine := e } = { xs.foldl answerBusy s with engine := e } := by
  induction xs generalizing s with
  | nil => rfl
  | cons x xs ih =>
    rw [List.foldl_cons, answerBusy, reply_withEngine]
    exact ih _
theorem tells_answerBusy (u : State) (x : ReqHdr × Nat × List Byte) : Tells u (answerBusy u x) := tells_reply _ _ _ _ _ _
theorem cuts_eq (as : List AdmReq) (s u : State) (h : ∀ c, u.chan c = s.chan c) :
    as.foldl (fun s a => a.cut s) u = (as.filterMap (AdmReq.told s)).foldl answerBusy u := by
  induction as generalizing u with
  | nil => rfl
  | cons a as ih =>
    rw [List.foldl_cons, List.filterMap_cons]
    cases a with
    | oper o =>
      have hcut : AdmReq.cut (.oper o) u =
          answerBusy u (o.hdr, o.code, if o.code = 4 then encAttrs (s.chan o.chan) else []) := by
        simp only [AdmReq.cut, operReply, List.append_nil, h, answerBusy]
      rw [hcut]
      exact ih _ fun c => ((tells_answerBusy u _).chan c).trans (h c)
    | whatIf g x f =>
      change as.foldl _ (answerBusy u (g, 0x0C, [])) = _
      exact ih _ fun c => ((tells_answerBusy u _).chan c).trans (h c)
    | guard c f => exact ih u h
    | post c f k => exact ih u h
/-- The requests that waited, in the order in which the restart answers them. -/
def State.waited (s : State) : List (ReqHdr × Nat × List Byte) :=
  s.engine.deferred.map (fun d => (d.hdr, d.req.code, [])) ++ s.engine.admQ.filterMap (AdmReq.told s)
/-- The state with its Engine empty. -/
def idled (s : State) : State := { s with engine := Engine.idle }
theorem restartEngine_eq (s : State) : restartEngine s = s.waited.foldl answerBusy (idled s) := by
  have hdef : ∀ (ds : List Deferred) (u : State), ds.foldl (fun s d => refuse d.hdr d.req.code .busy s) u =
      (ds.map fun d => (d.hdr, d.req.code, ([] : List Byte))).foldl answerBusy u := by
    intro ds
    induction ds with
    | nil => exact fun _ => rfl
    | cons d ds ih => exact fun u => ih _
  have hfirst : Tells { s with engine := Engine.idle }
      ((s.engine.deferred.map fun d => (d.hdr, d.req.code, ([] : List Byte))).foldl answerBusy { s with engine := Engine.idle }) :=
    tells_foldl tells_answerBusy _ _
  have hcuts := cuts_eq s.engine.admQ s _ fun c => hfirst.chan c
  unfold restartEngine
  dsimp only
  rw [hdef]
  refine hcuts.trans ?_
  rw [← List.foldl_append]
  rfl
theorem tells_restartEngine (s : State) : Tells (idled s) (restartEngine s) := by
  rw [restartEngine_eq]
  exact tells_foldl tells_answerBusy _ _
theorem port_restartEngine (s : State) (p : Port) : (restartEngine s).port p = (s.waited.foldl answerBusy s).port p := by
  rw [restartEngine_eq]
  have h := answers_withEngine s.waited Engine.idle s
  change s.waited.foldl answerBusy (idled s) = _ at h
  rw [h]
  cases p <;> rfl

/-! ## The records (R3, R159) -/

theorem release_release (r : ChanRec) : r.release.release = r.release := by
  unfold ChanRec.release
  by_cases hm : r.state = .moving
  · cases hr : r.ret with
    | none => simp [hm]
    | some y => cases y <;> simp [hm, Resting.state]
  · simp [hm]
/-- The fields of a record that no end of a move changes. -/
structure SamePlan (r r' : ChanRec) : Prop where
  assigned : r'.assigned = r.assigned
  prior : r'.prior = r.prior
  history : r'.history = r.history
  cls : r'.cls = r.cls
  priority : r'.priority = r.priority
  profile : r'.profile = r.profile
  pinned : r'.pinned = r.pinned
  offPlan : r'.offPlan = r.offPlan
  lastReport : r'.lastReport = r.lastReport
  moveCount : r'.moveCount = r.moveCount
theorem SamePlan.refl (r : ChanRec) : SamePlan r r := ⟨rfl, rfl, rfl, rfl, rfl, rfl, rfl, rfl, rfl, rfl⟩
theorem SamePlan.trans {a b c : ChanRec} (h : SamePlan a b) (g : SamePlan b c) : SamePlan a c :=
  ⟨g.assigned.trans h.assigned, g.prior.trans h.prior, g.history.trans h.history, g.cls.trans h.cls,
    g.priority.trans h.priority, g.profile.trans h.profile, g.pinned.trans h.pinned, g.offPlan.trans h.offPlan,
    g.lastReport.trans h.lastReport, g.moveCount.trans h.moveCount⟩
theorem samePlan_goDark (r : ChanRec) : SamePlan r r.goDark := by
  unfold ChanRec.goDark
  split <;> exact ⟨rfl, rfl, rfl, rfl, rfl, rfl, rfl, rfl, rfl, rfl⟩
theorem samePlan_release (r : ChanRec) : SamePlan r r.release := by
  unfold ChanRec.release
  split
  · split <;> exact ⟨rfl, rfl, rfl, rfl, rfl, rfl, rfl, rfl, rfl, rfl⟩
  · exact ⟨rfl, rfl, rfl, rfl, rfl, rfl, rfl, rfl, rfl, rfl⟩
theorem samePlan_modChan (s : State) (d : Chan) {f : ChanRec → ChanRec} (hf : ∀ r, SamePlan r (f r)) (c : Chan) :
    SamePlan (s.chan c) ((s.modChan d f).chan c) := by
  rw [chan_modChan]
  split
  next h => rw [h]; exact hf _
  · exact SamePlan.refl _
theorem samePlan_restartEntry (s : State) (e : Entry) (c : Chan) : SamePlan (s.chan c) ((restartEntry s e).chan c) := by
  unfold restartEntry
  split
  · exact SamePlan.refl _
  · refine (samePlan_modChan s e.chan samePlan_release c).trans ?_
    rw [release, chan_reflag]
    exact ⟨rfl, rfl, rfl, rfl, rfl, rfl, rfl, rfl, rfl, rfl⟩
  · exact samePlan_modChan s e.chan samePlan_goDark c
  · exact samePlan_modChan s e.chan samePlan_goDark c
theorem samePlan_restartItem (s : State) (i : Item) (c : Chan) : SamePlan (s.chan c) ((restartItem s i).chan c) := by
  unfold restartItem
  split
  · exact samePlan_modChan s i.chan samePlan_goDark c
  · exact SamePlan.refl _
  · exact SamePlan.refl _
theorem samePlan_foldl {α : Type} {f : State → α → State} {c : Chan} (h : ∀ s a, SamePlan (s.chan c) ((f s a).chan c))
    (xs : List α) (s : State) : SamePlan (s.chan c) ((xs.foldl f s).chan c) := by
  induction xs generalizing s with
  | nil => exact SamePlan.refl _
  | cons x xs ih => exact (h s x).trans (ih _)

/-- A fold whose steps change a view of the state by one idempotent function, or not at all. -/
theorem foldl_once {α : Type} {f : State → α → State} {view : State → ChanRec} {g : ChanRec → ChanRec} {p : α → Prop}
    [DecidablePred p] (hg : ∀ r, g (g r) = g r) (xs : List α)
    (h : ∀ s, ∀ a ∈ xs, view (f s a) = if p a then g (view s) else view s) (s : State) :
    view (xs.foldl f s) = if ∃ a ∈ xs, p a then g (view s) else view s := by
  induction xs generalizing s with
  | nil => simp
  | cons x xs ih =>
    rw [List.foldl_cons, ih fun s a ha => h s a (List.mem_cons_of_mem x ha), h s x List.mem_cons_self]
    by_cases hx : p x
    · simp [hx, hg]
    · simp [hx]

theorem release_seat (r : ChanRec) : r.release.seat = r.seat.release.seat := by
  unfold ChanRec.release
  by_cases hm : r.state = .moving
  · cases hr : r.ret <;> simp [hm, hr, ChanRec.seat]
  · simp [hm, ChanRec.seat]
theorem seat_seat (r : ChanRec) : r.seat.seat = r.seat := rfl
/-- A change of a seat by the end of a move. -/
def seatDark (r : ChanRec) : ChanRec := r.goDark.seat
def seatReleased (r : ChanRec) : ChanRec := r.release.seat
theorem seatDark_idem (r : ChanRec) : seatDark (seatDark r) = seatDark r := by
  rw [seatDark, seatDark, ← goDark_seat, goDark_goDark]
theorem seatReleased_idem (r : ChanRec) : seatReleased (seatReleased r) = seatReleased r := by
  rw [seatReleased, seatReleased, ← release_seat, release_release]
theorem seat_modChan (s : State) (d : Chan) (f : ChanRec → ChanRec) (c : Chan) :
    ((s.modChan d f).chan c).seat = if d = c then (f (s.chan c)).seat else (s.chan c).seat := by
  rw [chan_modChan]
  by_cases h : c = d
  · subst h; rw [if_pos rfl, if_pos rfl]
  · rw [if_neg h, if_neg fun e => h e.symm]
theorem seat_restartEntry (s : State) (e : Entry) (c : Chan) : ((restartEntry s e).chan c).seat =
    if e.chan = c ∧ (e.state = .sent ∨ e.state = .locking) then seatDark (s.chan c).seat
    else if e.chan = c ∧ e.state = .proposed then seatReleased (s.chan c).seat else (s.chan c).seat := by
  unfold restartEntry seatDark seatReleased
  rw [← goDark_seat, ← release_seat]
  cases he : e.state with
  | searching => simp
  | proposed =>
    simp only [reduceCtorEq, or_self, and_false, if_false, and_true]
    by_cases h : e.chan = c
    · rw [if_pos h, ← h]; exact seat_release e.chan s
    · rw [if_neg h]; exact seat_release_other s e.chan c fun x => h x.symm
  | sent => simpa using seat_modChan s e.chan ChanRec.goDark c
  | locking => simpa using seat_modChan s e.chan ChanRec.goDark c
theorem seat_restartItem (s : State) (i : Item) (c : Chan) : ((restartItem s i).chan c).seat =
    if i.chan = c ∧ i.want = .push then seatDark (s.chan c).seat else (s.chan c).seat := by
  unfold restartItem seatDark
  rw [← goDark_seat]
  cases hi : i.want with
  | push => simpa using seat_modChan s i.chan ChanRec.goDark c
  | search => simp
  | ret => simp
/-- The seat a restart leaves a channel that has no PROPOSED entry. -/
theorem seat_unproposed (es : List Entry) (is : List Item) (s : State) (c : Chan)
    (hno : ¬ ∃ e ∈ es, e.chan = c ∧ e.state = .proposed) : ((is.foldl restartItem (es.foldl restartEntry s)).chan c).seat =
      if (∃ e ∈ es, e.chan = c ∧ (e.state = .sent ∨ e.state = .locking)) ∨ ∃ i ∈ is, i.chan = c ∧ i.want = .push
      then seatDark (s.chan c).seat else (s.chan c).seat := by
  have hentries := foldl_once (f := restartEntry) (view := fun s => (s.chan c).seat) seatDark_idem es
    (p := fun e => e.chan = c ∧ (e.state = .sent ∨ e.state = .locking))
    (fun s e he => by
      rw [seat_restartEntry]
      exact ite_congr rfl (fun _ => rfl) fun _ => if_neg fun h => hno ⟨e, he, h⟩) s
  have hitems := foldl_once (f := restartItem) (view := fun s => (s.chan c).seat) seatDark_idem is
    (p := fun i => i.chan = c ∧ i.want = .push) (fun s i _ => seat_restartItem s i c) (es.foldl restartEntry s)
  beta_reduce at hentries hitems
  rw [hitems, hentries]
  by_cases h1 : ∃ e ∈ es, e.chan = c ∧ (e.state = .sent ∨ e.state = .locking)
  · by_cases h2 : ∃ i ∈ is, i.chan = c ∧ i.want = .push
    · rw [if_pos h1, if_pos h2, if_pos (.inl h1), seatDark_idem]
    · rw [if_pos h1, if_neg h2, if_pos (.inl h1)]
  · by_cases h2 : ∃ i ∈ is, i.chan = c ∧ i.want = .push
    · rw [if_neg h1, if_pos h2, if_pos (.inr h2)]
    · rw [if_neg h1, if_neg h2, if_neg (not_or.mpr ⟨h1, h2⟩)]
/-- The seat a restart leaves a channel whose move was PROPOSED alone. -/
theorem seat_proposed (es : List Entry) (is : List Item) (s : State) (c : Chan)
    (hp : ∃ e ∈ es, e.chan = c ∧ e.state = .proposed)
    (hno : ¬ ((∃ e ∈ es, e.chan = c ∧ (e.state = .sent ∨ e.state = .locking)) ∨ ∃ i ∈ is, i.chan = c ∧ i.want = .push)) :
    ((is.foldl restartItem (es.foldl restartEntry s)).chan c).seat = seatReleased (s.chan c).seat := by
  obtain ⟨hsent, hpush⟩ := not_or.mp hno
  have hentries := foldl_once (f := restartEntry) (view := fun s => (s.chan c).seat) seatReleased_idem es
    (p := fun e => e.chan = c ∧ e.state = .proposed)
    (fun s e he => by
      rw [seat_restartEntry, if_neg fun h => hsent ⟨e, he, h⟩]) s
  have hitems := foldl_once (f := restartItem) (view := fun s => (s.chan c).seat) seatDark_idem is
    (p := fun i => i.chan = c ∧ i.want = .push) (fun s i _ => seat_restartItem s i c) (es.foldl restartEntry s)
  beta_reduce at hentries hitems
  rw [hitems, if_neg hpush, hentries, if_pos hp]

end Sys2Proof.Machine
end

section
/-! RESTART, step by step: what each step leaves, the latches of its notices, and the whole (R194). -/

namespace Sys2Proof.Machine

/-! ## The moves and the commits on an idle Engine -/

theorem restartMoves_changes (s : State) : restartMoves s = { s with
    chans := (restartMoves s).chans, table := [], backlog := [], heldFrames := [], notes := [] } := by
  have hentry : ∀ s e, restartEntry s e = { s with chans := (restartEntry s e).chans } := fun s e => by
    unfold restartEntry; split <;> rfl
  have hitem : ∀ s i, restartItem s i = { s with chans := (restartItem s i).chans } := fun s i => by
    unfold restartItem; split <;> rfl
  have hfold : ∀ {α : Type} (f : State → α → State), (∀ s a, f s a = { s with chans := (f s a).chans }) →
      ∀ (xs : List α) (s : State), xs.foldl f s = { s with chans := (xs.foldl f s).chans } := by
    intro α f hf xs
    induction xs with
    | nil => exact fun _ => rfl
    | cons x xs ih =>
      intro s
      have h1 := hf s x
      have h2 := ih (f s x)
      rw [List.foldl_cons]
      generalize f s x = t at h1 h2 ⊢
      rw [h2, h1]
  have h1 := hfold restartEntry hentry s.table s
  rw [restartMoves_eq]
  generalize s.table.foldl restartEntry s = t at h1 ⊢
  have h2 := hfold restartItem hitem t.backlog t
  generalize t.backlog.foldl restartItem t = u at h2 ⊢
  rw [h2, h1]
  rfl
theorem chan_restartMoves (s : State) (c : Chan) :
    (restartMoves s).chan c = (s.backlog.foldl restartItem (s.table.foldl restartEntry s)).chan c := by
  have hback : (s.table.foldl restartEntry s).backlog = s.backlog := foldl_keeps State.backlog backlog_restartEntry _ _
  rw [restartMoves_eq, hback]
  rfl
theorem restartCommit_idle (acc : List (Stage × CommitRec) × State) (z : Stage) (h : acc.2.engine = Engine.idle) :
    (restartCommit acc z).2.engine = Engine.idle ∧ (restartCommit acc z).2.pools = acc.2.pools := by
  obtain ⟨rs, s⟩ := acc
  have he : s.engine = Engine.idle := h
  cases hz : s.commits[z] with
  | committing r =>
    have heq : restartCommit (rs, s) z = (rs ++ [(z, s.abortedRec z r)], aborted z r s) := by
      simp only [restartCommit, abortCommit_of_committing hz]
    have hservice : s.serviceWithout z = none := by
      unfold State.serviceWithout
      rw [he]
      split <;> rfl
    rw [heq]
    refine ⟨?_, ?_⟩
    · change (aborted z r s).engine = _
      rw [aborted_changes]
      simp only [hservice, he]; rfl
    · change (aborted z r s).pools = s.pools
      unfold aborted
      rw [keepSlots_changes_staging, withdrawCommit_eq, he]; rfl
  | idle =>
    have hnone : s.commitRec z = none := by rw [State.commitRec, hz]
    have heq : restartCommit (rs, s) z = (rs, s) := by
      simp only [restartCommit, abortCommit, hnone, cancelWait, hz]
    rw [heq]
    exact ⟨he, rfl⟩
  | waiting d =>
    have hnone : s.commitRec z = none := by rw [State.commitRec, hz]
    have heq : restartCommit (rs, s) z = (rs, s.setCommit z .idle) := by
      simp only [restartCommit, abortCommit, hnone, cancelWait, hz]
    rw [heq]
    exact ⟨he, rfl⟩
theorem restartCommits_idle (s : State) (h : s.engine = Engine.idle) : (restartCommits s).2 = { s with
    commits := Vector.replicate 6 .idle, staging := (restartCommits s).2.staging } := by
  have hfold : ∀ (zs : List Stage) (acc : List (Stage × CommitRec) × State), acc.2.engine = Engine.idle →
      (zs.foldl restartCommit acc).2.engine = Engine.idle ∧ (zs.foldl restartCommit acc).2.pools = acc.2.pools := by
    intro zs
    induction zs with
    | nil => exact fun acc h => ⟨h, rfl⟩
    | cons z zs ih =>
      intro acc h
      obtain ⟨h1, h2⟩ := restartCommit_idle acc z h
      obtain ⟨g1, g2⟩ := ih _ h1
      exact ⟨g1, g2.trans h2⟩
  obtain ⟨h1, h2⟩ := hfold (List.finRange 6) ([], s) h
  obtain ⟨-, -, -, hall⟩ := restartCommits_do (List.finRange 6) (List.nodup_finRange 6) ([], s)
  have hcommits := commits_restartCommits s
  rw [restartCommits_eq] at hcommits ⊢
  generalize (List.finRange 6).foldl restartCommit ([], s) = t at h1 h2 hall hcommits ⊢
  have h2' : t.2.pools = s.pools := h2
  rw [hall, hcommits, h1, h2', ← h]
theorem staged_restartCommits (s : State) {c : Chan} (h : s.commitRec c.stage = none) :
    (restartCommits s).2.staged c = s.staged c := by
  rw [restartCommits_eq]
  exact (restartCommits_do (List.finRange 6) (List.nodup_finRange 6) ([], s)).2.2.1 c h

/-! ## The restart up to its notices -/

/-- The state after the moves and the commits of the restart. -/
def restartEnded (s : State) : State := (restartCommits (restartMoves (restartEngine s))).2
theorem restartEnded_eq (s : State) : restartEnded s = (restartCommits (restartMoves (restartEngine s))).2 := rfl
theorem restartRecords_eq (n : Nat) (s : State) :
    restartRecords n s = recounted n { s with chans := s.chans.map (ChanRec.rewatched s) } := rfl
theorem restartEnded_changes (s : State) : restartEnded s = { restartEngine s with
    chans := (restartEnded s).chans, table := [], backlog := [], heldFrames := [], notes := []
    commits := Vector.replicate 6 .idle, staging := (restartEnded s).staging } := by
  have hidle : (restartMoves (restartEngine s)).engine = Engine.idle := by
    rw [engine_restartMoves, engine_restartEngine]
  have h1 := restartMoves_changes (restartEngine s)
  have h2 := restartCommits_idle _ hidle
  rw [restartEnded_eq]
  generalize restartEngine s = e at hidle h1 h2 ⊢
  generalize restartMoves e = m at hidle h1 h2 ⊢
  generalize (restartCommits m).2 = t at h2 ⊢
  rw [h2, h1]
theorem chan_restartEnded (s : State) (c : Chan) :
    (restartEnded s).chan c = (s.backlog.foldl restartItem (s.table.foldl restartEntry (restartEngine s))).chan c := by
  have htells := tells_restartEngine s
  have htable : (restartEngine s).table = s.table := by rw [htells.only]; rfl
  have hback : (restartEngine s).backlog = s.backlog := by rw [htells.only]; rfl
  have hidle : (restartMoves (restartEngine s)).engine = Engine.idle := by
    rw [engine_restartMoves, engine_restartEngine]
  have h := restartCommits_idle _ hidle
  have hmoves := chan_restartMoves (restartEngine s) c
  rw [htable, hback] at hmoves
  rw [restartEnded_eq]
  generalize restartMoves (restartEngine s) = m at h hmoves ⊢
  generalize (restartCommits m).2 = t at h ⊢
  rw [h]
  exact hmoves
theorem staged_restartEnded (s : State) {c : Chan} (h : s.commitRec c.stage = none) : (restartEnded s).staged c = s.staged c := by
  have htells := tells_restartEngine s
  have hm := restartMoves_changes (restartEngine s)
  have hstaged : (restartEngine s).staged c = s.staged c := htells.staged c
  have hcommits : (restartEngine s).commits = s.commits := htells.commits
  rw [restartEnded_eq]
  generalize restartEngine s = e at hm hstaged hcommits ⊢
  generalize restartMoves e = m at hm ⊢
  refine (staged_restartCommits m ?_).trans ?_
  · rw [State.commitRec, hm]
    dsimp only
    rw [hcommits]
    exact h
  · rw [hm]; exact hstaged
theorem told_restartEnded (s : State) : (∃ r ∈ (restartCommits (restartMoves (restartEngine s))).1, True) ↔
    ∃ z, (s.commitRec z).isSome = true := by
  have hm := restartMoves_changes (restartEngine s)
  have hcommits : (restartEngine s).commits = s.commits := (tells_restartEngine s).commits
  have hrec : ∀ z, (restartMoves (restartEngine s)).commitRec z = s.commitRec z := fun z => by
    generalize restartEngine s = e at hm hcommits ⊢
    generalize restartMoves e = m at hm ⊢
    rw [State.commitRec, hm]
    dsimp only
    rw [hcommits, State.commitRec]
  rw [told_restartCommits]
  simp only [hrec, List.mem_filterMap, List.mem_finRange, true_and, Option.map_eq_some_iff, and_true, Option.isSome_iff_exists]
  constructor
  · rintro ⟨_, z, r, hr, _⟩; exact ⟨z, r, hr⟩
  · rintro ⟨z, r, hr⟩; exact ⟨_, z, r, hr, rfl⟩

/-! ## The latches of the notices (R192) -/

/-- A fold of steps that each set latch `i` where `p` holds, and no other. -/
theorem latches_foldl {α : Type} {f : State → α → State} {i : Fin 16} {p : α → Prop} [DecidablePred p]
    (h : ∀ s a, (f s a).latches = if p a then s.latches.set i true else s.latches) (xs : List α) (s : State) (j : Fin 16) :
    (xs.foldl f s).latches[j] = true ↔ s.latches[j] = true ∨ j = i ∧ ∃ a ∈ xs, p a := by
  induction xs generalizing s with
  | nil => simp
  | cons x xs ih =>
    rw [List.foldl_cons, ih, h]
    by_cases hp : p x
    · by_cases e : j = i
      · subst e; simp [hp]
      · have hne : i.val ≠ j.val := fun h => e (Fin.ext h.symm)
        simp [hp, e, Vector.getElem_set_ne _ _ hne]
    · simp [hp]
theorem latches_restartNotices (es : List Entry) (rs : List (Stage × CommitRec)) (vs : Vector (Option Survey) 6) (s : State)
    (j : Fin 16) : (restartNotices es rs vs s).latches[j] = true ↔ s.latches[j] = true
      ∨ (j = NoticeKind.moveFailed.idx.castSucc ∧ ∃ e ∈ es, True)
      ∨ (j = NoticeKind.commitDone.idx.castSucc ∧ ∃ r ∈ rs, True)
      ∨ j = NoticeKind.surveyDone.idx.castSucc ∧ ∃ z ∈ List.finRange 6, (vs[z]).isSome = true := by
  have h1 := latches_foldl (f := notifyRestart) (i := NoticeKind.moveFailed.idx.castSucc) (p := fun _ => True)
    (fun s e => by rw [if_pos trivial]; exact latches_notify _ _ _ _ s) es s j
  have h2 := latches_foldl (f := fun (s : State) (x : Stage × CommitRec) => notifyCommit x.1 x.2 .restart s)
    (i := NoticeKind.commitDone.idx.castSucc) (p := fun _ => True)
    (fun s e => by rw [if_pos trivial]; exact latches_notify _ _ _ _ s) rs (es.foldl notifyRestart s) j
  have h3 := latches_foldl (f := fun (s : State) (z : Stage) => match vs[z] with
      | some v => notifySurvey z v .restart s
      | none => s) (i := NoticeKind.surveyDone.idx.castSucc) (p := fun z => (vs[z]).isSome = true)
    (fun s z => by
      cases vs[z] with
      | none => rfl
      | some v => exact latches_notify _ _ _ _ s) (List.finRange 6)
    (rs.foldl (fun s x => notifyCommit x.1 x.2 .restart s) (es.foldl notifyRestart s)) j
  have h4 : ∀ (zs : List Stage) (t : State),
      (zs.foldl (fun s z => if (s.port (.stage z)).up then sendStanding z s else s) t).latches = t.latches :=
    foldl_keeps State.latches fun s z => by split <;> [exact latches_originate _ _ _ s; rfl]
  unfold restartNotices
  dsimp only
  rw [h4]
  refine h3.trans ?_
  rw [h2, h1, or_assoc, or_assoc]
theorem tells_restartNotices (es : List Entry) (rs : List (Stage × CommitRec)) (vs : Vector (Option Survey) 6) (s : State) :
    Tells s (restartNotices es rs vs s) := by
  refine (tells_foldl (fun s _ => tells_notifyChan _ _ _ s) es s).trans
    ((tells_foldl (fun s _ => tells_notify _ _ _ _ s) rs _).trans ((tells_foldl (fun s z => ?_) _ _).trans
      (tells_foldl (fun s z => tells_ite (fun _ => tells_originate _ _ _ s) fun _ => Tells.refl s) _ _)))
  split
  · exact tells_notify _ _ _ _ s
  · exact Tells.refl s

/-! ## The whole -/

theorem exists_mem_iff_ne_nil {α : Type} (xs : List α) : (∃ x ∈ xs, True) ↔ xs ≠ [] := by
  cases xs <;> simp

/-- The record a restart leaves a channel. -/
def State.restartedRec (s : State) (c : Chan) : ChanRec :=
  ((s.backlog.foldl restartItem (s.table.foldl restartEntry (restartEngine s))).chan c).rewatched s
theorem restartCore_changes (s : State) : restartCore s = { restartEngine s with
    chans := (restartCore s).chans, table := [], backlog := [], heldFrames := [], notes := []
    commits := Vector.replicate 6 .idle, staging := (restartEnded s).staging
    surveys := Vector.replicate 6 none, pools := (restartEngine s).pools.map fun p => p.map PoolEntry.restarted
    latches := Vector.replicate 16 false, counters := Vector.replicate 6 StageCounters.zero, trunkDiscards := 0
    heldDiscards := min s.heldFrames.length 255 } := by
  have h := restartEnded_changes s
  unfold restartCore
  rw [restartRecords_eq, ← restartEnded_eq]
  generalize restartEnded s = t at h ⊢
  rw [h]
  rfl
theorem rewatched_congr {s t : State} (h : t.profiles = s.profiles) (r : ChanRec) : r.rewatched t = r.rewatched s := by
  have hlive : ∀ p, t.liveProfile p = s.liveProfile p := fun p => by unfold State.liveProfile; rw [h]
  simp only [ChanRec.rewatched, State.freshWatch, hlive]
theorem chan_restartCore (s : State) (c : Chan) : (restartCore s).chan c = s.restartedRec c := by
  have hprofiles : (restartEnded s).profiles = s.profiles := by
    rw [restartEnded_changes, (tells_restartEngine s).only]; rfl
  have hchan := chan_restartEnded s c
  unfold restartCore State.restartedRec
  rw [restartRecords_eq, ← restartEnded_eq, ← hchan]
  generalize restartEnded s = t at hprofiles ⊢
  refine (chan_mapChans _ { t with surveys := Vector.replicate 6 none } c).trans ?_
  exact rewatched_congr hprofiles _
theorem staged_congr {s t : State} (h : t.staging = s.staging) (c : Chan) : t.staged c = s.staged c := by
  rw [State.staged, h, State.staged]
theorem port_congr {s t : State} (h1 : t.trunk = s.trunk) (h2 : t.stagePorts = s.stagePorts) (p : Port) :
    t.port p = s.port p := by
  cases p with
  | trunk => exact h1
  | stage z => rw [State.port, h2, State.port]
/-- What a restart leaves of a state `b`, once its own POOL requests are in. -/
structure Restarted (b t : State) : Prop where
  only : t = { b with
    trunk := t.trunk, stagePorts := t.stagePorts, trunkDiscards := t.trunkDiscards, originSeq := t.originSeq
    freeCount := t.freeCount, latches := t.latches, chans := t.chans, staging := t.staging, engine := t.engine
    table := [], backlog := [], heldFrames := [], notes := [], commits := Vector.replicate 6 .idle
    surveys := Vector.replicate 6 none, pools := b.pools.map fun p => p.map PoolEntry.restarted
    counters := Vector.replicate 6 StageCounters.zero, heldDiscards := min b.heldFrames.length 255 }
  engine : t.engine.moveQ = [] ∧ t.engine.admQ = [] ∧ t.engine.comQ = [] ∧ t.engine.deferred = []
  chan : ∀ c, t.chan c = b.restartedRec c
  staged : ∀ c : Chan, b.commitRec c.stage = none → t.staged c = b.staged c
  latched : ∀ j : Fin 16, t.latches[j] = true ↔ (j = NoticeKind.moveFailed.idx.castSucc ∧ b.table ≠ [])
    ∨ (j = NoticeKind.commitDone.idx.castSucc ∧ ∃ z, (b.commitRec z).isSome = true)
    ∨ j = NoticeKind.surveyDone.idx.castSucc ∧ ∃ z : Stage, (b.surveys[z]).isSome = true
  waits : ∀ p, ((b.waited.foldl answerBusy b).port p).tx <+: (t.port p).tx
theorem restarted_restartStep (n : Nat) (b : State) : Restarted b (arbitrate n (restartStep b)) := by
  have hcore := restartCore_changes b
  have hchan := chan_restartCore b
  have heng := engine_restartEngine b
  have hstg := fun (c : Chan) hc => staged_restartEnded b (c := c) hc
  have hprt := port_restartEngine b
  have honly := (tells_restartEngine b).only
  have htells := tells_restartNotices b.table (restartCommits (restartMoves (restartEngine b))).1 b.surveys (restartCore b)
  have hlatched := latches_restartNotices b.table (restartCommits (restartMoves (restartEngine b))).1 b.surveys (restartCore b)
  have htold := told_restartEnded b
  rw [restartStep_eq]
  generalize restartCommits (restartMoves (restartEngine b)) = told at htells hlatched htold ⊢
  generalize restartEngine b = e at hcore honly heng hprt
  generalize restartEnded b = ended at hcore hstg
  generalize restartNotices b.table told.1 b.surveys (restartCore b) = m at htells hlatched ⊢
  generalize restartCore b = core at hcore hchan htells hlatched
  have hengine : core.engine = Engine.idle := (congrArg State.engine hcore).trans heng
  have hstaged : ∀ c : Chan, b.commitRec c.stage = none → core.staged c = b.staged c := fun c hc =>
    (staged_congr (congrArg State.staging hcore) c).trans (hstg c hc)
  have hport : ∀ p, core.port p = (b.waited.foldl answerBusy b).port p := fun p =>
    (port_congr (congrArg State.trunk hcore) (congrArg State.stagePorts hcore) p).trans (hprt p)
  obtain ⟨order, k, -, hq⟩ := queueRechecks_eq m
  have hm : m.engine = Engine.idle := by rw [htells.only]; exact hengine
  have hidle : (queueRechecks m).engine = { Engine.idle with poolQ := order } := by rw [hq, hm]; rfl
  obtain ⟨q, v, ht⟩ := arbitrate_pools n (s := queueRechecks m) (by rw [hidle]; rfl) (by rw [hidle]; rfl) (by rw [hidle]; rfl)
  have hend : arbitrate n (queueRechecks m) = { m with freeCount := k, engine := ⟨[], [], [], q, v, []⟩ } := by
    rw [ht, hq, hm]; rfl
  rw [hend]
  exact
    { only := by
        have h := htells.only
        rw [hcore, honly] at h
        rw [h]
        rfl
      engine := ⟨rfl, rfl, rfl, rfl⟩
      chan := fun c => (htells.chan c).trans (hchan c)
      staged := fun c hc => (htells.staged c).trans (hstaged c hc)
      latched := fun j => by
        have hzero : core.latches[j] = false := by rw [hcore]; exact Vector.getElem_replicate _
        rw [← htold]
        refine (hlatched j).trans ?_
        simp only [hzero, Bool.false_eq_true, false_or, List.mem_finRange, true_and, exists_mem_iff_ne_nil]
      waits := fun p => by
        have h := htells.waits p
        rw [hport] at h
        exact h }

/-- No channel of a restarted state is MOVING, where every move had its owner. -/
theorem restartedRec_not_moving {s b : State} (hs : Sound s) (htable : b.table = s.table) (hback : b.backlog = s.backlog)
    (hchan : ∀ c, b.chan c = s.chan c) (c : Chan) : (b.restartedRec c).state ≠ .moving := by
  have hsame : ∀ c, (restartEngine b).chan c = s.chan c := fun c => ((tells_restartEngine b).chan c).trans (hchan c)
  have hun : Unwinding b.table b.backlog (restartEngine b) := by
    have h := unwinding_of_sound hs
    rw [htable, hback]
    exact ⟨fun c => by rw [hsame]; exact h.shaped c, fun e he hne => by rw [hsame]; exact h.moving e he hne,
      fun c hm => h.owned c (by rwa [hsame] at hm)⟩
  have hend := unwinding_items _ (unwinding_entries b.table (by rw [htable]; exact hs.unique.1) hun)
  intro hm
  rcases hend.owned c hm with ⟨_, he, _⟩ | ⟨_, hi, _⟩
  · cases he
  · cases hi
theorem samePlan_restartedRec (b : State) (c : Chan) : SamePlan (b.chan c) (b.restartedRec c) := by
  have h := (samePlan_foldl (fun s e => samePlan_restartEntry s e c) b.table (restartEngine b)).trans
    (samePlan_foldl (fun s i => samePlan_restartItem s i c) b.backlog _)
  rw [(tells_restartEngine b).chan c] at h
  exact h.trans ⟨rfl, rfl, rfl, rfl, rfl, rfl, rfl, rfl, rfl, rfl⟩
/-- The seat of a restarted channel, by the work that held it. -/
theorem seat_restartedRec (b : State) (c : Chan) :
    let sent : Prop := (∃ e ∈ b.table, e.chan = c ∧ (e.state = .sent ∨ e.state = .locking))
      ∨ ∃ i ∈ b.backlog, i.chan = c ∧ i.want = .push
    let proposed : Prop := ∃ e ∈ b.table, e.chan = c ∧ e.state = .proposed
    (¬ proposed → sent → (b.restartedRec c).seat = seatDark (b.chan c).seat)
    ∧ (proposed → ¬ sent → (b.restartedRec c).seat = seatReleased (b.chan c).seat)
    ∧ (¬ proposed → ¬ sent → (b.restartedRec c).seat = (b.chan c).seat) := by
  have hchan := (tells_restartEngine b).chan c
  refine ⟨fun hp hs => ?_, fun hp hs => ?_, fun hp hs => ?_⟩
  · have h := seat_unproposed b.table b.backlog (restartEngine b) c hp
    rw [if_pos hs, hchan] at h
    exact h
  · have h := seat_proposed b.table b.backlog (restartEngine b) c hp hs
    rw [hchan] at h
    exact h
  · have h := seat_unproposed b.table b.backlog (restartEngine b) c hp
    rw [if_neg hs, hchan] at h
    exact h
/-- The kinds of notices at their places (R191). -/
def noticeKinds : List NoticeKind := [.interference, .moved, .moveFailed, .held, .proposal, .proposalExpired, .offPlan,
  .conflictAdopted, .exclusionConflict, .admissionRefused, .poolLow, .stageDown, .stageUp, .commitDone, .surveyDone]
theorem noticeKinds_idx (k : NoticeKind) : noticeKinds[k.idx.val]? = some k := by cases k <;> rfl
theorem idx_castSucc_inj {k j : NoticeKind} : k.idx.castSucc = j.idx.castSucc ↔ k = j := by
  refine ⟨fun h => Option.some.inj ?_, fun h => by rw [h]⟩
  rw [← noticeKinds_idx, ← noticeKinds_idx, Fin.castSucc_injective _ h]
theorem watch_restartedRec (b : State) (c : Chan) : (b.restartedRec c).watch =
    ⟨if ((b.restartedRec c).state = .active ∨ (b.restartedRec c).state = .held) ∧ b.liveProfile (b.restartedRec c).profile = true
      then .armed else .off, 0, 0, none⟩ := by
  unfold State.restartedRec ChanRec.rewatched State.freshWatch
  generalize State.chan _ c = r
  dsimp only
  by_cases h1 : r.state = .active ∨ r.state = .held
  · rw [if_pos h1]
    by_cases h2 : b.liveProfile r.profile = true
    · rw [if_pos h2, if_pos ⟨h1, h2⟩]; rfl
    · rw [if_neg h2, if_neg fun h => h2 h.2]; rfl
  · rw [if_neg h1, if_neg fun h => h1 h.1]; rfl

theorem seat_fields {r r' : ChanRec} (h : r.seat = r'.seat) : r.state = r'.state ∧ r.darkFrom = r'.darkFrom
    ∧ r.pending = r'.pending ∧ r.ret = r'.ret ∧ r.heldCause = r'.heldCause := by
  have h1 := congrArg ChanRec.state h
  have h2 := congrArg ChanRec.darkFrom h
  have h3 := congrArg ChanRec.pending h
  have h4 := congrArg ChanRec.ret h
  have h5 := congrArg ChanRec.heldCause h
  exact ⟨h1, h2, h3, h4, h5⟩

/-- Settles O33: what the restart leaves, read off step by step. -/
theorem restartEndsAllWork : Obligations.RestartEndsAllWork := by
  intro h s ha
  have hb := tells_reply h 0x3F .ok 0 [] (arrived h.dt h.port s)
  change Tells _ (replyOk h 0x3F [] (arrived h.dt h.port s)) at hb
  have hr := restarted_restartStep ((restartStep (replyOk h 0x3F [] (arrived h.dt h.port s))).waiting + 16)
    (replyOk h 0x3F [] (arrived h.dt h.port s))
  refine ⟨_, exec_of_accepted rfl ha, ?_⟩
  change Restarted _ (handle h .restart (arrived h.dt h.port s)) at hr
  generalize handle h .restart (arrived h.dt h.port s) = t at hr ⊢
  generalize hreply : replyOk h 0x3F [] (arrived h.dt h.port s) = b at hb hr
  have hchan : ∀ c, b.chan c = s.chan c := fun c => (hb.chan c).trans (chan_arrived _ _ _ c)
  have htable : b.table = s.table := (congrArg State.table hb.only).trans (arrived_table _ _ _)
  have hbacklog : b.backlog = s.backlog := (congrArg State.backlog hb.only).trans (arrived_backlog _ _ _)
  have hcommits : b.commits = s.commits := hb.commits.trans (arrived_commits _ _ _)
  have hrec : ∀ z, b.commitRec z = s.commitRec z := fun z => by rw [State.commitRec, hcommits, State.commitRec]
  have hsurveys : b.surveys = s.surveys := (congrArg State.surveys hb.only).trans (arrived_surveys _ _ _)
  have hprofiles : b.profiles = s.profiles := (congrArg State.profiles hb.only).trans (arrived_profiles _ _ _)
  have hlive : ∀ p, b.liveProfile p = s.liveProfile p := fun p => by unfold State.liveProfile; rw [hprofiles]
  have hplan := fun c => samePlan_restartedRec b c
  simp only [hchan] at hplan
  have ht := hr.only
  obtain ⟨hmove, hadm, hcom, hdef⟩ := hr.engine
  refine ⟨by rw [ht], by rw [ht], by rw [ht], by rw [ht], hmove, hadm, hcom, hdef, by rw [ht], by rw [ht], by rw [ht]; rfl, ?_, fun g => ?_,
    fun c => ?_, fun c hc => ?_, ?_, ?_, ?_, ?_, ?_, ?_, ?_, ?_, ?_, fun hp c => ?_, fun c => ?_, fun k => ?_, ?_, fun p => ?_⟩
  · rw [ht, show b.heldFrames = s.heldFrames from (congrArg State.heldFrames hb.only).trans (arrived_heldFrames _ _ _)]
  · have hpools : b.pools = s.pools := (congrArg State.pools hb.only).trans (arrived_pools _ _ _)
    rw [ht, State.pool]
    dsimp only
    rw [hpools]
    exact Vector.getElem_map _ _
  · have hw := watch_restartedRec b c
    obtain ⟨p1, p2, p3, p4, p5, p6, p7, p8, p9, p10⟩ := hplan c
    rw [hr.chan]
    rw [hlive, p6] at hw
    exact ⟨p1, p2, p3, p4, p5, p6, p7, p8, p9, p10, rfl, rfl, hw⟩
  · rw [← hrec] at hc
    exact (hr.staged c hc).trans ((hb.staged c).trans (staged_arrived _ _ _ c))
  · exact (congrArg State.rules ht).trans ((congrArg State.rules hb.only).trans (rules_arrived _ _ _))
  · exact (congrArg State.gens ht).trans ((congrArg State.gens hb.only).trans (arrived_gens _ _ _))
  · exact (congrArg State.excl ht).trans ((congrArg State.excl hb.only).trans (arrived_excl _ _ _))
  · exact (congrArg State.couple ht).trans ((congrArg State.couple hb.only).trans (arrived_couple _ _ _))
  · exact (congrArg State.rels ht).trans ((congrArg State.rels hb.only).trans (arrived_rels _ _ _))
  · exact (congrArg State.caps ht).trans ((congrArg State.caps hb.only).trans (arrived_caps _ _ _))
  · exact (congrArg State.arm ht).trans ((congrArg State.arm hb.only).trans (arrived_arm _ _ _))
  · refine (congrArg State.settings ht).trans ((congrArg State.settings hb.only).trans ?_)
    simp only [State.settings, arrived_gate, arrived_lock, arrived_confirm, arrived_spans, arrived_enables, arrived_profiles]
  · exact (congrArg State.now ht).trans ((congrArg State.now hb.only).trans (arrived_now _ _ _))
  · rw [hr.chan]
    exact restartedRec_not_moving hp.sound htable hbacklog hchan c
  · obtain ⟨hdark, hback, hstay⟩ := seat_restartedRec b c
    rw [hr.chan]
    rw [htable, hbacklog, hchan] at hdark hback hstay
    refine ⟨fun hp hs hm => ?_, fun y hp hs hm hy => ?_, fun hp hs => ?_⟩
    · have h := hdark hp hs
      rw [seatDark, ← goDark_seat] at h
      have hgo : (s.chan c).goDark = { s.chan c with
          state := .dark, darkFrom := some .moving, ret := none, heldCause := none, watch := Watch.off } := by
        simp only [ChanRec.goDark, hm]
      rw [hgo] at h
      exact seat_fields h
    · have h := hback hp hs
      rw [seatReleased, ← release_seat, release_of_moving hm hy] at h
      obtain ⟨h1, h2, h3, h4, h5⟩ := seat_fields h
      exact ⟨h1, h3, h4, h5, h2⟩
    · obtain ⟨h1, h2, h3, h4, h5⟩ := seat_fields (hstay hp hs)
      exact ⟨h1, h3, h4, h5, h2⟩
  · rw [hr.latched]
    simp only [idx_castSucc_inj, htable, hrec, hsurveys]
  · refine Bool.eq_false_iff.mpr fun h15 => ?_
    rcases (hr.latched 15).mp h15 with ⟨h, -⟩ | ⟨h, -⟩ | ⟨h, -⟩ <;> exact absurd h (by decide)
  · have hw := hr.waits p
    have hwaited : b.waited = s.waited := by
      have hengine : b.engine = s.engine := (congrArg State.engine hb.only).trans (arrived_engine _ _ _)
      have htold : AdmReq.told b = AdmReq.told s := by
        funext a
        cases a <;> simp only [AdmReq.told, hchan]
      rw [State.waited, State.waited, hengine, htold]
    rw [hwaited, ← hreply] at hw
    exact hw

end Sys2Proof.Machine
end

section
/-! The ports (R62, R69, R72 to R76). -/

namespace Sys2Proof.Machine

theorem setPort_trunk (x : PortState) (s : State) : s.setPort .trunk x = { s with trunk := x } := rfl
theorem setPort_setPort (p : Port) (x y : PortState) (s : State) : (s.setPort p x).setPort p y = s.setPort p y := by
  cases p with
  | trunk => rfl
  | stage z => simp only [State.setPort, Vector.set_set]

/-- Frames that waited at the trunk are counted one by one, up to 255 (R69). -/
theorem foldl_bumpTrunk (xs : List Frame) (s : State) (h : s.trunkDiscards ≤ 255) :
    xs.foldl (fun s _ => bumpTrunk s) s = { s with trunkDiscards := min (s.trunkDiscards + xs.length) 255 } := by
  induction xs generalizing s with
  | nil =>
    have hmin : min (s.trunkDiscards + ([] : List Frame).length) 255 = s.trunkDiscards := by simpa using h
    rw [List.foldl_nil, hmin]
  | cons x xs ih =>
    have hone : (bumpTrunk s).trunkDiscards = min (s.trunkDiscards + 1) 255 := rfl
    have hsum : min ((bumpTrunk s).trunkDiscards + xs.length) 255 = min (s.trunkDiscards + (x :: xs).length) 255 := by
      rw [hone, List.length_cons]; omega
    rw [List.foldl_cons, ih _ (by rw [hone]; omega), hsum]
    rfl
theorem trunkDown_eq (s : State) (h : s.trunkDiscards ≤ 255) : trunkDown s =
    { s with trunk := ⟨false, none, s.trunk.sigdet, []⟩, trunkDiscards := min (s.trunkDiscards + s.trunk.tx.length) 255 } :=
  foldl_bumpTrunk _ _ h

/-- A loss that takes no port DOWN clears the input of its port (R72). -/
theorem lineSignalLoss_of_down {dt : Nat} {p : Port} {s : State}
    (h : (s.port p).up = false ∨ (s.port p).sigdet = false) :
    exec (.lineSignalLoss dt p) s = .next (setSigdet p false (passTime dt s)) := by
  have hoff : (((passTime dt s).port p).sigdet && ((passTime dt s).port p).up) = false := by
    rw [passTime_sigdet, passTime_up]
    rcases h with h | h <;> simp [h]
  change Host.Outcome.next (lineSignalLoss dt p s) = _
  unfold lineSignalLoss
  simp only [hoff, Bool.false_eq_true, if_false]
/-- A loss on an UP port whose signal stood takes it DOWN (R72). -/
theorem lineSignalLoss_of_up {dt : Nat} {p : Port} {s : State} (hup : (s.port p).up = true)
    (hsig : (s.port p).sigdet = true) : exec (.lineSignalLoss dt p) s = .next (finish (passTime dt s)
      (portDown p .signalLoss (setSigdet p false (passTime dt s)))) := by
  have hon : (((passTime dt s).port p).sigdet && ((passTime dt s).port p).up) = true := by
    rw [passTime_sigdet, passTime_up, hup, hsig]; rfl
  change Host.Outcome.next (lineSignalLoss dt p s) = _
  unfold lineSignalLoss
  simp only [hon, if_true]
  rfl
/-- The end of the silence of an UP port takes it DOWN (R72). -/
theorem silenceTimerExpiry_of_up {p : Port} {s : State} {d : Nat} (hup : (s.port p).up = true)
    (hd : (s.port p).silence = some d) : exec (.silenceTimerExpiry p) s = .next (finish (passTime (d - s.now) s)
      (portDown p .silence (passTime (d - s.now) s))) := by
  change Host.Outcome.next (expire (s.silenceDl p) (portDown p .silence) s) = _
  rw [State.silenceDl, hup, if_pos rfl, hd, expire_some]

theorem darkCount_congr {s t : State} (z : Stage) (h : ∀ c, t.chan c = s.chan c) : t.darkCount z = s.darkCount z := by
  simp only [State.darkCount, h]
theorem tells_sendQuery (z : Stage) (n : Nat) (s : State) : Tells s (sendQuery z n s) := tells_originate _ _ _ _
theorem tells_sendStanding (z : Stage) (s : State) : Tells s (sendStanding z s) := tells_originate _ _ _ _
/-- What a stage that comes UP sends, and the wait that follows (R74). -/
theorem stageUp_eq (z : Stage) (s : State) : stageUp z s =
    beginWait z (notify .stageUp z.val 255 [byteOf (s.darkCount z)]
      (sendStanding z (sendQuery z 3 (sendQuery z 2 (sendQuery z 1 (sendQuery z 0 s)))))) := by
  have htells : Tells s (sendStanding z (sendQuery z 3 (sendQuery z 2 (sendQuery z 1 (sendQuery z 0 s))))) :=
    ((((tells_sendQuery z 0 s).trans (tells_sendQuery z 1 _)).trans (tells_sendQuery z 2 _)).trans
      (tells_sendQuery z 3 _)).trans (tells_sendStanding z _)
  rw [← darkCount_congr z htells.chan]
  rfl

/-- Settles O35: by what brings a port UP, by the level of its input, and by the fall of the trunk. -/
theorem portsGoUpAndDown : Obligations.PortsGoUpAndDown := by
  intro s
  refine ⟨fun dt p hdown => ?rise, fun dt p => ⟨rfl, lineSignalLoss_of_down⟩, fun hup hcount => ⟨fun dt hsig => ?loss,
    fun d hd => ?silence⟩⟩
  case rise =>
    have hoff : ((passTime dt s).port p).up = false := (passTime_up dt p s).trans hdown
    unfold arrive
    simp only [hoff, Bool.false_eq_true, if_false]
    cases p with
    | trunk => rfl
    | stage z => exact congrArg (finish (passTime dt s)) (stageUp_eq z (restartSilence (.stage z) (passTime dt s)))
  case loss =>
    have hsame : (passTime dt s).trunkDiscards = s.trunkDiscards := passTime_trunkDiscards dt s
    refine (lineSignalLoss_of_up (p := .trunk) hup hsig).trans ?_
    generalize passTime dt s = b at hsame ⊢
    exact congrArg (fun x => Host.Outcome.next (finish b x)) (trunkDown_eq (setSigdet .trunk false b) (hsame ▸ hcount))
  case silence =>
    have hsame : (passTime (d - s.now) s).trunkDiscards = s.trunkDiscards := passTime_trunkDiscards _ s
    have hsig : (passTime (d - s.now) s).trunk.sigdet = s.trunk.sigdet := passTime_sigdet (d - s.now) .trunk s
    refine (silenceTimerExpiry_of_up (p := .trunk) hup hd).trans ?_
    generalize passTime (d - s.now) s = b at hsame hsig ⊢
    rw [← hsig]
    exact congrArg (fun x => Host.Outcome.next (finish b x)) (trunkDown_eq b (hsame ▸ hcount))

end Sys2Proof.Machine
end

section
/-! What the end of a change leaves alone: its close, the deferred requests and the Engine's next choice touch no clock, no
capability, no survey, no held frame, no link, and no channel at rest (R48, R53, R56, R141, R166, R170). -/

namespace Sys2Proof.Machine

/-- A channel at rest: it has no move, and its stage runs no commit. -/
structure AtRest (s : State) (c : Chan) : Prop where
  state : (s.chan c).state = .unused ∨ (s.chan c).state = .parked ∨ (s.chan c).state = .dark
  entry : s.entryOf c = none
  item : s.itemOf c = none
  idle : s.commits[c.stage] = .idle
/-- A record keeps its seat, and its watch where that is off. -/
structure ChanRec.Asleep (r r' : ChanRec) : Prop where
  seat : r'.seat = r.seat
  watch : r.watch = Watch.off → r'.watch = Watch.off
theorem asleep_refl (r : ChanRec) : r.Asleep r := ⟨rfl, id⟩

/-- What lies outside the plan and its moves: the clock, the capabilities, the surveys, the held frames and the links. -/
def State.outside (s : State) :=
  (s.now, s.caps, s.surveys, s.heldFrames, s.trunk, s.stagePorts)
/-- What an end of a change leaves alone, of the channels at rest those in `P`. -/
structure Closing (P : Chan → Prop) (s t : State) : Prop where
  now : t.now = s.now
  caps : t.caps = s.caps
  surveys : t.surveys = s.surveys
  heldFrames : t.heldFrames = s.heldFrames
  up : ∀ p, (t.port p).up = (s.port p).up
  silence : ∀ p, (t.port p).silence = (s.port p).silence
  sigdet : ∀ p, (t.port p).sigdet = (s.port p).sigdet
  mute : ∀ p, (s.port p).up = false → (t.port p).tx = (s.port p).tx
  notes : ∀ n ∈ t.notes, n ∈ s.notes
  rest : ∀ c, P c → AtRest s c → AtRest t c ∧ (s.chan c).Asleep (t.chan c)

variable {P : Chan → Prop} {s t u : State}

theorem Closing.refl (s : State) : Closing P s s :=
  ⟨rfl, rfl, rfl, rfl, fun _ => rfl, fun _ => rfl, fun _ => rfl, fun _ _ => rfl, fun _ h => h,
    fun _ _ h => ⟨h, asleep_refl _⟩⟩
theorem Closing.trans (h : Closing P s t) (g : Closing P t u) : Closing P s u where
  now := g.now.trans h.now
  caps := g.caps.trans h.caps
  surveys := g.surveys.trans h.surveys
  heldFrames := g.heldFrames.trans h.heldFrames
  up := fun p => (g.up p).trans (h.up p)
  silence := fun p => (g.silence p).trans (h.silence p)
  sigdet := fun p => (g.sigdet p).trans (h.sigdet p)
  mute := fun p hp => (g.mute p ((h.up p).trans hp)).trans (h.mute p hp)
  notes := fun n hn => h.notes n (g.notes n hn)
  rest := fun c hc hr => by
    obtain ⟨h1, h2⟩ := h.rest c hc hr
    obtain ⟨g1, g2⟩ := g.rest c hc h1
    exact ⟨g1, g2.seat.trans h2.seat, fun hw => g2.watch (h2.watch hw)⟩
theorem Closing.mono {Q : Chan → Prop} (h : Closing P s t) (hp : ∀ c, Q c → AtRest s c → P c) : Closing Q s t :=
  { h with rest := fun c hc hr => h.rest c (hp c hc hr) hr }
theorem closing_ite {p : Prop} [Decidable p] (ht : p → Closing P s t) (hu : ¬ p → Closing P s u) :
    Closing P s (if p then t else u) := by
  split
  next h => exact ht h
  next h => exact hu h
theorem closing_foldl {α : Type} {f : State → α → State} (h : ∀ s a, Closing P s (f s a)) (xs : List α) (s : State) :
    Closing P s (xs.foldl f s) := by
  induction xs generalizing s with
  | nil => exact Closing.refl s
  | cons x xs ih => exact (h s x).trans (ih _)

/-! ## The updates of the plan -/

theorem Closing.of_outside (h : t.outside = s.outside) (hnotes : ∀ n ∈ t.notes, n ∈ s.notes)
    (hrest : ∀ c, P c → AtRest s c → AtRest t c ∧ (s.chan c).Asleep (t.chan c)) : Closing P s t := by
  simp only [State.outside, Prod.mk.injEq] at h
  obtain ⟨h1, h2, h3, h4, h5, h6⟩ := h
  have hport : ∀ p, t.port p = s.port p := fun p => by cases p <;> simp only [State.port, h5, h6]
  exact ⟨h1, h2, h3, h4, fun p => by rw [hport], fun p => by rw [hport], fun p => by rw [hport], fun p _ => by rw [hport],
    hnotes, hrest⟩
/-- What lies outside the records of the plan, its tables and the Engine: the moves and the commits with the rest. -/
def State.beside (s : State) := (s.outside, s.notes, s.table, s.backlog, s.commits)
/-- An update that touches no place of a move but through the records. -/
theorem Closing.of_chans (h : t.beside = s.beside) (hchan : ∀ c, P c → AtRest s c → (s.chan c).Asleep (t.chan c)) :
    Closing P s t := by
  simp only [State.beside, Prod.mk.injEq] at h
  obtain ⟨houtside, hnotes, htable, hbacklog, hcommits⟩ := h
  refine .of_outside houtside (fun n hn => hnotes ▸ hn) fun c hc hr => ⟨⟨?_, ?_, ?_, hcommits ▸ hr.idle⟩, hchan c hc hr⟩
  · rw [← seat_state, (hchan c hc hr).seat]; exact hr.state
  · rw [State.entryOf, htable]; exact hr.entry
  · rw [State.itemOf, hbacklog]; exact hr.item
theorem Tells.closing (h : Tells s t) : Closing P s t := by
  have hchan := h.chan
  have hup := h.up
  have hsilence := h.silence
  have hsigdet := h.sigdet
  have hmute := h.mute
  have honly := h.only
  refine ⟨?_, ?_, ?_, ?_, hup, hsilence, hsigdet, hmute, fun n hn => ?_, fun c _ hr => ⟨⟨?_, ?_, ?_, ?_⟩, ?_⟩⟩
  · rw [honly]
  · rw [honly]
  · rw [honly]
  · rw [honly]
  · rw [honly] at hn; exact hn
  · rw [hchan]; exact hr.state
  · rw [honly]; exact hr.entry
  · rw [honly]; exact hr.item
  · rw [honly]; exact hr.idle
  · rw [hchan]; exact asleep_refl _

theorem closing_engine (e : Engine) (s : State) : Closing P s { s with engine := e } :=
  .of_chans rfl fun _ _ _ => asleep_refl _
theorem closing_pools (v : Vector (List PoolEntry) 4) (s : State) : Closing P s { s with pools := v } :=
  .of_chans rfl fun _ _ _ => asleep_refl _
theorem closing_freeCount (n : Nat) (s : State) : Closing P s { s with freeCount := n } :=
  .of_chans rfl fun _ _ _ => asleep_refl _
theorem closing_staging (v : Vector Staged 192) (s : State) : Closing P s { s with staging := v } :=
  .of_chans rfl fun _ _ _ => asleep_refl _
theorem closing_arm (v : Vector Bool 6) (s : State) : Closing P s { s with arm := v } :=
  .of_chans rfl fun _ _ _ => asleep_refl _
theorem closing_latches (v : Vector Bool 16) (s : State) : Closing P s { s with latches := v } :=
  .of_chans rfl fun _ _ _ => asleep_refl _
theorem closing_bumpStage (z : Stage) (k : Ctr) (s : State) : Closing P s (bumpStage z k s) :=
  .of_chans rfl fun _ _ _ => asleep_refl _
/-- A change of one record, which leaves the channel of the record out of account. -/
theorem closing_modChan (c : Chan) (f : ChanRec → ChanRec) (s : State) : Closing (· ≠ c) s (s.modChan c f) :=
  .of_chans rfl fun d hd _ => by rw [chan_modChan, if_neg hd]; exact asleep_refl _
theorem closing_modChan_asleep (c : Chan) {f : ChanRec → ChanRec} (s : State)
    (hf : AtRest s c → (s.chan c).Asleep (f (s.chan c))) : Closing P s (s.modChan c f) := by
  refine .of_chans rfl fun d _ hr => ?_
  rw [chan_modChan]
  split
  next e => subst e; exact hf hr
  · exact asleep_refl _
theorem closing_reflag (c : Chan) (s : State) : Closing P s (reflag c s) :=
  closing_modChan_asleep c s fun _ => ⟨rfl, id⟩
theorem closing_dropNote (c : Chan) (s : State) : Closing P s (s.dropNote c) :=
  .of_outside rfl (fun _ hn => (List.mem_filter.mp hn).1) fun _ _ hr =>
    ⟨⟨hr.state, hr.entry, hr.item, hr.idle⟩, asleep_refl _⟩
theorem entryOf_dropEntry_none {c d : Chan} (h : s.entryOf d = none) : (s.dropEntry c).entryOf d = none := by
  rw [State.entryOf, List.find?_eq_none] at h ⊢
  exact fun e he => h e (List.mem_filter.mp he).1
theorem closing_dropEntry (c : Chan) (s : State) : Closing P s (s.dropEntry c) :=
  .of_outside rfl (fun _ hn => hn) fun _ _ hr =>
    ⟨⟨hr.state, entryOf_dropEntry_none hr.entry, hr.item, hr.idle⟩, asleep_refl _⟩
theorem closing_filterBacklog (p : Item → Bool) (s : State) : Closing P s { s with backlog := s.backlog.filter p } := by
  refine .of_outside rfl (fun _ hn => hn) fun c _ hr => ⟨⟨hr.state, hr.entry, ?_, hr.idle⟩, asleep_refl _⟩
  have h := hr.item
  rw [State.itemOf, List.find?_eq_none] at h ⊢
  exact fun e he => h e (List.mem_filter.mp he).1
theorem closing_putEntry (e : Entry) (s : State) : Closing (· ≠ e.chan) s (s.putEntry e) :=
  .of_outside rfl (fun _ hn => hn) fun _ hc hr =>
    ⟨⟨hr.state, (entryOf_putEntry_other s hc).trans hr.entry, hr.item, hr.idle⟩, asleep_refl _⟩
theorem closing_addEntry {e : Entry} {d : Chan} (hd : e.chan = d) (s : State) : Closing (· ≠ d) s (addEntry e s) := by
  subst hd
  refine (closing_dropNote e.chan s).trans (.of_outside rfl (fun _ hn => hn) fun c hc hr =>
    ⟨⟨hr.state, ?_, hr.item, hr.idle⟩, asleep_refl _⟩)
  have h : (s.dropNote e.chan).table.find? (fun x => decide (x.chan = c)) = none := hr.entry
  change ((s.dropNote e.chan).table ++ [e]).find? (fun x => decide (x.chan = c)) = none
  rw [List.find?_append, h]
  simpa using fun he : e.chan = c => hc he.symm
theorem closing_setCommit (z : Stage) (v : CommitState) (s : State) :
    Closing (fun c => v ≠ .idle → c.stage ≠ z) s (s.setCommit z v) := by
  refine .of_outside rfl (fun _ hn => hn) fun c hc hr => ⟨⟨hr.state, hr.entry, hr.item, ?_⟩, asleep_refl _⟩
  by_cases h : c.stage = z
  · subst h
    rw [commits_setCommit_same]
    exact Decidable.not_not.mp fun hv => hc hv rfl
  · have := hr.idle
    simp only [State.setCommit]
    have hne : z.val ≠ c.stage.val := fun e => h (Fin.ext e.symm)
    have hother : (s.commits.set z v)[c.stage] = s.commits[c.stage] := Vector.getElem_set_ne z.isLt c.stage.isLt hne
    exact hother.trans this

/-! ## The close of a change -/

theorem closing_modCommit (z : Stage) (f : CommitRec → CommitRec) (s : State) :
    Closing (fun c => c.stage ≠ z) s (modCommit z f s) := by
  unfold modCommit
  split
  · exact (closing_setCommit z _ s).mono fun _ h _ _ => h
  · exact Closing.refl s
theorem closing_dropSlot (z : Stage) (n : Slot) (s : State) : Closing (fun c => c.stage ≠ z) s (dropSlot z n s) := by
  unfold dropSlot
  dsimp only
  split
  · refine closing_ite (fun _ => closing_modCommit z _ s) fun _ => ?_
    refine Closing.trans ?_ (closing_modCommit z _ _)
    have hpark := (closing_modChan ⟨z, n⟩ ChanRec.park s).mono (Q := fun c => c.stage ≠ z) fun c hc _ e => hc (by rw [e])
    exact (hpark.trans (closing_filterBacklog _ _)).trans (closing_reflag _ _)
  · refine closing_ite (fun _ => closing_modCommit z _ s) fun _ => ?_
    refine Closing.trans ?_ (closing_modCommit z _ _)
    have hpark := (closing_modChan ⟨z, n⟩ ChanRec.park s).mono (Q := fun c => c.stage ≠ z) fun c hc _ e => hc (by rw [e])
    exact (hpark.trans (closing_filterBacklog _ _)).trans (closing_reflag _ _)
  all_goals exact closing_modCommit z _ s
theorem closing_settleDrop (z : Stage) (n : Slot) (s : State) : Closing (fun c => c.stage ≠ z) s (settleDrop z n s) :=
  closing_ite (fun _ => Closing.refl s) fun _ => (closing_modCommit z _ s).trans (closing_dropSlot z n _)
theorem closing_settleDrops (s : State) : Closing P s (settleDrops s) := by
  refine closing_foldl (fun s z => ?_) _ s
  split
  next r hr =>
    refine (closing_foldl (fun s n => closing_settleDrop z n s) r.deferred s).mono fun c _ hrest e => ?_
    subst e
    rw [State.commitRec, hrest.idle] at hr
    cases hr
  · exact Closing.refl s

theorem closing_searchNext (c : Chan) (q : Search) (s : State) : Closing P s (searchNext c q s).2 := by
  rw [searchNext_changes_pools]
  exact closing_pools _ s
theorem closing_noCandidate (c : Chan) (q : Search) (s : State) : Closing (· ≠ c) s (noCandidate c q s) :=
  (((closing_modChan c _ s).trans (closing_dropEntry c _)).trans (closing_bumpStage _ _ _)).trans
    (tells_notify _ _ _ _ _).closing
theorem closing_askSearch (c : Chan) (x : SearchStep) (s : State) : Closing (· ≠ c) s (askSearch c x s) := by
  unfold askSearch
  split
  next e w q he =>
    obtain rfl := entryOf_chan he
    exact (closing_putEntry { e with search := q } s).trans (closing_engine _ _)
  · exact closing_noCandidate c _ s
  · exact Closing.refl s
theorem closing_returnSkip (c : Chan) (b : Bool) (s : State) : Closing P s (returnSkip c b s) := by
  refine ((closing_dropEntry c s).trans (closing_modChan_asleep c _ fun _ => ?_)).trans (closing_bumpStage _ _ _)
  cases b <;> exact ⟨rfl, id⟩
theorem closing_sendEntry (c : Chan) (s : State) : Closing (· ≠ c) s (sendEntry c s) := by
  unfold sendEntry
  split
  next e he =>
    obtain rfl := entryOf_chan he
    refine (closing_putEntry (e.sent s.now) s).trans ?_
    split
    · exact closing_ite (fun _ => Closing.refl _) fun _ => (tells_originate _ _ _ _).closing
    · exact Closing.refl _
  · exact Closing.refl s
theorem closing_serveItem (i : Item) (s : State) : Closing (· ≠ i.chan) s (serveItem i s) := by
  have hdrop : Closing (· ≠ i.chan) s (s.dropItem i.chan) := closing_filterBacklog _ s
  unfold serveItem
  dsimp only
  split
  · refine hdrop.trans ?_
    generalize hy : addEntry _ (s.dropItem i.chan) = y
    have hadd : Closing (· ≠ i.chan) (s.dropItem i.chan) y := by rw [← hy]; exact closing_addEntry (by rfl) _
    exact (hadd.trans (closing_searchNext i.chan Search.start y)).trans (closing_askSearch _ _ _)
  · refine hdrop.trans ?_
    generalize hy : addEntry _ (s.dropItem i.chan) = y
    have hadd : Closing (· ≠ i.chan) (s.dropItem i.chan) y := by rw [← hy]; exact closing_addEntry (by rfl) _
    exact hadd.trans (closing_ite (fun _ => closing_returnSkip _ _ _) fun _ => closing_engine _ _)
  · exact hdrop.trans ((closing_addEntry (by rfl) _).trans (closing_sendEntry _ _))
/-- An item that can be served stands in the backlog, so its channel is not at rest. -/
theorem closing_arbiter (n : Nat) (s : State) : Closing P s (arbiter n s) := by
  induction n generalizing s with
  | zero => exact Closing.refl s
  | succ n ih =>
    unfold arbiter
    refine closing_ite (fun _ => Closing.refl s) fun _ => ?_
    dsimp only
    split
    next i hi =>
      obtain ⟨k, hk⟩ := usePick_eq s.foremost.length s
      rw [hk]
      refine Closing.trans ?_ (ih _)
      refine (closing_freeCount k s).trans ((closing_serveItem i _).mono fun c _ hr e => ?_)
      have hnone : { s with freeCount := k }.itemOf c = none := hr.item
      rw [State.itemOf, List.find?_eq_none] at hnone
      exact hnone i (mem_foremost (List.mem_of_getElem? hi)) (by simp [e])
    · exact Closing.refl s

theorem closing_leaveHead (k : ReqClass) (s : State) : Closing P s (leaveHead k s) := by
  rw [leaveHead_changes_engine]; exact closing_engine _ s
theorem closing_endRevert (o : Oper) (s : State) : Closing P s (endRevert o s) := (tells_reply _ _ _ _ _ s).closing
theorem closing_restartService (s : State) : Closing P s (restartService s) := by
  unfold restartService
  split
  · exact Closing.refl s
  · refine closing_ite (fun _ => Closing.refl s) fun _ => closing_ite (fun _ => ?_) fun _ => closing_engine _ s
    split
    · exact closing_engine _ s
    · split
      · exact ((closing_engine _ s).trans (closing_leaveHead _ _)).trans (closing_endRevert _ _)
      · exact closing_engine _ s
theorem closing_queueRechecks (s : State) : Closing P s (queueRechecks s) := by
  obtain ⟨order, k, -, h⟩ := queueRechecks_eq s
  rw [h]
  exact (closing_freeCount k s).trans (closing_engine _ _)
theorem tells_notifyConflict (c : Chan) (s : State) : Tells s (notifyConflict c s) := by
  unfold notifyConflict
  split
  · exact tells_notifyChan _ _ _ _
  · exact Tells.refl s
theorem tells_exclusionNotices (s0 s : State) : Tells s (exclusionNotices s0 s) :=
  tells_foldl (fun s c => tells_notifyConflict c s) _ s
theorem tells_poolNotices (s0 s : State) : Tells s (poolNotices s0 s) :=
  tells_foldl (fun s _ => tells_notify _ _ _ _ s) _ s
theorem closing_endCommit (z : Stage) (s : State) : Closing P s (endCommit z s) := by
  unfold endCommit
  split
  · refine closing_ite (fun _ => ?_) fun _ => Closing.refl s
    refine Closing.trans ?_ ((closing_setCommit z .idle _).mono fun _ _ _ h => absurd rfl h)
    refine Closing.trans ?_ (tells_notify _ _ _ _ _).closing
    have hkeep : Closing P s (keepSlots z (fun _ => true) s) := by
      rw [keepSlots_changes_staging]; exact closing_staging _ s
    exact hkeep.trans (closing_arm _ _)
  · exact Closing.refl s
theorem closing_closeChange (s0 s : State) : Closing P s (closeChange s0 s) := by
  have hprune : ∀ s : State, Closing P s (pruneBacklog (settleDrops s)) := fun s =>
    (closing_settleDrops s).trans (closing_filterBacklog _ _)
  have hsettle : Closing P s (settleBacklog s) := ((hprune s).trans (closing_arbiter _ _)).trans (hprune _)
  exact ((((hsettle.trans (closing_restartService _)).trans (closing_queueRechecks _)).trans
    (tells_exclusionNotices s0 _).closing).trans (tells_poolNotices s0 _).closing).trans
    (closing_foldl (fun s z => closing_endCommit z s) _ _)

/-! ## The deferred requests and the next choice -/

theorem closing_reply (h : ReqHdr) (code : Nat) (st : Status) (k : Nat) (x : List Byte) (s : State) :
    Closing P s (reply h code st k x s) := (tells_reply h code st k x s).closing
theorem closing_deferOr {h : ReqHdr} {req : Request} {wait : Bool} {apply : State → State} {s : State}
    (ha : Closing P s (apply s)) : Closing P s (deferOr h req wait apply s) :=
  closing_ite (fun _ => closing_ite (fun _ => closing_reply _ _ _ _ _ s) fun _ => closing_engine _ s) fun _ => ha
theorem closing_groupsSet (x : Groups) (s : State) : Closing P s (groupsSet x s) := by
  refine .of_chans ?_ fun c _ _ => ?_
  · rw [groupsSet_changes]; rfl
  rw [chan_groupsSet]; exact ⟨rfl, id⟩
theorem closing_exclAdded (a b : Nat) (sc : GroupSet) (s : State) : Closing P s (exclAdded a b sc s) := by
  refine .of_chans ?_ fun c _ _ => ?_
  · rw [exclAdded_changes]; rfl
  rw [chan_exclAdded]; exact ⟨rfl, id⟩
theorem closing_rulesChanged (new : Rules) (s : State) : Closing P s (rulesChanged new s) := by
  refine .of_chans ?_ fun c _ _ => ?_
  · rw [rulesChanged_changes]; rfl
  rw [chan_rulesChanged]; exact ⟨rfl, id⟩
theorem closing_storeAttrs (c : Chan) (a : Attrs) (s : State) : Closing P s (storeAttrs c a s) := by
  refine .of_chans ?_ fun d _ hr => ?_
  · rw [storeAttrs_changes]; rfl
  by_cases h : d = c
  · subst h
    rw [storeAttrs_same]
    refine ⟨seat_attributed s a _, fun hw => ?_⟩
    have hstate : ¬(((s.chan d).state = .active ∨ (s.chan d).state = .held ∨ (s.chan d).state = .moving)
        ∧ s.liveProfile a.profile = true) := fun hl => by
      rcases hr.state with h | h | h <;> rw [h] at hl <;> simp at hl
    rw [attributed_eq]
    dsimp only
    rw [if_neg hstate, hw]
    split <;> rfl
  · rw [storeAttrs_other _ _ _ h]; exact asleep_refl _
theorem closing_applyWrite (h : ReqHdr) (c : Chan) (a : Attrs) (f : Option Nat) (s : State) :
    Closing P s (applyWrite h c a f s) := by
  unfold applyWrite
  dsimp only
  refine (closing_storeAttrs c a s).trans ?_
  split
  · exact closing_reply _ _ _ _ _ _
  · exact closing_ite (fun _ => closing_reply _ _ _ _ _ _) fun _ => closing_engine _ _
theorem closing_writeChannel (h : ReqHdr) (st sl c p n v f : Nat) (s : State) :
    Closing P s (writeChannel h st sl c p n v f s) := by
  unfold writeChannel
  dsimp only
  split
  · exact closing_ite (fun _ => closing_reply _ _ _ _ _ s) fun _ => closing_ite (fun _ => closing_reply _ _ _ _ _ s) fun _ =>
      closing_ite (fun _ => closing_reply _ _ _ _ _ s) fun _ => closing_deferOr (closing_applyWrite h _ _ _ s)
  · exact closing_reply _ _ _ _ _ s
theorem closing_addExclusion (h : ReqHdr) (a b sc : Nat) (s : State) : Closing P s (addExclusion h a b sc s) :=
  closing_ite (fun _ => closing_reply _ _ _ _ _ s) fun _ => closing_ite (fun _ => closing_reply _ _ _ _ _ s) fun _ =>
    closing_ite (fun _ => closing_reply _ _ _ _ _ s) fun _ =>
      closing_deferOr ((closing_exclAdded a b _ s).trans (closing_reply _ _ _ _ _ _))
theorem closing_setGroups (h : ReqHdr) (gs rs : List Nat) (s : State) : Closing P s (setGroups h gs rs s) := by
  unfold setGroups
  dsimp only
  split
  · exact closing_ite (fun _ => closing_reply _ _ _ _ _ s) fun _ =>
      closing_deferOr ((closing_groupsSet _ s).trans (closing_reply _ _ _ _ _ _))
  · exact closing_reply _ _ _ _ _ s
theorem closing_setRules (h : ReqHdr) (xs : List Setting) (s : State) : Closing P s (setRules h xs s) := by
  unfold setRules
  split
  · exact closing_deferOr ((closing_rulesChanged _ s).trans (closing_reply _ _ _ _ _ _))
  · exact closing_reply _ _ _ _ _ s
theorem closing_applyOne (d : Deferred) (s : State) : Closing P s (applyOne d s) := by
  unfold applyOne permit
  split
  · exact closing_reply _ _ _ _ _ s
  · dsimp only
    split
    · exact closing_setGroups _ _ _ s
    · exact closing_addExclusion _ _ _ _ s
    · exact closing_setRules _ _ s
    · exact closing_writeChannel _ _ _ _ _ _ _ _ s
    · exact Closing.refl s
theorem closing_applyDeferred (s : State) : Closing P s (applyDeferred s) := by
  rw [applyDeferred_eq]
  exact closing_ite (fun _ => Closing.refl s) fun _ => (closing_engine _ s).trans
    (closing_foldl (fun s d => (closing_applyOne d s).trans (closing_closeChange s _)) _ _)
theorem closing_endUnserved (r : Served) (s : State) : Closing P s (endUnserved r s) := by
  unfold endUnserved
  split
  · exact closing_leaveHead _ s
  · exact (closing_leaveHead _ s).trans (closing_endRevert _ _)
  · exact closing_leaveHead _ s
  · exact ((closing_leaveHead _ s).trans (closing_returnSkip _ _ _)).trans (closing_closeChange s _)
  · exact closing_leaveHead _ s
theorem closing_arbitrate (n : Nat) (s : State) : Closing P s (arbitrate n s) := by
  induction n generalizing s with
  | zero => exact Closing.refl s
  | succ n ih =>
    unfold arbitrate
    refine closing_ite (fun _ => Closing.refl s) fun _ => ?_
    split
    · exact Closing.refl s
    · split
      · exact Closing.refl s
      · split
        · exact closing_engine _ s
        · exact (closing_endUnserved _ s).trans (ih _)
theorem closing_finish (s0 s : State) : Closing P s (finish s0 s) :=
  ((closing_closeChange s0 s).trans (closing_applyDeferred _)).trans (closing_arbitrate _ _)

end Sys2Proof.Machine
end

section
/-! The loss of a stage (R73, R95, R158, R171, R181). -/

namespace Sys2Proof.Machine

/-! ## What a sending reads and writes -/

/-- The part of a state that sendings read and write, everything else at its power-on value. -/
def State.wire (s : State) : State :=
  { State.reset with
    trunk := s.trunk, stagePorts := s.stagePorts, trunkDiscards := s.trunkDiscards, counters := s.counters
    originSeq := s.originSeq, latches := s.latches, enables := s.enables }
theorem wire_handTo (p : Port) (f : Frame) (s : State) : (handTo p f s).wire = handTo p f s.wire := by
  have hport : s.wire.port p = s.port p := by cases p <;> rfl
  unfold handTo
  rw [hport]
  split
  · cases p <;> rfl
  · cases p <;> rfl
theorem wire_route (f : Frame) (s : State) : (route f s).wire = route f s.wire := by
  unfold route
  split
  · exact wire_handTo _ f s
  · rfl
theorem wire_notify (k : NoticeKind) (a b : Nat) (x : List Byte) (s : State) :
    (notify k a b x s).wire = notify k a b x s.wire := by
  unfold notify
  dsimp only
  rw [show s.wire.enables = s.enables from rfl]
  split
  · exact wire_route _ _
  · rfl
theorem wire_notifyChan (k : NoticeKind) (c : Chan) (x : List Byte) (s : State) :
    (notifyChan k c x s).wire = notifyChan k c x s.wire := wire_notify _ _ _ _ s
theorem wire_foldl {α : Type} {f g : State → α → State} (h : ∀ s a, (f s a).wire = g s.wire a) (xs : List α) (s : State) :
    (xs.foldl f s).wire = xs.foldl g s.wire := by
  induction xs generalizing s with
  | nil => rfl
  | cons x xs ih => rw [List.foldl_cons, List.foldl_cons, ih, h]
/-- Steps each of which keeps the elements that pass a test. -/
theorem foldl_filters {α β : Type} {f : State → α → State} {view : State → List β} {p : α → β → Bool}
    (h : ∀ s a, view (f s a) = (view s).filter (p a)) (xs : List α) (s : State) :
    view (xs.foldl f s) = (view s).filter fun b => xs.all fun a => p a b := by
  induction xs generalizing s with
  | nil => simp
  | cons x xs ih =>
    rw [List.foldl_cons, ih, h, List.filter_filter]
    exact List.filter_congr fun b _ => by rw [List.all_cons, Bool.and_comm]

/-! ## The entries of the stage (R158) -/

/-- The seat of a record with its watch. -/
def ChanRec.bed (r : ChanRec) : ChanRec := { r.seat with watch := r.watch }
theorem bed_release (r : ChanRec) : r.release.bed = r.bed.release := by
  by_cases hm : r.state = .moving
  · cases hr : r.ret <;> simp [ChanRec.release, ChanRec.bed, ChanRec.seat, hm, hr]
  · simp [ChanRec.release, ChanRec.bed, ChanRec.seat, hm]
theorem bed_goDark (r : ChanRec) : r.goDark.bed = r.bed.goDark := by
  cases hs : r.state <;> simp [ChanRec.goDark, ChanRec.bed, ChanRec.seat, hs]
/-- What the loss of a stage leaves of the tables while its entries end. -/
def State.unlost (s : State) := (s.caps, s.surveys, s.heldFrames, s.notes, s.commits, s.staging, s.engine.admQ)

theorem withdrawMove_changes (c : Chan) (s : State) : withdrawMove c s =
    { s with pools := (withdrawMove c s).pools, engine := (withdrawMove c s).engine } := by
  unfold withdrawMove
  dsimp only
  rw [foldl_moves_unmark_changes_pools, discardIf_changes_engine]
theorem admQ_withdrawMove (c : Chan) (s : State) : (withdrawMove c s).engine.admQ = s.engine.admQ := by
  have hdiscard : ∀ b : Bool, (discardIf b s).engine.admQ = s.engine.admQ := fun b => by cases b <;> rfl
  unfold withdrawMove
  dsimp only
  rw [foldl_moves_unmark_changes_pools]
  exact hdiscard _
theorem unlost_entryDown (e : Entry) (s : State) : (entryDown e s).unlost = s.unlost := by
  unfold entryDown
  split
  · have h := withdrawMove_changes e.chan s
    have ha := admQ_withdrawMove e.chan s
    generalize withdrawMove e.chan s = t at h ha ⊢
    simp only [State.unlost, State.dropEntry, ha]
    rw [h]
  · rfl
  · rw [notifyFailed, State.unlost, notifyChan, notify_changes]; rfl
  · rw [notifyFailed, State.unlost, notifyChan, notify_changes]; rfl
theorem unlost_expireDown (e : Entry) (s : State) : (expireDown e s).unlost = s.unlost := by
  unfold expireDown
  split
  · rw [notifyExpired, State.unlost, notifyChan, notify_changes]; rfl
  · rfl
theorem bed_entryDown (c : Chan) (e : Entry) (s : State) : ((entryDown e s).chan c).bed =
    if e.chan = c ∧ e.state = .proposed then ((s.chan c).bed).release else (s.chan c).bed := by
  have hsame : ∀ t : State, t.chans = s.chans → (t.chan c).bed = (s.chan c).bed := fun t h => by
    rw [State.chan, h, State.chan]
  unfold entryDown
  split
  next hs =>
    rw [hs, if_neg (fun h => EntryState.noConfusion h.2)]
    exact hsame _ (by rw [dropEntry_chans, withdrawMove_changes])
  next hs =>
    have hrel : ((release e.chan s).dropEntry e.chan).chan c = (release e.chan s).chan c := rfl
    rw [hrel, release, chan_reflag, chan_modChan]
    by_cases h : c = e.chan
    · subst h
      rw [if_pos (⟨rfl, hs⟩ : e.chan = e.chan ∧ e.state = .proposed), ← bed_release]
      simp only [if_true]
      rfl
    · rw [if_neg (fun x => h x.1.symm : ¬ (e.chan = c ∧ e.state = .proposed))]
      simp only [h, if_false]
  next hs =>
    rw [hs, if_neg (fun h => EntryState.noConfusion h.2)]
    exact hsame _ (by rw [notifyFailed, notifyChan_chans]; rfl)
  next hs =>
    rw [hs, if_neg (fun h => EntryState.noConfusion h.2)]
    exact hsame _ (by rw [notifyFailed, notifyChan_chans]; rfl)
/-- MOVE_FAILED with reason STAGE_DOWN, as it is laid out (R80). -/
def tellFailed (w : State) (e : Entry) : State :=
  notifyChan .moveFailed e.chan ([8#8, byteOf e.origin.code] ++ o16 e.src ++ o16 e.target
    ++ [byteOf e.attempts, 255#8] ++ eAddr e.orig) w
/-- PROPOSAL_EXPIRED with cause STAGE_DOWN, as it is laid out (R80). -/
def tellExpired (w : State) (e : Entry) : State :=
  notifyChan .proposalExpired e.chan ([3#8, byteOf e.origin.code] ++ o16 e.src ++ o16 e.target) w
theorem notifyFailed_down (e : Entry) (s : State) : notifyFailed e .stageDown none s = tellFailed s e := by
  unfold notifyFailed tellFailed
  simp only [List.append_assoc, e8, o8, List.cons_append, List.nil_append]
  rfl
theorem notifyExpired_down (e : Entry) (s : State) : notifyExpired e .stageDown s = tellExpired s e := by
  unfold notifyExpired tellExpired
  simp only [e8, List.cons_append, List.nil_append]
  rfl
theorem wire_entryDown (s : State) (e : Entry) : (entryDown e s).wire =
    if e.state = .sent || e.state = .locking then tellFailed s.wire e else s.wire := by
  unfold entryDown
  split
  next hs =>
    have h := withdrawMove_changes e.chan s
    generalize withdrawMove e.chan s = t at h ⊢
    rw [h, hs]; rfl
  next hs => rw [hs]; rfl
  next hs => rw [hs, notifyFailed_down, tellFailed, wire_notifyChan]; rfl
  next hs => rw [hs, notifyFailed_down, tellFailed, wire_notifyChan]; rfl
theorem wire_expireDown (s : State) (e : Entry) : (expireDown e s).wire =
    if e.state = .proposed then tellExpired s.wire e else s.wire := by
  unfold expireDown
  rw [notifyExpired_down]
  split
  · rw [tellExpired, wire_notifyChan]; rfl
  · rfl
theorem chan_expireDown (c : Chan) (e : Entry) (s : State) : (expireDown e s).chan c = s.chan c := by
  unfold expireDown
  split
  · exact (tells_notifyChan _ _ _ s).chan c
  · rfl
theorem table_expireDown (e : Entry) (s : State) : (expireDown e s).table = s.table := by
  unfold expireDown
  split
  · rw [notifyExpired, notifyChan_table]
  · rfl
theorem backlog_entryDown (e : Entry) (s : State) : (entryDown e s).backlog = s.backlog := by
  unfold entryDown
  split
  · rw [dropEntry_backlog, withdrawMove_changes]
  · rfl
  · rw [notifyFailed, notifyChan_backlog]; rfl
  · rw [notifyFailed, notifyChan_backlog]; rfl
theorem backlog_expireDown (e : Entry) (s : State) : (expireDown e s).backlog = s.backlog := by
  unfold expireDown
  split
  · rw [notifyExpired, notifyChan_backlog]
  · rfl

/-- The entries of a stage, in table order. -/
def State.entriesOf (s : State) (z : Stage) : List Entry := s.table.filter fun e => e.chan.stage = z
theorem entriesDown_eq (z : Stage) (s : State) : entriesDown z s =
    let t := (s.entriesOf z).foldl (fun s e => expireDown e s) ((s.entriesOf z).foldl (fun s e => entryDown e s) s)
    { t with backlog := t.backlog.filter fun i => i.chan.stage ≠ z } := rfl
theorem unlost_entriesDown (z : Stage) (s : State) : (entriesDown z s).unlost = s.unlost := by
  rw [entriesDown_eq]
  have h := (foldl_keeps State.unlost (fun s e => unlost_expireDown e s) (s.entriesOf z)
    ((s.entriesOf z).foldl (fun s e => entryDown e s) s)).trans
    (foldl_keeps State.unlost (fun s e => unlost_entryDown e s) (s.entriesOf z) s)
  exact h
theorem wire_entriesDown (z : Stage) (s : State) : (entriesDown z s).wire =
    ((s.entriesOf z).filter fun e => e.state = .proposed).foldl tellExpired
      (((s.entriesOf z).filter fun e => e.state = .sent || e.state = .locking).foldl tellFailed s.wire) := by
  rw [entriesDown_eq, List.foldl_filter, List.foldl_filter]
  have hexpired := wire_foldl (f := fun s e => expireDown e s)
    (g := fun w e => if e.state = .proposed then tellExpired w e else w) wire_expireDown (s.entriesOf z)
    ((s.entriesOf z).foldl (fun s e => entryDown e s) s)
  rw [wire_foldl (f := fun s e => entryDown e s)
    (g := fun w e => if e.state = .sent || e.state = .locking then tellFailed w e else w) wire_entryDown] at hexpired
  simp only [decide_eq_true_eq]
  exact hexpired
theorem bed_entriesDown (z : Stage) (s : State) {c : Chan} (hc : c.stage = z) : ((entriesDown z s).chan c).bed =
    if ∃ e ∈ s.table, e.chan = c ∧ e.state = .proposed then ((s.chan c).bed).release else (s.chan c).bed := by
  have hmem : (∃ e ∈ s.table, e.chan = c ∧ e.state = .proposed) ↔ ∃ e ∈ s.entriesOf z, e.chan = c ∧ e.state = .proposed := by
    simp only [State.entriesOf, List.mem_filter, decide_eq_true_eq]
    constructor
    · rintro ⟨e, he, hec, hp⟩; exact ⟨e, ⟨he, hec ▸ hc⟩, hec, hp⟩
    · rintro ⟨e, ⟨he, -⟩, hec, hp⟩; exact ⟨e, he, hec, hp⟩
  have hfirst := foldl_once (f := fun s e => entryDown e s) (view := fun s => (s.chan c).bed) release_release
    (p := fun e => e.chan = c ∧ e.state = .proposed) (s.entriesOf z) (fun s e _ => bed_entryDown c e s) s
  have hsecond := foldl_keeps (fun s : State => s.chan c) (fun s e => chan_expireDown c e s) (s.entriesOf z)
    ((s.entriesOf z).foldl (fun s e => entryDown e s) s)
  beta_reduce at hfirst hsecond
  rw [if_congr hmem rfl rfl, ← hfirst, ← hsecond]
  rfl
theorem table_entriesDown (z : Stage) (s : State) : (entriesDown z s).table = s.table.filter fun e => e.chan.stage ≠ z := by
  have hfirst := foldl_filters (f := fun s e => entryDown e s) (view := State.table)
    (p := fun e x => decide (x.chan ≠ e.chan)) (fun s e => table_entryDown e s) (s.entriesOf z) s
  have hsecond := foldl_keeps State.table (fun s e => table_expireDown e s) (s.entriesOf z)
    ((s.entriesOf z).foldl (fun s e => entryDown e s) s)
  refine hsecond.trans (hfirst.trans (List.filter_congr fun x hx => ?_))
  rw [Bool.eq_iff_iff]
  simp only [List.all_eq_true, decide_eq_true_eq, State.entriesOf, List.mem_filter]
  exact ⟨fun h e => h x ⟨hx, e⟩ rfl, fun h e he hc => h (hc ▸ he.2)⟩
theorem backlog_entriesDown (z : Stage) (s : State) :
    (entriesDown z s).backlog = s.backlog.filter fun i => i.chan.stage ≠ z := by
  have h := (foldl_keeps State.backlog (fun s e => backlog_expireDown e s) (s.entriesOf z)
    ((s.entriesOf z).foldl (fun s e => entryDown e s) s)).trans
    (foldl_keeps State.backlog (fun s e => backlog_entryDown e s) (s.entriesOf z) s)
  exact congrArg (List.filter fun i : Item => decide (i.chan.stage ≠ z)) h

/-! ## The Gate and the commit of the stage (R95, R164, R171) -/

/-- The refusal of a held frame, its count and its notice, as they are laid out (R80, R83). -/
def tellRefused (w : State) (k : HeldFrame) : State :=
  notifyChan .admissionRefused k.chan ([18#8, 0#8] ++ be16 k.target
      ++ [k.frame.src.zone, k.frame.src.unit, 255#8, 255#8, 255#8, 255#8])
    (bumpStage k.chan.stage .refusals (route ⟨k.frame.src, ⟨6#8, 1#8⟩, 0x21#8, k.frame.seq,
      [byteOf (k.chan.slot.val % 8)] ++ be16 k.target ++ [1#8, 18#8, 0#8]⟩ w))
theorem refuseTune_held (k : HeldFrame) (s : State) :
    refuseTune k.frame k.chan k.target .busy 0 none none s = tellRefused s k := by
  rw [refuseTune_eq]
  unfold tellRefused
  simp only [List.append_assoc, List.cons_append, List.nil_append]
  rfl
theorem wire_tellRefused (k : HeldFrame) (s : State) : (tellRefused s k).wire = tellRefused s.wire k := by
  unfold tellRefused
  rw [wire_notifyChan]
  refine congrArg _ ?_
  have h := wire_route ⟨k.frame.src, ⟨6#8, 1#8⟩, 0x21#8, k.frame.seq,
      [byteOf (k.chan.slot.val % 8)] ++ be16 k.target ++ [1#8, 18#8, 0#8]⟩ s
  rw [← h]
  rfl
theorem wire_discardHeld (s : State) (k : HeldFrame) : (discardHeld k s).wire = tellRefused s.wire k := by
  unfold discardHeld
  have hw := withdrawGuard_changes_engine k.chan (dropHeld k.chan s)
  generalize withdrawGuard k.chan (dropHeld k.chan s) = t at hw ⊢
  rw [refuseTune_held, wire_tellRefused, hw]
  rfl
theorem heldFrames_discardHeld (k : HeldFrame) (s : State) :
    (discardHeld k s).heldFrames = s.heldFrames.filter fun f => f.chan ≠ k.chan := by
  unfold discardHeld
  rw [refuseTune_changes]
  dsimp only
  rw [withdrawGuard_changes_engine]
  rfl
theorem admQ_discardHeld (k : HeldFrame) (s : State) :
    (discardHeld k s).engine.admQ = s.engine.admQ.filter fun q => !q.isGuardOf k.chan := by
  have hdiscard : ∀ (b : Bool) (t : State), (discardIf b t).engine.admQ = t.engine.admQ := fun b t => by cases b <;> rfl
  unfold discardHeld
  rw [refuseTune_changes]
  dsimp only
  exact congrArg _ (hdiscard _ _)
/-- The held frames of a stage, in the order of the buffer. -/
def State.heldAt (s : State) (z : Stage) : List HeldFrame := s.heldFrames.filter fun k => k.chan.stage = z
theorem gateDown_eq (z : Stage) (s : State) : gateDown z s =
    let t := (s.heldAt z).foldl (fun s h => discardHeld h s) s
    { t with notes := t.notes.filter fun n => n.chan.stage ≠ z } := rfl
theorem wire_gateDown (z : Stage) (s : State) : (gateDown z s).wire = (s.heldAt z).foldl tellRefused s.wire := by
  rw [gateDown_eq]
  exact wire_foldl (f := fun s h => discardHeld h s) (g := tellRefused) wire_discardHeld (s.heldAt z) s
theorem heldFrames_gateDown (z : Stage) (s : State) :
    (gateDown z s).heldFrames = s.heldFrames.filter fun k => k.chan.stage ≠ z := by
  refine (foldl_filters (f := fun s h => discardHeld h s) (view := State.heldFrames)
    (p := fun k f => decide (f.chan ≠ k.chan)) (fun s k => heldFrames_discardHeld k s) (s.heldAt z) s).trans ?_
  refine List.filter_congr fun x hx => ?_
  rw [Bool.eq_iff_iff]
  simp only [List.all_eq_true, decide_eq_true_eq, State.heldAt, List.mem_filter]
  exact ⟨fun h e => h x ⟨hx, e⟩ rfl, fun h k hk hc => h (hc ▸ hk.2)⟩
theorem admQ_gateDown (z : Stage) (s : State) : (gateDown z s).engine.admQ =
    s.engine.admQ.filter fun q => match q with
      | .guard c _ => !(c.stage = z && s.heldFrames.any fun k => k.chan = c)
      | _ => true := by
  refine (foldl_filters (f := fun s h => discardHeld h s) (view := fun s => s.engine.admQ)
    (p := fun k q => !q.isGuardOf k.chan) (fun s k => admQ_discardHeld k s) (s.heldAt z) s).trans ?_
  refine List.filter_congr fun q _ => ?_
  rw [Bool.eq_iff_iff]
  cases q with
  | guard c t =>
    simp only [AdmReq.isGuardOf, State.heldAt, List.all_eq_true, List.mem_filter, Bool.not_eq_true', decide_eq_false_iff_not,
      Bool.and_eq_false_iff, decide_eq_true_eq, List.any_eq_false]
    constructor
    · intro h
      by_cases hz : c.stage = z
      · exact .inr fun k hk hc => h k ⟨hk, hc ▸ hz⟩ hc.symm
      · exact .inl hz
    · rintro h k ⟨hk, hz⟩ hc
      exact h.elim (fun hne => hne (hc ▸ hz)) fun hno => hno k hk hc.symm
  | oper o => simp [AdmReq.isGuardOf]
  | whatIf g x f => simp [AdmReq.isGuardOf]
  | post c f k => simp [AdmReq.isGuardOf]
theorem notes_gateDown (z : Stage) (s : State) : ∀ n ∈ (gateDown z s).notes, n.chan.stage ≠ z := fun n hn => by
  simpa using (List.mem_filter.mp hn).2

/-- What the end of a stage's commit leaves alone. -/
def State.uncommitted (s : State) := (s.chans, s.table, s.backlog, s.caps, s.surveys, s.heldFrames, s.notes, s.engine.admQ)
/-- COMMIT_DONE with cause STAGE_DOWN, as it is laid out (R80). -/
def tellAborted (z : Stage) (x : CommitRec) (w : State) : State :=
  notify .commitDone z.val 255 ([byteOf x.trigger.code, 1#8] ++ encCounts x ++ encFailed x.failedList) w
theorem commitDown_some {z : Stage} {s : State} {r : CommitRec} (hr : s.commitRec z = some r) :
    commitDown z s = tellAborted z (s.abortedRec z r) (aborted z r s) := by
  have hc : s.commits[z] = .committing r := commitRec_eq_some.mp hr
  rw [commitDown, abortCommit_of_committing hc]
  rfl
theorem commitDown_none {z : Stage} {s : State} (hr : s.commitRec z = none) : commitDown z s = cancelWait z s := by
  rw [commitDown, abortCommit, hr]
theorem uncommitted_commitDown (z : Stage) (s : State) : (commitDown z s).uncommitted = s.uncommitted := by
  cases hr : s.commitRec z with
  | none =>
    rw [commitDown_none hr, cancelWait]
    split
    · rfl
    · rfl
  | some r =>
    rw [commitDown_some hr, tellAborted, State.uncommitted, notify_changes]
    have h := aborted_changes z r s
    generalize aborted z r s = t at h ⊢
    rw [h]
    rfl
theorem wire_commitDown (z : Stage) (s : State) : (commitDown z s).wire = match s.commitRec z with
    | some r => tellAborted z (s.abortedRec z r) s.wire
    | none => s.wire := by
  cases hr : s.commitRec z with
  | none =>
    rw [commitDown_none hr, cancelWait]
    split
    · rfl
    · rfl
  | some r =>
    rw [commitDown_some hr, tellAborted, wire_notify]
    have h := aborted_changes z r s
    generalize aborted z r s = t at h ⊢
    rw [h]
    rfl

/-! ## The survey and the records of the stage (R6, R73, R181) -/

/-- SURVEY_DONE with cause STAGE_DOWN, as it is laid out (R80). -/
def tellSurveyed (z : Stage) (v : Survey) (w : State) : State :=
  notify .surveyDone z.val 255 [2#8, byteOf v.passes, byteOf (min v.frames 255)] w
theorem surveyDown_eq (z : Stage) (s : State) : surveyDown z s = match s.surveys[z] with
    | some v => tellSurveyed z v { s with surveys := s.surveys.set z none }
    | none => s := rfl
theorem surveys_surveyDown (z : Stage) (s : State) : (surveyDown z s).surveys[z] = none := by
  rw [surveyDown_eq]
  split
  · rw [tellSurveyed, notify_surveys]; simp
  next h => exact h
/-- What the end of a survey leaves alone. -/
def State.unsurveyed (s : State) :=
  (s.chans, s.table, s.backlog, s.caps, s.heldFrames, s.notes, s.engine.admQ, s.commits)
theorem unsurveyed_surveyDown (z : Stage) (s : State) : (surveyDown z s).unsurveyed = s.unsurveyed := by
  rw [surveyDown_eq]
  split
  · rw [tellSurveyed, State.unsurveyed, notify_changes]; rfl
  · rfl
theorem wire_surveyDown (z : Stage) (s : State) : (surveyDown z s).wire = match s.surveys[z] with
    | some v => tellSurveyed z v s.wire
    | none => s.wire := by
  rw [surveyDown_eq]
  split
  · rw [tellSurveyed, wire_notify]; rfl
  · rfl
theorem cap_setCap (s : State) (c d : Chan) (x : Option Cap) : (s.setCap c x).cap d = if d = c then x else s.cap d := by
  unfold State.setCap State.cap
  split
  next e => subst e; exact Vector.getElem_set_self _
  next e =>
    have hne : c.idx.val ≠ d.idx.val := fun h => e (Chan.idx_inj (Fin.ext h)).symm
    exact Vector.getElem_set_ne c.idx.isLt d.idx.isLt hne
theorem cap_chansDark {z : Stage} {s : State} {c : Chan} (hc : c.stage = z) : (chansDark z s).cap c = none := by
  have h : ∀ (cs : List Chan) (s : State), (cs.foldl (fun s c => (s.modChan c ChanRec.goDark).setCap c none) s).cap c =
      if c ∈ cs then none else s.cap c := by
    intro cs
    induction cs with
    | nil => exact fun _ => rfl
    | cons d cs ih =>
      intro s
      rw [List.foldl_cons, ih, cap_setCap]
      by_cases hd : c = d
      · subst hd; simp
      · simp only [List.mem_cons, hd, false_or, if_false]; rfl
  rw [chansDark, h, if_pos (mem_stageChans.mpr hc)]

/-! ## The stage goes DOWN (R73) -/

/-- The record a lost stage leaves: the target of a proposal is released before the channel goes DARK. -/
def ChanRec.lost (proposed : Prop) [Decidable proposed] (r : ChanRec) : ChanRec :=
  (if proposed then r.release else r).goDark
/-- What the steps before it leave for the records to go DARK. -/
def stageCleared (z : Stage) (s : State) : State := surveyDown z (commitDown z (gateDown z (entriesDown z s)))
theorem stageLost_eq (z : Stage) (s : State) : stageLost z s = chansDark z (stageCleared z s) := rfl

section
variable (z : Stage) (s : State)

theorem bed_stageCleared {c : Chan} (hc : c.stage = z) : ((stageCleared z s).chan c).bed =
    if ∃ e ∈ s.table, e.chan = c ∧ e.state = .proposed then ((s.chan c).bed).release else (s.chan c).bed := by
  have hsurvey := unsurveyed_surveyDown z (commitDown z (gateDown z (entriesDown z s)))
  have hcommit := uncommitted_commitDown z (gateDown z (entriesDown z s))
  have hgate := gateDown_changes z (entriesDown z s)
  simp only [State.unsurveyed, State.uncommitted, Prod.mk.injEq] at hsurvey hcommit
  rw [← bed_entriesDown z s hc]
  rw [stageCleared, State.chan, hsurvey.1, hcommit.1, hgate, State.chan]
theorem table_stageCleared : (stageCleared z s).table = s.table.filter fun e => e.chan.stage ≠ z := by
  have hsurvey := unsurveyed_surveyDown z (commitDown z (gateDown z (entriesDown z s)))
  have hcommit := uncommitted_commitDown z (gateDown z (entriesDown z s))
  simp only [State.unsurveyed, State.uncommitted, Prod.mk.injEq] at hsurvey hcommit
  obtain ⟨-, hs, -⟩ := hsurvey
  obtain ⟨-, hc, -⟩ := hcommit
  rw [stageCleared, hs, hc, gateDown_changes]
  exact table_entriesDown z s
theorem backlog_stageCleared : (stageCleared z s).backlog = s.backlog.filter fun i => i.chan.stage ≠ z := by
  have hsurvey := unsurveyed_surveyDown z (commitDown z (gateDown z (entriesDown z s)))
  have hcommit := uncommitted_commitDown z (gateDown z (entriesDown z s))
  simp only [State.unsurveyed, State.uncommitted, Prod.mk.injEq] at hsurvey hcommit
  obtain ⟨-, -, hs, -⟩ := hsurvey
  obtain ⟨-, -, hc, -⟩ := hcommit
  rw [stageCleared, hs, hc, gateDown_changes]
  exact backlog_entriesDown z s
theorem heldFrames_stageCleared : (stageCleared z s).heldFrames = s.heldFrames.filter fun k => k.chan.stage ≠ z := by
  have hsurvey := unsurveyed_surveyDown z (commitDown z (gateDown z (entriesDown z s)))
  have hcommit := uncommitted_commitDown z (gateDown z (entriesDown z s))
  have hentries := unlost_entriesDown z s
  simp only [State.unsurveyed, State.uncommitted, State.unlost, Prod.mk.injEq] at hsurvey hcommit hentries
  obtain ⟨-, -, -, -, hs, -⟩ := hsurvey
  obtain ⟨-, -, -, -, -, hc, -⟩ := hcommit
  obtain ⟨-, -, he, -⟩ := hentries
  rw [stageCleared, hs, hc, heldFrames_gateDown, he]
theorem notes_stageCleared : ∀ n ∈ (stageCleared z s).notes, n.chan.stage ≠ z := by
  have hsurvey := unsurveyed_surveyDown z (commitDown z (gateDown z (entriesDown z s)))
  have hcommit := uncommitted_commitDown z (gateDown z (entriesDown z s))
  simp only [State.unsurveyed, State.uncommitted, Prod.mk.injEq] at hsurvey hcommit
  obtain ⟨-, -, -, -, -, hs, -⟩ := hsurvey
  obtain ⟨-, -, -, -, -, -, hc, -⟩ := hcommit
  rw [stageCleared, hs, hc]
  exact notes_gateDown z _
theorem admQ_stageCleared : (stageCleared z s).engine.admQ = s.engine.admQ.filter fun q => match q with
    | .guard c _ => !(c.stage = z && s.heldFrames.any fun k => k.chan = c)
    | _ => true := by
  have hsurvey := unsurveyed_surveyDown z (commitDown z (gateDown z (entriesDown z s)))
  have hcommit := uncommitted_commitDown z (gateDown z (entriesDown z s))
  have hentries := unlost_entriesDown z s
  simp only [State.unsurveyed, State.uncommitted, State.unlost, Prod.mk.injEq] at hsurvey hcommit hentries
  obtain ⟨-, -, -, -, -, -, hs, -⟩ := hsurvey
  obtain ⟨-, -, -, -, -, -, -, hc⟩ := hcommit
  obtain ⟨-, -, hheld, -, -, -, hadm⟩ := hentries
  rw [stageCleared, hs, hc, admQ_gateDown, hheld, hadm]
theorem commits_stageCleared : (stageCleared z s).commits[z] = .idle := by
  rw [stageCleared, commits_surveyDown]; exact commits_commitDown z _
theorem surveys_stageCleared : (stageCleared z s).surveys[z] = none := by
  rw [stageCleared]; exact surveys_surveyDown z _
/-- What a lost stage sends before its own notice, in order. -/
def lossTold (w : State) : State :=
  let failed := (((s.entriesOf z).filter fun e => e.state = .sent || e.state = .locking).foldl tellFailed w)
  let refused := (s.heldAt z).foldl tellRefused (((s.entriesOf z).filter fun e => e.state = .proposed).foldl tellExpired failed)
  let aborted := match s.commitRec z with
    | some r => tellAborted z (s.abortedRec z r) refused
    | none => refused
  match s.surveys[z] with
    | some v => tellSurveyed z v aborted
    | none => aborted
theorem wire_stageCleared : (stageCleared z s).wire = lossTold z s s.wire := by
  have hentries := unlost_entriesDown z s
  have hgate := gateDown_changes z (entriesDown z s)
  have hcommit := uncommitted_commitDown z (gateDown z (entriesDown z s))
  simp only [State.uncommitted, State.unlost, Prod.mk.injEq] at hcommit hentries
  obtain ⟨-, hsurveys, hheld, -, hcommits, hstaging, -⟩ := hentries
  obtain ⟨-, -, -, -, hcs, -⟩ := hcommit
  have hg1 : (gateDown z (entriesDown z s)).surveys = s.surveys := by rw [hgate]; exact hsurveys
  have hg2 : (gateDown z (entriesDown z s)).commits = s.commits := by rw [hgate]; exact hcommits
  have hg3 : (gateDown z (entriesDown z s)).staging = s.staging := by rw [hgate]; exact hstaging
  have hrec : (gateDown z (entriesDown z s)).commitRec z = s.commitRec z := by rw [State.commitRec, hg2, State.commitRec]
  have haborted : ∀ r, (gateDown z (entriesDown z s)).abortedRec z r = s.abortedRec z r := fun r => by
    unfold State.abortedRec State.unreached State.staged
    rw [hg3]
  rw [stageCleared, wire_surveyDown, hcs, hg1, wire_commitDown, hrec, wire_gateDown, wire_entriesDown, State.heldAt, hheld]
  simp only [haborted]
  rfl
end

end Sys2Proof.Machine
end

section
/-! A lost stage has its channels DARK and nothing under way (R73, R95, R158, R171, R181). -/

namespace Sys2Proof.Machine

variable {P : Chan → Prop}

theorem lossTold_congr {z : Stage} {s t : State} (htable : t.table = s.table) (hheld : t.heldFrames = s.heldFrames)
    (hcommits : t.commits = s.commits) (hstaging : t.staging = s.staging) (hsurveys : t.surveys = s.surveys) :
    lossTold z t = lossTold z s := by
  have haborted : ∀ r, t.abortedRec z r = s.abortedRec z r := fun r => by
    unfold State.abortedRec State.unreached State.staged
    rw [hstaging]
  funext w
  simp only [lossTold, State.entriesOf, State.heldAt, State.commitRec, htable, hheld, hcommits, hsurveys, haborted]
theorem wire_lossTold (z : Stage) (s w : State) : (lossTold z s w).wire = lossTold z s w.wire := by
  have hfailed := wire_foldl (f := tellFailed) (g := tellFailed) (fun w e => wire_notifyChan _ _ _ w)
    ((s.entriesOf z).filter fun e => e.state = .sent || e.state = .locking) w
  unfold lossTold
  dsimp only
  generalize ((s.entriesOf z).filter fun e => e.state = .sent || e.state = .locking).foldl tellFailed w = a at hfailed ⊢
  have hexpired := wire_foldl (f := tellExpired) (g := tellExpired) (fun w e => wire_notifyChan _ _ _ w)
    ((s.entriesOf z).filter fun e => e.state = .proposed) a
  have hrefused := wire_foldl (f := tellRefused) (g := tellRefused) (fun w k => wire_tellRefused k w) (s.heldAt z)
    (((s.entriesOf z).filter fun e => e.state = .proposed).foldl tellExpired a)
  rw [hexpired, hfailed] at hrefused
  rw [← hrefused]
  cases s.commitRec z <;> cases s.surveys[z] <;> simp only [tellAborted, tellSurveyed, wire_notify]
theorem wire_fields {s t : State} (h : s.wire = t.wire) : s.trunk = t.trunk ∧ s.stagePorts = t.stagePorts
    ∧ s.trunkDiscards = t.trunkDiscards ∧ s.counters = t.counters ∧ s.originSeq = t.originSeq ∧ s.latches = t.latches := by
  have h1 : s.wire.trunk = t.wire.trunk := by rw [h]
  have h2 : s.wire.stagePorts = t.wire.stagePorts := by rw [h]
  have h3 : s.wire.trunkDiscards = t.wire.trunkDiscards := by rw [h]
  have h4 : s.wire.counters = t.wire.counters := by rw [h]
  have h5 : s.wire.originSeq = t.wire.originSeq := by rw [h]
  have h6 : s.wire.latches = t.wire.latches := by rw [h]
  exact ⟨h1, h2, h3, h4, h5, h6⟩
theorem port_of_wire {s t : State} (h : s.wire = t.wire) (p : Port) : s.port p = t.port p := by
  obtain ⟨h1, h2, -⟩ := wire_fields h
  cases p with
  | trunk => exact h1
  | stage z => rw [State.port, h2, State.port]
theorem closing_tellRefused (w : State) (k : HeldFrame) : Closing P w (tellRefused w k) :=
  ((tells_route _ w).closing.trans (closing_bumpStage _ _ _)).trans (tells_notifyChan _ _ _ _).closing
theorem closing_lossTold (z : Stage) (s w : State) : Closing P w (lossTold z s w) := by
  have hfailed := (tells_foldl (f := tellFailed) (fun w e => tells_notifyChan _ _ _ w)
    ((s.entriesOf z).filter fun e => e.state = .sent || e.state = .locking) w).closing (P := P)
  unfold lossTold
  dsimp only
  generalize ((s.entriesOf z).filter fun e => e.state = .sent || e.state = .locking).foldl tellFailed w = a at hfailed ⊢
  have hexpired := (tells_foldl (f := tellExpired) (fun w e => tells_notifyChan _ _ _ w)
    ((s.entriesOf z).filter fun e => e.state = .proposed) a).closing (P := P)
  have hrefused := closing_foldl (P := P) (f := tellRefused) (fun w k => closing_tellRefused w k) (s.heldAt z)
    (((s.entriesOf z).filter fun e => e.state = .proposed).foldl tellExpired a)
  have hall := (hfailed.trans hexpired).trans hrefused
  cases s.commitRec z <;> cases s.surveys[z]
  · exact hall
  · exact hall.trans (tells_notify _ _ _ _ _).closing
  · exact hall.trans (tells_notify _ _ _ _ _).closing
  · exact (hall.trans (tells_notify _ _ _ _ _).closing).trans (tells_notify _ _ _ _ _).closing

/-! ## The records of a lost stage -/

theorem bed_state (r : ChanRec) : r.bed.state = r.state := rfl
theorem seat_bed (r : ChanRec) : r.bed.seat = r.seat := rfl
theorem watch_bed (r : ChanRec) : r.bed.watch = r.watch := rfl
theorem lost_state (p : Prop) [Decidable p] (r : ChanRec) :
    (r.lost p).state = .unused ∨ (r.lost p).state = .parked ∨ (r.lost p).state = .dark := by
  unfold ChanRec.lost
  generalize (if p then r.release else r) = x
  cases hx : x.state <;> simp [ChanRec.goDark, hx]
/-- When a lost stage leaves a channel DARK. -/
theorem lost_dark (p : Prop) [Decidable p] (r : ChanRec) : (r.lost p).state = .dark ↔
    r.state = .active ∨ r.state = .held ∨ r.state = .dark ∨ (r.state = .moving ∧ ¬ (r.ret = some .parked ∧ p)) := by
  unfold ChanRec.lost
  by_cases hp : p
  · rw [if_pos hp]
    cases hs : r.state with
    | moving =>
      cases hr : r.ret with
      | none => simp [ChanRec.release, ChanRec.goDark, hs, hr]
      | some y => cases y <;> simp [ChanRec.release, ChanRec.goDark, Resting.state, hs, hr, hp]
    | unused | parked | active | held | dark => simp [ChanRec.release, ChanRec.goDark, hs]
  · rw [if_neg hp]
    cases hs : r.state <;> simp [ChanRec.goDark, hs, hp]
theorem bed_stageLost (z : Stage) (s : State) {c : Chan} (hc : c.stage = z) : ((stageLost z s).chan c).bed =
    ((s.chan c).lost (∃ e ∈ s.table, e.chan = c ∧ e.state = .proposed)).bed := by
  rw [stageLost_eq, chan_chansDark, if_pos hc, bed_goDark, bed_stageCleared z s hc, ChanRec.lost, bed_goDark]
  refine congrArg _ ?_
  split
  · rw [bed_release]
  · rfl

/-- What the statement of O36 says of a record of the stage, before and after. -/
def LostRecord (proposed : Prop) (r x : ChanRec) : Prop :=
  ((r.state = .active ∨ r.state = .held) → x.state = .dark
    ∧ x.darkFrom = (if r.state = .active then some .active else some .held)
    ∧ x.heldCause = r.heldCause ∧ x.watch = ⟨.off, 0, 0, none⟩)
  ∧ (r.state = .moving → ¬ proposed → x.state = .dark ∧ x.darkFrom = some .moving ∧ x.pending = r.pending
    ∧ x.ret = none ∧ x.heldCause = none ∧ x.watch = ⟨.off, 0, 0, none⟩)
  ∧ (∀ y, r.state = .moving → proposed → r.ret = some y → x.pending = none ∧ x.ret = none
    ∧ x.heldCause = r.heldCause ∧ x.watch = ⟨.off, 0, 0, none⟩ ∧ match y with
      | .active => x.state = .dark ∧ x.darkFrom = some .active
      | .held => x.state = .dark ∧ x.darkFrom = some .held
      | .parked => x.state = .parked ∧ x.darkFrom = r.darkFrom)
  ∧ ((r.state = .unused ∨ r.state = .parked ∨ r.state = .dark) → x.state = r.state ∧ x.darkFrom = r.darkFrom
    ∧ (¬ proposed → x.pending = r.pending))
theorem lostRecord_lost (p : Prop) [Decidable p] (r : ChanRec) : LostRecord p r (r.lost p) := by
  unfold LostRecord ChanRec.lost
  by_cases hp : p
  · rw [if_pos hp]
    cases hs : r.state with
    | moving =>
      refine ⟨fun h => ?_, fun _ h => absurd hp h, fun y _ _ hr => ?_, fun h => ?_⟩
      · rcases h with h | h <;> cases h
      · cases y <;> simp [ChanRec.release, ChanRec.goDark, Resting.state, Watch.off, hs, hr]
      · rcases h with h | h | h <;> cases h
    | unused | parked | active | held | dark =>
      simp [ChanRec.release, ChanRec.goDark, Watch.off, hs, hp]
  · rw [if_neg hp]
    cases hs : r.state <;> simp [ChanRec.goDark, Watch.off, hs, hp]
/-- The statement speaks of the seat, and of a watch that is off. -/
theorem LostRecord.of_asleep {p : Prop} {r l x : ChanRec} (h : LostRecord p r l) (hx : l.Asleep x) : LostRecord p r x := by
  obtain ⟨hstate, hdark, hpending, hret, hcause⟩ := seat_fields hx.seat
  have hwatch : l.watch = ⟨.off, 0, 0, none⟩ → x.watch = ⟨.off, 0, 0, none⟩ := hx.watch
  unfold LostRecord at h ⊢
  rw [hstate, hdark, hcause, hpending, hret]
  obtain ⟨h1, h2, h3, h4⟩ := h
  refine ⟨fun hr => ?_, fun hr hp => ?_, fun y hr hp hy => ?_, h4⟩
  · obtain ⟨a, b, c, d⟩ := h1 hr
    exact ⟨a, b, c, hwatch d⟩
  · obtain ⟨a, b, c, d, e, f⟩ := h2 hr hp
    exact ⟨a, b, c, d, e, hwatch f⟩
  · obtain ⟨a, b, c, d, e⟩ := h3 y hr hp hy
    exact ⟨a, b, c, hwatch d, e⟩
theorem lost_assigned (p : Prop) [Decidable p] (r : ChanRec) : (r.lost p).assigned = r.assigned := by
  have hdark : ∀ x : ChanRec, x.goDark.assigned = x.assigned := fun x => by
    cases hx : x.state <;> simp [ChanRec.goDark, hx]
  unfold ChanRec.lost
  rw [hdark]
  split
  · unfold ChanRec.release
    split
    · split <;> rfl
    · rfl
  · rfl

/-! ## The whole change -/

/-- The channels a lost stage leaves DARK. -/
theorem darkCount_stageLost (z : Stage) (s : State) : (stageLost z s).darkCount z =
    ((stageChans z).filter fun c => let r := s.chan c
      r.state = .active || r.state = .held || r.state = .dark
        || (r.state = .moving && !(r.ret = some .parked && (s.entriesOf z).any fun e =>
          e.chan = c && e.state = .proposed))).length := by
  unfold State.darkCount
  rw [List.filter_congr (q := fun c => let r := s.chan c
      r.state = .active || r.state = .held || r.state = .dark
        || (r.state = .moving && !(r.ret = some .parked && (s.entriesOf z).any fun e =>
          e.chan = c && e.state = .proposed)))]
  intro c hc
  have hz : c.stage = z := mem_stageChans.mp hc
  have hp : ((s.entriesOf z).any fun e => e.chan = c && e.state = .proposed) = true ↔
      ∃ e ∈ s.table, e.chan = c ∧ e.state = .proposed := by
    simp only [List.any_eq_true, State.entriesOf, List.mem_filter, decide_eq_true_eq, Bool.and_eq_true]
    constructor
    · rintro ⟨e, ⟨he, -⟩, h⟩; exact ⟨e, he, h⟩
    · rintro ⟨e, he, h⟩; exact ⟨e, ⟨he, h.1 ▸ hz⟩, h⟩
  have hstate : ((stageLost z s).chan c).state =
      ((s.chan c).lost (∃ e ∈ s.table, e.chan = c ∧ e.state = .proposed)).state := by
    rw [← bed_state, bed_stageLost z s hz, bed_state]
  rw [Bool.eq_iff_iff, decide_eq_true_eq, hstate, lost_dark, ← hp]
  simp only [Bool.or_eq_true, Bool.and_eq_true, Bool.not_eq_true', decide_eq_true_eq, or_assoc, Bool.and_eq_false_iff,
    decide_eq_false_iff_not, not_and, Bool.not_eq_true]
  refine or_congr_right (or_congr_right (or_congr_right (and_congr_right fun _ => ?_)))
  exact Decidable.imp_iff_not_or

theorem wire_chansDark (z : Stage) (s : State) : (chansDark z s).wire = s.wire := by
  have h := chansDark_changes z s
  generalize chansDark z s = t at h ⊢
  rw [h]; rfl
/-- What O36 says, of the state `a` in which the port has been taken DOWN, of the base `b` of the change, and of the state
`u` at its close. -/
theorem stageLost_ends (z : Stage) (a b u : State) (line : Bool) (ha : a.port (.stage z) = ⟨false, none, line, []⟩)
    (why : DownCause)
    (hu : u = notify .stageDown z.val 255 (e8 why.code ++ e8 ((stageLost z a).darkCount z)) (stageLost z a)) :
    let t := finish b u
    ((t.port (.stage z)).up = false ∧ (t.port (.stage z)).silence = none ∧ (t.port (.stage z)).tx = [])
    ∧ (∀ c : Chan, c.stage = z → AtRest t c ∧ t.cap c = none ∧ t.heldOf c = none ∧ t.noteOf c = none
      ∧ (t.chan c).assigned = (a.chan c).assigned
      ∧ LostRecord (∃ e ∈ a.table, e.chan = c ∧ e.state = .proposed) (a.chan c) (t.chan c))
    ∧ t.surveys[z] = none
    ∧ u.wire = (notify .stageDown z.val 255 (e8 why.code ++ e8 ((stageLost z a).darkCount z)) (lossTold z a a)).wire
    ∧ u.heldFrames = (a.heldFrames.filter fun k => k.chan.stage ≠ z)
    ∧ u.engine.admQ = a.engine.admQ.filter fun q => match q with
        | .guard c _ => !(c.stage = z && a.heldFrames.any fun k => k.chan = c)
        | _ => true := by
  generalize e8 why.code ++ e8 ((stageLost z a).darkCount z) = x at hu ⊢
  have hlost := chansDark_changes z (stageCleared z a)
  rw [← stageLost_eq] at hlost
  have htells : Tells (stageLost z a) u := hu ▸ tells_notify .stageDown z.val 255 x (stageLost z a)
  have hwire : u.wire = (notify .stageDown z.val 255 x (lossTold z a a)).wire := by
    have hcleared : (stageLost z a).wire = (stageCleared z a).wire := wire_chansDark z _
    rw [hu, wire_notify, wire_notify, hcleared, wire_stageCleared, wire_lossTold]
  have hout : Closing (fun _ => True) a (notify .stageDown z.val 255 x (lossTold z a a)) :=
    (closing_lossTold z a a).trans (tells_notify _ _ _ _ _).closing
  have hport := port_of_wire hwire
  have hup : (u.port (.stage z)).up = false := by rw [hport, hout.up, ha]
  have hsilence : (u.port (.stage z)).silence = none := by rw [hport, hout.silence, ha]
  have htx : (u.port (.stage z)).tx = [] := by rw [hport, hout.mute _ (by rw [ha]), ha]
  have hclose : Closing (fun _ => True) u (finish b u) := closing_finish b u
  have htable : u.table = a.table.filter fun e => e.chan.stage ≠ z := by
    rw [htells.only, hlost]; exact table_stageCleared z a
  have hbacklog : u.backlog = a.backlog.filter fun i => i.chan.stage ≠ z := by
    rw [htells.only, hlost]; exact backlog_stageCleared z a
  have hheld : u.heldFrames = a.heldFrames.filter fun k => k.chan.stage ≠ z := by
    rw [htells.only, hlost]; exact heldFrames_stageCleared z a
  have hnotes : ∀ n ∈ u.notes, n.chan.stage ≠ z := by
    rw [htells.only, hlost]; exact notes_stageCleared z a
  have hidle : u.commits[z] = .idle := by rw [htells.commits, hlost]; exact commits_stageCleared z a
  have hsurvey : u.surveys[z] = none := by rw [htells.only, hlost]; exact surveys_stageCleared z a
  have hadm : u.engine.admQ = a.engine.admQ.filter fun q => match q with
      | .guard c _ => !(c.stage = z && a.heldFrames.any fun k => k.chan = c)
      | _ => true := by rw [htells.only, hlost]; exact admQ_stageCleared z a
  refine ⟨⟨(hclose.up _).trans hup, (hclose.silence _).trans hsilence, (hclose.mute _ hup).trans htx⟩, fun c hc => ?_,
    by rw [hclose.surveys]; exact hsurvey, hwire, hheld, hadm⟩
  have hchan : u.chan c = (stageLost z a).chan c := htells.chan c
  have hbed := bed_stageLost z a hc
  rw [← hchan] at hbed
  have hseat : (u.chan c).seat = ((a.chan c).lost (∃ e ∈ a.table, e.chan = c ∧ e.state = .proposed)).seat := by
    rw [← seat_bed, hbed, seat_bed]
  have hrest : AtRest u c := by
    refine ⟨?_, ?_, ?_, hc ▸ hidle⟩
    · rw [← bed_state, hbed, bed_state]; exact lost_state _ _
    · rw [State.entryOf, htable, List.find?_eq_none]
      intro e he hec
      simp only [ne_eq, decide_not, List.mem_filter, Bool.not_eq_true', decide_eq_false_iff_not] at he
      exact he.2 ((of_decide_eq_true hec).symm ▸ hc)
    · rw [State.itemOf, hbacklog, List.find?_eq_none]
      intro i hi hic
      simp only [ne_eq, decide_not, List.mem_filter, Bool.not_eq_true', decide_eq_false_iff_not] at hi
      exact hi.2 ((of_decide_eq_true hic).symm ▸ hc)
  obtain ⟨hrest', hasleep⟩ := hclose.rest c trivial hrest
  refine ⟨hrest', ?_, ?_, ?_, ?_, ?_⟩
  · have hcap : (stageLost z a).cap c = none := by rw [stageLost_eq]; exact cap_chansDark hc
    have hcaps : u.caps = (stageLost z a).caps := by rw [htells.only]
    rw [State.cap, hclose.caps, hcaps]; exact hcap
  · rw [State.heldOf, hclose.heldFrames, hheld, List.find?_eq_none]
    intro k hk hkc
    simp only [ne_eq, decide_not, List.mem_filter, Bool.not_eq_true', decide_eq_false_iff_not] at hk
    exact hk.2 ((of_decide_eq_true hkc).symm ▸ hc)
  · rw [State.noteOf, List.find?_eq_none]
    exact fun n hn hnc => hnotes n (hclose.notes n hn) ((of_decide_eq_true hnc).symm ▸ hc)
  · rw [← seat_assigned, hasleep.seat.trans hseat, seat_assigned]; exact lost_assigned _ _
  · refine (lostRecord_lost _ (a.chan c)).of_asleep ⟨hasleep.seat.trans hseat, fun hw => hasleep.watch ?_⟩
    rw [← watch_bed, hbed, watch_bed]; exact hw

/-- Settles O36: the port is taken DOWN in `a`; what the loss does follows there, and its close leaves the stage at
rest. -/
theorem lostStagesGoDark : Obligations.LostStagesGoDark := by
  intro z s i b line cause hup hcases
  set a : State := b.setPort (.stage z) ⟨false, none, line, []⟩ with ha
  have hb : ∃ dt, b = passTime dt s := by
    rcases hcases with ⟨dt, -, -, hb, -⟩ | ⟨d, -, -, hb, -⟩
    · exact ⟨dt, hb⟩
    · exact ⟨_, hb⟩
  have hexec : ∃ why : DownCause, e8 why.code = [cause] ∧ exec i s = .next (finish b
      (notify .stageDown z.val 255 (e8 why.code ++ e8 ((stageLost z a).darkCount z)) (stageLost z a))) := by
    rcases hcases with ⟨dt, rfl, hsig, rfl, rfl, rfl⟩ | ⟨d, rfl, hd, rfl, rfl, rfl⟩
    · refine ⟨.signalLoss, rfl, (lineSignalLoss_of_up hup hsig).trans ?_⟩
      have hcut : cutPort z (setSigdet (.stage z) false (passTime dt s)) = a := by
        rw [cutPort, setSigdet, setPort_setPort, port_setPort_same]
      rw [portDown, stageDown_eq, hcut]
    · refine ⟨.silence, rfl, (silenceTimerExpiry_of_up hup hd).trans ?_⟩
      have hcut : cutPort z (passTime (d - s.now) s) = a := by
        rw [cutPort, ha, ← passTime_sigdet (d - s.now) (.stage z) s]
      rw [portDown, stageDown_eq, hcut]
  obtain ⟨why, hwhy, hexec⟩ := hexec
  obtain ⟨dt, hb⟩ := hb
  have hport : a.port (.stage z) = ⟨false, none, line, []⟩ := port_setPort_same _ _ _
  obtain ⟨h1, h2, h3, h4, h5, h6⟩ := stageLost_ends z a b _ line hport why rfl
  generalize hu : notify .stageDown z.val 255 (e8 why.code ++ e8 ((stageLost z a).darkCount z)) (stageLost z a) = u
    at hexec h1 h2 h3 h4 h5 h6
  have htable : a.table = s.table := by rw [ha, setPort_table, hb, passTime_table]
  have hheld : a.heldFrames = s.heldFrames := by rw [ha, setPort_heldFrames, hb, passTime_heldFrames]
  have hengine : a.engine = s.engine := by rw [ha, setPort_engine, hb, passTime_engine]
  have hchan : ∀ c, a.chan c = s.chan c := fun c => by
    rw [State.chan, ha, setPort_chans, hb, passTime_chans, State.chan]
  have htold : lossTold z a = lossTold z s := lossTold_congr htable hheld
    (by rw [ha, setPort_commits, hb, passTime_commits]) (by rw [ha, setPort_staging, hb, passTime_staging])
    (by rw [ha, setPort_surveys, hb, passTime_surveys])
  obtain ⟨hp1, hp2, hp3⟩ := h1
  refine ⟨finish b u, hexec, hp1, hp2, hp3, fun c hc => ?_, ?_, h3, ?_⟩
  · obtain ⟨hrest, hcap, hho, hno, has, hrec⟩ := h2 c hc
    rw [htable, hchan] at hrec
    rw [hchan] at has
    exact ⟨hrest.state, hcap, hrest.entry, hrest.item, hho, hno, has, hrec⟩
  · exact (h2 ⟨z, 0⟩ rfl).1.idle
  · intro es failed expired refused aborted surveyed dark w
    clear h2 h3 hexec hcases
    have hrefused : ∀ x, refused x = (s.heldAt z).foldl tellRefused x := fun x =>
      List.foldl_ext _ _ _ fun y k hk => by
        have hz : k.chan.stage = z := by simpa using (List.mem_filter.mp hk).2
        rw [tellRefused, hz]
    have hw : w = notify .stageDown z.val 255 (e8 why.code ++ e8 ((stageLost z a).darkCount z)) (lossTold z s a) := by
      have hdark : (stageLost z a).darkCount z = dark.length := by
        rw [darkCount_stageLost]
        simp only [State.entriesOf, htable, hchan]
        rfl
      rw [hwhy, hdark]
      change notify .stageDown z.val 255 _ (surveyed (aborted (refused (expired (failed a))))) = _
      rw [hrefused]
      rfl
    rw [htold, ← hw] at h4
    obtain ⟨w1, w2, w3, w4, w5, w6⟩ := wire_fields h4
    refine ⟨u, rfl, w1, w2, w3, w4, w5, w6, ?_, ?_⟩
    · rw [h5, hheld]
    · rw [h6, hengine, hheld] <;> rfl

end Sys2Proof.Machine
end

section
/-! The close of a change, in its order, and that it does nothing where nothing waits (R17, R48, R53, R56, R126, R128, R140,
R141, R166, R170). -/

namespace Sys2Proof.Machine

/-! ## The order of the close -/

/-- Two runs of sendings that send the same from whatever the first sendings leave. -/
theorem foldl_congr_tells {α : Type} {f g : State → α → State} {s : State} (htells : ∀ x a, Tells x (f x a))
    (h : ∀ x a, Tells s x → f x a = g x a) (xs : List α) : xs.foldl f s = xs.foldl g s := by
  have key : ∀ (xs : List α) (x : State), Tells s x → xs.foldl f x = xs.foldl g x := by
    intro xs
    induction xs with
    | nil => exact fun _ _ => rfl
    | cons a as ih =>
      intro x hx
      rw [List.foldl_cons, List.foldl_cons, ← h x a hx]
      exact ih _ (hx.trans (htells x a))
  exact key xs s (Tells.refl s)
theorem Tells.conflictOf {s t : State} (h : Tells s t) (c : Chan) : t.conflictOf c = s.conflictOf c :=
  conflictOf_congr (by rw [h.chan]) (by rw [h.only]) (by rw [h.only]) (by rw [h.only])
theorem Tells.readyCount {s t : State} (h : Tells s t) (g : Group) : t.readyCount g = s.readyCount g := by
  rw [State.readyCount, h.pool, State.readyCount]
/-- When an item's channel stands where its want requires, as the rule lists it (R140). -/
theorem itemStands_eq (s : State) (i : Item) : s.itemStands i = match i.want with
    | .push => (s.chan i.chan).state = .moving && (s.chan i.chan).pending.isSome && (s.entryOf i.chan).isNone
    | .search | .ret => (s.chan i.chan).state = .active && !(s.chan i.chan).pinned
        && (s.cap i.chan).any (·.fitted)
        && (i.want = .search || (s.chan i.chan).returnWatch.any fun w => w.run = w.dwell) := by
  have hfit : s.fitted i.chan = (s.cap i.chan).any (·.fitted) := by
    unfold State.fitted; cases s.cap i.chan <;> rfl
  have hdwell : (s.chan i.chan).dwellReached = (s.chan i.chan).returnWatch.any fun w => w.run = w.dwell := by
    unfold ChanRec.dwellReached; cases (s.chan i.chan).returnWatch <;> rfl
  unfold State.itemStands State.movable
  rw [hfit, hdwell]
  cases i.want with
  | search => simp
  | ret => simp
  | push => rfl
theorem exclusionNotices_eq (s0 : State) {q r : State} (hchan : ∀ c, q.chan c = r.chan c)
    (hconflict : ∀ c, q.conflictOf c = r.conflictOf c) : exclusionNotices s0 q =
      (allChans.filter fun c => !(s0.chan c).exclConflict && (r.chan c).exclConflict).foldl (fun x c =>
        match r.conflictOf c with
        | some (f, y) => notifyChan .exclusionConflict c (be16 f ++ be16 y.first ++ be16 y.last) x
        | none => x) q := by
  unfold exclusionNotices
  simp only [hchan]
  refine foldl_congr_tells (fun x c => tells_notifyConflict c x) (fun x c hx => ?_) _
  unfold notifyConflict
  rw [hx.conflictOf, hconflict] <;> rfl
theorem poolNotices_eq (s0 : State) {x q r : State} (hx : Tells q x) (hpool : ∀ g, q.pool g = r.pool g) :
    poolNotices s0 x =
      ((List.finRange 4).filter fun g => decide (2 ≤ s0.readyCount g ∧ r.readyCount g < 2)).foldl (fun x g =>
        notify .poolLow 255 255 [byteOf g.val, byteOf (r.readyCount g), byteOf (r.pool g).length] x) x := by
  have hready : ∀ g, x.readyCount g = r.readyCount g := fun g => by
    rw [hx.readyCount, State.readyCount, hpool, State.readyCount]
  have hp : ∀ g, x.pool g = r.pool g := fun g => (hx.pool g).trans (hpool g)
  unfold poolNotices
  simp only [hready, Bool.decide_and]
  refine foldl_congr_tells (fun y g => tells_notify _ _ _ _ y) (fun y g hy => ?_) _
  rw [hy.readyCount, hready, hy.pool, hp]
  rfl
theorem closeChange_order (s0 : State) {s r : State} (hr : r = restartService (settleBacklog s)) :
    ∃ (order : List Group) (k : Nat), order.Perm ((List.finRange 4).filter fun g =>
      (r.pool g).any (fun e => e.state = .unchecked) && !r.engine.poolQ.contains g)
    ∧ let q : State := { r with freeCount := k, engine := { r.engine with poolQ := r.engine.poolQ ++ order } }
      let flagged := allChans.filter fun c => !(s0.chan c).exclConflict && (r.chan c).exclConflict
      let low := (List.finRange 4).filter fun g => decide (2 ≤ s0.readyCount g ∧ r.readyCount g < 2)
      closeChange s0 s = (List.finRange 6).foldl (fun x z => endCommit z x)
        (low.foldl (fun x g => notify .poolLow 255 255
            [byteOf g.val, byteOf (r.readyCount g), byteOf (r.pool g).length] x)
          (flagged.foldl (fun x c => match r.conflictOf c with
            | some (f, y) => notifyChan .exclusionConflict c (be16 f ++ be16 y.first ++ be16 y.last) x
            | none => x) q)) := by
  rw [closeChange_eq, closeTail]
  rw [← hr]
  obtain ⟨order, k, hperm, hq⟩ := queueRechecks_eq r
  refine ⟨order, k, hperm, ?_⟩
  intro q flagged low
  have hq : queueRechecks r = q := hq
  have hpool : ∀ g, q.pool g = r.pool g := fun _ => rfl
  have hchan : ∀ c, q.chan c = r.chan c := fun _ => rfl
  have hconflict : ∀ c, q.conflictOf c = r.conflictOf c := fun _ => rfl
  clear_value q
  rw [hq, poolNotices_eq s0 (tells_exclusionNotices s0 q) hpool, exclusionNotices_eq s0 hchan hconflict]
  rfl

/-! ## A calm state -/

theorem pruneBacklog_nil {s : State} (h : s.backlog = []) : pruneBacklog s = s := by
  have hnil : s.backlog.filter s.itemStands = s.backlog := by rw [h]; rfl
  rw [pruneBacklog, hnil]
theorem settleDrops_none {s : State} (h : ∀ z, s.commitRec z = none) : settleDrops s = s := by
  have key : ∀ zs : List Stage, zs.foldl (fun s z => match s.commitRec z with
      | some r => r.deferred.foldl (fun s n => settleDrop z n s) s
      | none => s) s = s := by
    intro zs
    induction zs with
    | nil => rfl
    | cons z zs ih =>
      rw [List.foldl_cons, h z]
      exact ih
  exact key _
theorem endCommits_none {s : State} (h : ∀ z, s.commitRec z = none) : endCommits s = s := by
  have key : ∀ zs : List Stage, zs.foldl (fun s z => endCommit z s) s = s := by
    intro zs
    induction zs with
    | nil => rfl
    | cons z zs ih =>
      have hz : endCommit z s = s := by rw [endCommit, h z]
      rw [List.foldl_cons, hz]
      exact ih
  exact key _
theorem Calm.settleBacklog {s : State} (h : Calm s) : settleBacklog s = s := by
  obtain ⟨hbacklog, hcommits, -, -⟩ := h
  unfold Machine.settleBacklog
  simp only [settleDrops_none hcommits, pruneBacklog_nil hbacklog, hbacklog, List.length_nil, arbiter]
theorem Calm.queueRechecks {s : State} (h : Calm s) : queueRechecks s = s := by
  obtain ⟨-, -, -, hpools⟩ := h
  have hnone : ((List.finRange 4).filter fun g => s.needsRecheck g && !s.engine.poolQ.contains g) = [] := by
    rw [List.filter_eq_nil_iff]
    exact fun g _ => by rw [hpools g]; exact Bool.false_ne_true
  unfold Machine.queueRechecks
  simp only [hnone]
  rfl
theorem Calm.closeChange {s0 s : State} (h : Calm s)
    (hflags : ∀ c, (s.chan c).exclConflict = true → (s0.chan c).exclConflict = true)
    (hready : ∀ g, 2 ≤ s0.readyCount g → 2 ≤ s.readyCount g) : closeChange s0 s = s := by
  have hcalm := h
  obtain ⟨-, hcommits, hengine, -⟩ := h
  have hrestart : restartService s = s := by
    have hs : s.serving = none := by rw [State.serving, hengine]
    rw [restartService, hs]
  have hexcl : exclusionNotices s0 s = s := by
    have hnone : (allChans.filter fun c => !(s0.chan c).exclConflict && (s.chan c).exclConflict) = [] := by
      rw [List.filter_eq_nil_iff]
      intro c _ hc
      rw [Bool.and_eq_true, Bool.not_eq_true'] at hc
      rw [hflags c hc.2] at hc
      exact Bool.noConfusion hc.1
    rw [exclusionNotices, hnone]; rfl
  have hpool : poolNotices s0 s = s := by
    have hnone : ((List.finRange 4).filter fun g => decide (2 ≤ s0.readyCount g) && decide (s.readyCount g < 2)) = [] := by
      rw [List.filter_eq_nil_iff]
      intro g _ hg
      rw [Bool.and_eq_true, decide_eq_true_eq, decide_eq_true_eq] at hg
      exact absurd (hready g hg.1) (Nat.not_le.mpr hg.2)
    rw [poolNotices, hnone]; rfl
  rw [closeChange_eq, hcalm.settleBacklog, closeTail, hrestart, hcalm.queueRechecks, hexcl, hpool, endCommits_none hcommits]
theorem Calm.finish {s0 s : State} (h : Calm s)
    (hflags : ∀ c, (s.chan c).exclConflict = true → (s0.chan c).exclConflict = true)
    (hready : ∀ g, 2 ≤ s0.readyCount g → 2 ≤ s.readyCount g) : finish s0 s = s := by
  have hclose := h.closeChange hflags hready
  obtain ⟨-, -, hengine, -⟩ := h
  have hdeferred : applyDeferred s = s := by
    have hund : undeferred s = s := by
      unfold undeferred
      rw [hengine, ← hengine]
    rw [applyDeferred_eq, hengine, hund]
    rfl
  have hnext : s.nextClass = none := by rw [State.nextClass, hengine]; rfl
  unfold Machine.finish
  rw [hclose, hdeferred]
  dsimp only
  rw [arbitrate, hnext, hengine]
  rfl

/-- Settles O60: the order of the close, what follows it, what all of it leaves alone, and the calm state. -/
theorem closesDoTheirWorkAndNoMore : Obligations.ClosesDoTheirWorkAndNoMore := by
  intro s0 s
  have hclose : Closing (fun _ => True) s (finish s0 s) := closing_finish s0 s
  have hkeeps : Keeps true s (finish s0 s) := keeps_finish s0 s
  refine ⟨?_, rfl, ⟨hclose.now, hclose.caps, hkeeps.settings rfl, hclose.surveys, hclose.heldFrames,
    fun p => ⟨hclose.up p, hclose.silence p, hclose.sigdet p⟩⟩, Calm.finish⟩
  intro drops stands prune b r
  have hprune : ∀ x, prune x = pruneBacklog x := fun x => by
    have hstands : stands x = x.itemStands := by funext i; rw [itemStands_eq] <;> rfl
    change { x with backlog := x.backlog.filter (stands x) } = _
    rw [hstands]; rfl
  have hdrops : ∀ x, drops x = settleDrops x := fun _ => rfl
  have hb : b = pruneBacklog (settleDrops s) := by rw [← hdrops, ← hprune]
  have hr : r = restartService (settleBacklog s) := by
    have hraw : r = restartService (prune (drops (arbiter b.backlog.length b))) := rfl
    rw [hraw, hprune, hdrops, hb]
    rfl
  clear_value r
  exact closeChange_order s0 hr

end Sys2Proof.Machine
end

section
/-! The operations of the plan (R7 to R13, R19, R88, R124, R140), and what an increment does to the pools and to the service
that runs (R21, R22, R53, R54, R126). -/

namespace Sys2Proof.Machine

/-! ## One record, with its flag computed again -/

/-- An operation leaves a record with its flag computed again, and changes no other record. -/
def Alone (c : Chan) (s t : State) (x : ChanRec) : Prop :=
  t.chan c = { x with exclConflict := (t.conflictOf c).isSome } ∧ ∀ d, d ≠ c → t.chan d = s.chan d
theorem Alone.congr {c : Chan} {s t : State} {x y : ChanRec} (h : Alone c s t x) (e : x = y) : Alone c s t y := e ▸ h
theorem alone_reflag {c : Chan} {s u : State} {x : ChanRec} (hc : u.chan c = x) (ho : ∀ d, d ≠ c → u.chan d = s.chan d) :
    Alone c s (reflag c u) x := by
  refine ⟨?_, fun d hd => ?_⟩
  · rw [chan_reflag, if_pos rfl, conflictOf_reflag, hc]
  · rw [chan_reflag, if_neg hd, ho d hd]
theorem alone_modChan (c : Chan) (f : ChanRec → ChanRec) (s : State) :
    (s.modChan c f).chan c = f (s.chan c) ∧ ∀ d, d ≠ c → (s.modChan c f).chan d = s.chan d :=
  ⟨by rw [chan_modChan, if_pos rfl], fun d hd => by rw [chan_modChan, if_neg hd]⟩
/-- A reservation or an adoption: the record is changed, the group incremented, and the frequency leaves its pool. -/
def taken (c : Chan) (f : Nat) (s : State) : State := reflag c (unpool (s.groupOf c) f (bumpGen (s.groupOf c) s))
theorem taken_fields (c : Chan) (f : Nat) (s : State) :
    ((taken c f s).gens = s.gens.set (s.groupOf c) ((s.gens[s.groupOf c] + 1) % 65536)
      ∧ ∀ e ∈ (taken c f s).pool (s.groupOf c), e.freq ≠ f)
    ∧ (taken c f s).backlog = s.backlog ∧ (taken c f s).notes = s.notes
    ∧ ∀ d, (unpool (s.groupOf c) f (bumpGen (s.groupOf c) s)).chan d = s.chan d := by
  have hb := bumpGen_changes (s.groupOf c) s
  have hc := chan_bumpGen (s.groupOf c) s
  unfold taken
  generalize bumpGen (s.groupOf c) s = u at hb hc ⊢
  have hchan : ∀ d, (unpool (s.groupOf c) f u).chan d = s.chan d := fun d => hc d
  refine ⟨⟨?_, fun e he => ?_⟩, ?_, ?_, hchan⟩
  · rw [hb]; rfl
  · have hmem : e ∈ (unpool (s.groupOf c) f u).pool (s.groupOf c) := he
    rw [unpool, pool_setPool_same] at hmem
    simpa using (List.mem_filter.mp hmem).2
  · rw [hb]; rfl
  · rw [hb]; rfl
theorem reserve_eq_taken (c : Chan) (f : Nat) (s : State) :
    reserve c f s = taken c f (((s.modChan c (ChanRec.reserve f)).dropItem c).dropNote c) := rfl
theorem adopt_eq_taken (c : Chan) (f : Nat) (k : AdoptKind) (s : State) :
    adopt c f k s = taken c f ((s.modChan c fun r => r.adopt f (s.freshWatch r.profile) k).dropItem c) := rfl
theorem alone_taken {c : Chan} {f : Nat} {s u : State} {x : ChanRec} (hc : u.chan c = x)
    (ho : ∀ d, d ≠ c → u.chan d = s.chan d) : Alone c s (taken c f u) x := by
  obtain ⟨-, -, -, hchan⟩ := taken_fields c f u
  exact alone_reflag ((hchan c).trans hc) fun d hd => (hchan d).trans (ho d hd)
theorem alone_reserve (c : Chan) (f : Nat) (s : State) : Alone c s (reserve c f s) ((s.chan c).reserve f) := by
  obtain ⟨h1, h2⟩ := alone_modChan c (ChanRec.reserve f) s
  rw [reserve_eq_taken]
  exact alone_taken h1 h2
theorem alone_complete (c : Chan) (f : Nat) (b : Bool) (s : State) :
    Alone c s (complete c f b s) ((s.chan c).complete f b) := by
  obtain ⟨h1, h2⟩ := alone_modChan c (ChanRec.complete f b) s
  rw [complete]
  exact alone_reflag h1 h2
theorem alone_release (c : Chan) (s : State) : Alone c s (release c s) (s.chan c).release := by
  obtain ⟨h1, h2⟩ := alone_modChan c ChanRec.release s
  rw [release]
  exact alone_reflag h1 h2
theorem alone_adopt (c : Chan) (f : Nat) (k : AdoptKind) (s : State) :
    Alone c s (adopt c f k s) ((s.chan c).adopt f (s.freshWatch (s.chan c).profile) k) := by
  obtain ⟨h1, h2⟩ := alone_modChan c (fun r => r.adopt f (s.freshWatch r.profile) k) s
  rw [adopt_eq_taken]
  exact alone_taken h1 h2
theorem itemOf_dropItem_same (c : Chan) (s : State) : (s.dropItem c).itemOf c = none := itemOf_dropItem s c
theorem noteOf_dropNote_same (c : Chan) (s : State) : (s.dropNote c).noteOf c = none := by
  simp [State.noteOf, State.dropNote]
theorem forward_eq (r : ChanRec) (v : Option Nat) : r.forward v = { r with
    prior := if v.isSome = true then v else r.prior
    history := match v, r.prior with
      | some _, some p => (p :: r.history).take 3
      | _, _ => r.history } := by
  cases v with
  | none => rfl
  | some f => cases hp : r.prior <;> simp [ChanRec.forward, hp]
/-- Settles O46: each operation is one change of a record, then the flag computed again. -/
theorem planOperationsChangeTheirRecord : Obligations.PlanOperationsChangeTheirRecord := by
  intro c f s r g alone grown forward
  have halone : ∀ t x, Alone c s t x → alone t x := fun _ _ h => h
  obtain ⟨hgrown, hbacklog, hnotes, -⟩ := taken_fields c f (((s.modChan c (ChanRec.reserve f)).dropItem c).dropNote c)
  refine ⟨⟨halone _ _ ((alone_reserve c f s).congr ?_), ?_, ?_, ?_⟩, ⟨halone _ _ ((alone_complete c f false s).congr ?_), rfl⟩,
    ⟨halone _ _ ((alone_complete c f true s).congr ?_), rfl⟩, fun x hm hx => halone _ _ ((alone_release c s).congr ?_),
    fun hm => halone _ _ ((alone_release c s).congr ?_), rfl, ⟨halone _ _ ((alone_adopt c f .track s).congr ?_),
    halone _ _ ((alone_adopt c f .offPlan s).congr ?_), halone _ _ ((alone_adopt c f .dark s).congr ?_)⟩, fun k => ?_⟩
  · rfl
  · rw [reserve_eq_taken]; exact hgrown
  · rw [reserve_eq_taken, State.itemOf, hbacklog]; exact itemOf_dropItem_same c _
  · rw [reserve_eq_taken, State.noteOf, hnotes]; exact noteOf_dropNote_same c _
  · simp only [ChanRec.complete, forward_eq]; rfl
  · rfl
  · rw [ChanRec.release, if_pos hm, hx]; rfl
  · rw [ChanRec.release, if_neg hm]
  · simp only [ChanRec.adopt, forward_eq, freshWatch_eq]; rfl
  · simp only [ChanRec.adopt, freshWatch_eq]; rfl
  · simp only [ChanRec.adopt, freshWatch_eq]; rfl
  · obtain ⟨hadopted, -⟩ := taken_fields c f ((s.modChan c fun r => r.adopt f (s.freshWatch r.profile) k).dropItem c)
    rw [adopt_eq_taken]; exact hadopted

/-! ## The service that runs (R53, R54) -/

theorem subjectHigh_eq (s : State) (x : Subject) : s.subjectHigh x = (s.inputs x).high := by
  cases x <;> rfl
theorem stale_iff (s : State) (r : Served) (v : Service) : s.stale r v = true ↔
    (∃ x ∈ v.watched, s.gens[x.1] ≠ x.2) ∨ (s.inputs r.subject).high ≠ v.inputs.high := by
  simp only [State.stale, subjectHigh_eq, Bool.or_eq_true, List.any_eq_true, decide_eq_true_eq]
/-- The state with its service begun again on the inputs that now stand (R53, R54). -/
theorem restarted_eq (s : State) (r : Served) (v : Service) (f : Option Nat) : s.setService (some (v.restart s r f)) =
    { s with engine := { s.engine with service := some { v with
      cand := f, inputs := s.inputs r.subject, watched := (s.watchedOf (s.inputs r.subject).group).map fun k => (k, s.gens[k])
      restarts := v.restarts + 1
      hold := if 2 ≤ v.restarts then v.hold ||| groupSet (s.watchedOf (s.inputs r.subject).group) else v.hold } } } := by
  have hhold : (3 ≤ v.restarts + 1) = (2 ≤ v.restarts) := propext (by omega)
  unfold State.setService Service.restart State.record
  simp only [hhold]
theorem restartService_fresh {s : State} {r : Served} {v : Service} (h : s.serving = some (r, v)) (hs : ¬ s.stale r v = true) :
    restartService s = s := by
  rw [restartService, h]
  exact if_pos (by rw [Bool.eq_false_iff.mpr hs]; rfl)
theorem restartService_given {s : State} {r : Served} {v : Service} (h : s.serving = some (r, v)) (hs : s.stale r v = true)
    (hp : r.readsPrior = false) : restartService s = s.setService (some (v.restart s r v.cand)) := by
  simp only [restartService, h, hs, hp, Bool.not_true, Bool.false_eq_true, if_false]
theorem restartService_prior {s : State} {r : Served} {v : Service} {f : Option Nat} (h : s.serving = some (r, v))
    (hs : s.stale r v = true) (hp : r.readsPrior = true) (hf : s.candOf r = some f) :
    restartService s = s.setService (some (v.restart s r f)) := by
  simp only [restartService, h, hs, hp, hf, Bool.not_true, Bool.false_eq_true, if_false, if_true]
/-- A return whose prior frequency has gone keeps its candidate. -/
theorem restartService_return {s : State} {m : MoveReq} {v : Service} (h : s.serving = some (.move m, v))
    (hs : s.stale (.move m) v = true) (hp : (Served.move m).readsPrior = true) (hf : s.candOf (.move m) = none) :
    restartService s = s.setService (some (v.restart s (.move m) v.cand)) := by
  simp only [restartService, h, hs, hp, hf, Bool.not_true, Bool.false_eq_true, if_false, if_true]
/-- A REVERT whose prior frequency has gone is answered. -/
theorem restartService_revert {s : State} {o : Oper} {v : Service} (h : s.serving = some (.adm (.oper o), v))
    (hs : s.stale (.adm (.oper o)) v = true) (hp : (Served.adm (.oper o)).readsPrior = true)
    (hf : s.candOf (.adm (.oper o)) = none) :
    restartService s = endRevert o (leaveHead .admission (endService s)) := by
  simp only [restartService, h, hs, hp, hf, Bool.not_true, Bool.false_eq_true, if_false, if_true]
/-- A request that checks the prior frequency takes the one that stands. -/
theorem candOf_of_readsPrior {s : State} {r : Served} {c : Chan} (hc : r.subject = .chan c) (h : r.readsPrior = true) :
    s.candOf r = (s.chan c).prior.map some := by
  cases r with
  | move m =>
    obtain rfl : m.chan = c := by simpa [Served.subject] using hc
    have hw : m.work = .prior := by simpa [Served.readsPrior] using h
    rw [State.candOf, hw]; rfl
  | adm a =>
    cases a with
    | oper o =>
      obtain rfl : o.chan = c := by simpa [Served.subject] using hc
      have hw : o.work = .prior := by simpa [Served.readsPrior] using h
      rw [State.candOf, hw]; rfl
    | guard d t => simp [Served.readsPrior] at h
    | whatIf g x f => simp [Served.readsPrior] at h
    | post d f k => simp [Served.readsPrior] at h
  | com q => simp [Served.readsPrior] at h
  | pool g => simp [Served.readsPrior] at h

/-- Settles O47: the increment, then the service by whether it is stale and reads the prior frequency. -/
theorem incrementsDemoteAndRestart : Obligations.IncrementsDemoteAndRestart := by
  refine ⟨fun g s => ?_, fun s r v h => ?_⟩
  · have hb := bumpGen_changes g s
    have hp := pool_bumpGen g s
    simp only [demoted_eq] at hp
    dsimp only
    generalize bumpGen g s = t at hb hp ⊢
    refine ⟨by rw [hb], hp, by rw [hb]⟩
  · intro i gs stale again
    have hstale : stale ↔ s.stale r v = true := (stale_iff s r v).symm
    have hagain : ∀ f, s.setService (some (v.restart s r f)) = again f := fun f => restarted_eq s r v f
    refine ⟨fun hs => restartService_fresh h fun hx => hs (hstale.mpr hx), fun hs hp => ?_, fun hs c hc hp =>
      ⟨fun f hf => ?_, fun hf => ⟨fun m hm => ?_, fun o ho => ?_⟩⟩⟩
    · exact (restartService_given h (hstale.mp hs) hp).trans (hagain _)
    · refine (restartService_prior h (hstale.mp hs) hp ?_).trans (hagain _)
      rw [candOf_of_readsPrior hc hp, hf]; rfl
    · have hcand : s.candOf r = none := by rw [candOf_of_readsPrior hc hp, hf]; rfl
      have hs' := hstale.mp hs
      clear_value stale again
      subst hm
      exact (restartService_return h hs' hp hcand).trans (hagain _)
    · have hcand : s.candOf r = none := by rw [candOf_of_readsPrior hc hp, hf]; rfl
      have hs' := hstale.mp hs
      clear_value stale again
      subst ho
      obtain rfl : o.chan = c := by simpa [Served.subject] using hc
      exact restartService_revert h hs' hp hcand

end Sys2Proof.Machine
end

section
/-! The terms of a check (R31 to R35): their stages and their numbers; fewer members keep a check CLEAR; and the open
search (R39, R40). -/

namespace Sys2Proof.Machine

/-! ## The terms as the rules write them -/

theorem term_eq (i : Inputs) (base : Nat) (p x : Int) (a b : Member) (parts : List Member) : i.term base p x a b parts =
    { dist := (p - x).natAbs
      need := base + if (i.high || parts.any (·.high)) = true then i.spacing.xhi else 0
      inv1 := a.chan
      inv2 := if a.chan = b.chan then none else some b.chan } := by
  unfold Inputs.term Inputs.need second
  split <;> rfl
/-- The unordered pairs of different channels, from each member to those after it. -/
theorem pairsOf_filter (C : List Member) : (pairsOf C).filter (fun ab => ab.1.chan ≠ ab.2.chan) =
    C.tails.flatMap fun
      | [] => []
      | a :: rest => (rest.filter fun b => a.chan ≠ b.chan).map fun b => (a, b) := by
  induction C with
  | nil => rfl
  | cons a rest ih =>
    rw [pairsOf, List.filter_append, ih, List.tails, List.flatMap_cons, List.filter_map]
    rfl

/-! ## The numbers of terms -/

theorem length_flatMap_const {α β : Type} {f : α → List β} {n : Nat} {xs : List α} (h : ∀ x ∈ xs, (f x).length = n) :
    (xs.flatMap f).length = xs.length * n := by
  induction xs with
  | nil => simp
  | cons x xs ih =>
    obtain ⟨hx, hxs⟩ := List.forall_mem_cons.mp h
    rw [List.flatMap_cons, List.length_append, hx, ih hxs, List.length_cons, Nat.succ_mul, Nat.add_comm]
theorem length_pairsOf {α : Type} (xs : List α) : 2 * (pairsOf xs).length = xs.length * (xs.length - 1) := by
  induction xs with
  | nil => rfl
  | cons x xs ih =>
    rw [pairsOf, List.length_append, List.length_map, Nat.mul_add, ih, List.length_cons, Nat.add_sub_cancel]
    cases xs.length with
    | zero => rfl
    | succ n => simp only [Nat.add_sub_cancel]; ring
theorem mem_pairsOf {α : Type} {xs : List α} {p : α × α} (h : p ∈ pairsOf xs) : p.1 ∈ xs ∧ p.2 ∈ xs := by
  induction xs with
  | nil => cases h
  | cons x xs ih =>
    rw [pairsOf, List.mem_append, List.mem_map] at h
    rcases h with ⟨b, hb, rfl⟩ | h
    · exact ⟨List.mem_cons_self, List.mem_cons_of_mem x hb⟩
    · exact ⟨List.mem_cons_of_mem x (ih h).1, List.mem_cons_of_mem x (ih h).2⟩
theorem pairsOf_ne {xs : List Member} (h : (xs.map (·.chan)).Nodup) {p : Member × Member} (hp : p ∈ pairsOf xs) :
    p.1.chan ≠ p.2.chan := by
  induction xs with
  | nil => cases hp
  | cons x xs ih =>
    rw [List.map_cons, List.nodup_cons] at h
    rw [pairsOf, List.mem_append, List.mem_map] at hp
    rcases hp with ⟨b, hb, rfl⟩ | hp
    · exact fun e => h.1 (List.mem_map.mpr ⟨b, hb, e.symm⟩)
    · exact ih h.2 hp
/-- Of members of different channels, all but one are of another channel than a given one's. -/
theorem length_others {xs : List Member} (h : (xs.map (·.chan)).Nodup) {a : Member} (ha : a ∈ xs) :
    (xs.filter fun b => b.chan ≠ a.chan).length = xs.length - 1 := by
  have hone : (xs.filter fun b => decide (b.chan = a.chan)).length = 1 := by
    rw [length_filter_eq_count]
    exact List.count_eq_one_of_mem h (List.mem_map.mpr ⟨a, ha, rfl⟩)
  have hsum := List.length_eq_length_filter_add (l := xs) fun b => decide (b.chan = a.chan)
  have hnot : (xs.filter fun b => b.chan ≠ a.chan) = xs.filter fun b => !decide (b.chan = a.chan) :=
    List.filter_congr fun b _ => decide_not
  rw [hnot]
  omega
theorem length_thirds {xs : List Member} (h : (xs.map (·.chan)).Nodup) {a b : Member} (ha : a ∈ xs) (hb : b ∈ xs)
    (hab : a.chan ≠ b.chan) : (xs.filter fun d => d.chan ≠ a.chan && d.chan ≠ b.chan).length = xs.length - 2 := by
  have hfilter : (xs.filter fun d => d.chan ≠ a.chan && d.chan ≠ b.chan) =
      (xs.filter fun d => d.chan ≠ a.chan).filter fun d => d.chan ≠ b.chan := by
    rw [List.filter_filter]
    exact List.filter_congr fun d _ => Bool.and_comm _ _
  have hnodup : ((xs.filter fun d => d.chan ≠ a.chan).map (·.chan)).Nodup := h.sublist (List.filter_sublist.map _)
  rw [hfilter, length_others hnodup (List.mem_filter.mpr ⟨hb, by simpa using hab.symm⟩), length_others h ha]
  omega

section
variable {i : Inputs} (h : (i.members.map (·.chan)).Nodup) (base : Nat) (c : Nat)
include h

theorem length_pairTerms (k : Int) : (pairTerms i base k c).length =
    i.members.length * (i.members.length - 1) + 2 * i.members.length * i.members.length := by
  have hfirst := length_flatMap_const (xs := i.members) (n := i.members.length - 1)
    (f := fun a => (i.members.filter fun b => b.chan ≠ a.chan).map fun b =>
      i.term base (k * a.freq - (k - 1) * b.freq) c a b [a, b])
    fun a ha => by rw [List.length_map]; exact length_others h ha
  have hsecond := length_flatMap_const (xs := i.members) (n := i.members.length + i.members.length)
    (f := fun f => i.members.map (fun g => i.term base (k * c - (k - 1) * f.freq) g.freq f g [f, g])
      ++ i.members.map (fun g => i.term base (k * f.freq - (k - 1) * c) g.freq f g [f, g]))
    fun f _ => by rw [List.length_append, List.length_map, List.length_map]
  rw [pairTerms, List.length_append, hfirst, hsecond]
  ring
theorem length_tripleTerms : 2 * (tripleTerms i base c).length =
    i.members.length * (i.members.length - 1) * (i.members.length - 2)
      + 2 * (i.members.length * (i.members.length - 1) * i.members.length) := by
  have hall : ((pairsOf i.members).filter fun ab => ab.1.chan ≠ ab.2.chan) = pairsOf i.members :=
    List.filter_eq_self.mpr fun p hp => decide_eq_true (pairsOf_ne h hp)
  have hfirst := length_flatMap_const (xs := pairsOf i.members) (n := i.members.length - 2)
    (f := fun ab : Member × Member => (i.members.filter fun d => d.chan ≠ ab.1.chan && d.chan ≠ ab.2.chan).map fun d =>
      i.term base (ab.1.freq + ab.2.freq - d.freq) c ab.1 ab.2 [ab.1, ab.2, d])
    fun p hp => by
      rw [List.length_map]
      exact length_thirds h (mem_pairsOf hp).1 (mem_pairsOf hp).2 (pairsOf_ne h hp)
  have hsecond := length_flatMap_const (xs := i.members) (n := (i.members.length - 1) * i.members.length)
    (f := fun f => (i.members.filter fun h => h.chan ≠ f.chan).flatMap fun h =>
      i.members.map fun g => i.term base (c + f.freq - h.freq) g.freq f h [f, h, g])
    fun f hf => by
      rw [length_flatMap_const fun g _ => List.length_map _, length_others h hf]
  rw [tripleTerms, List.length_append, hall, hfirst, hsecond, Nat.mul_add, ← Nat.mul_assoc, length_pairsOf]
  ring
end

/-- Settles O49: the terms as the model forms them, their need written as a sum, and their numbers. -/
theorem stagesFormTheirTerms : Obligations.StagesFormTheirTerms := by
  intro i c C term others two pairs
  have hterm : ∀ base p x a b parts, i.term base p x a b parts = term base p x a b parts := fun _ _ _ _ _ _ =>
    term_eq i _ _ _ _ _ _
  have hothers : ∀ a, (C.filter fun b => b.chan ≠ a.chan) = others a := fun a =>
    List.filter_congr fun b _ => decide_eq_decide.mpr ne_comm
  refine ⟨?_, fun base => ?_, fun base => ?_, fun base => ?_, rfl, fun h base k => ⟨?_, length_pairTerms h base c k,
    length_tripleTerms h base c⟩⟩
  · simp only [carrierTerms, hterm]; rfl
  · have h1 : (2 : Int) - 1 = 1 := rfl
    simp only [pairTerms, hterm, h1, one_mul]
    change (C.flatMap fun a => (C.filter fun b => b.chan ≠ a.chan).map _) ++ _ = _
    simp only [hothers]
    rfl
  · have h1 : (3 : Int) - 1 = 2 := rfl
    simp only [pairTerms, hterm, h1]
    change (C.flatMap fun a => (C.filter fun b => b.chan ≠ a.chan).map _) ++ _ = _
    simp only [hothers]
    rfl
  · have hpairs : (pairsOf C).filter (fun ab => ab.1.chan ≠ ab.2.chan) = pairs := pairsOf_filter C
    have hthird : ∀ a b : Member, (C.filter fun d => d.chan ≠ a.chan && d.chan ≠ b.chan) =
        C.filter fun d => d.chan ≠ a.chan ∧ d.chan ≠ b.chan := fun a b =>
      List.filter_congr fun d _ => (Bool.decide_and _ _).symm
    rw [tripleTerms]
    change (((pairsOf C).filter fun ab => ab.1.chan ≠ ab.2.chan).flatMap fun ab =>
      (C.filter fun d => d.chan ≠ ab.1.chan && d.chan ≠ ab.2.chan).map _)
      ++ (C.flatMap fun f => (C.filter fun h => h.chan ≠ f.chan).flatMap _) = _
    simp only [hpairs, hothers, hthird, hterm]
    rfl
  · rw [carrierTerms, List.length_append, List.length_map, List.length_map]

end Sys2Proof.Machine
end

section
/-! Fewer members and looser rules keep a check CLEAR (R23 to R38), and the open search returns the best candidate (R39,
R40). -/

namespace Sys2Proof.Machine

/-! ## When a check is CLEAR -/

theorem clear_of_scanTerms {v : Verdict} {ts : List Term} {p p' : Progress} (h : scanTerms v ts p = .ok p') :
    ∀ t ∈ ts, t.need ≤ t.dist := by
  induction ts generalizing p with
  | nil => exact fun _ h => nomatch h
  | cons t ts ih =>
    by_cases ht : t.dist < t.need
    · rw [scanTerms_cons_of_conflict v t ts p ht] at h; cases h
    · rw [scanTerms_cons_of_clear v t ts p (Nat.le_of_not_lt ht)] at h
      exact List.forall_mem_cons.mpr ⟨Nat.le_of_not_lt ht, ih h⟩
theorem margin_of_scanTerms_error {v : Verdict} {ts : List Term} {p : Progress} {r : Result}
    (h : scanTerms v ts p = .error r) : r.margin = none := by
  induction ts generalizing p with
  | nil => cases h
  | cons t ts ih =>
    by_cases ht : t.dist < t.need
    · rw [scanTerms_cons_of_conflict v t ts p ht] at h; cases h; rfl
    · rw [scanTerms_cons_of_clear v t ts p (Nat.le_of_not_lt ht)] at h; exact ih h
theorem clear_of_scanStages {stages : List (Verdict × List Term)} {p : Progress} {m : Nat}
    (h : (scanStages stages p).margin = some m) : ∀ st ∈ stages, ∀ t ∈ st.2, t.need ≤ t.dist := by
  induction stages generalizing p with
  | nil => exact fun _ h => nomatch h
  | cons st stages ih =>
    obtain ⟨v, ts⟩ := st
    rw [scanStages] at h
    cases hs : scanTerms v ts p with
    | ok p' => rw [hs] at h; exact List.forall_mem_cons.mpr ⟨clear_of_scanTerms hs, ih h⟩
    | error r => rw [hs] at h; rw [margin_of_scanTerms_error hs] at h; cases h
/-- All terms of a check, in their order. -/
def allTerms (i : Inputs) (c : Nat) : List Term := (termStages i c).flatMap (·.2)
theorem mem_allTerms {i : Inputs} {c : Nat} {t : Term} : t ∈ allTerms i c ↔ t ∈ carrierTerms i c
    ∨ t ∈ pairTerms i i.spacing.s3 2 c ∨ (i.fifth = true ∧ t ∈ pairTerms i i.spacing.s5 3 c)
    ∨ (i.three = true ∧ t ∈ tripleTerms i i.spacing.s3t c) := by
  cases hf : i.fifth <;> cases ht : i.three <;> simp [allTerms, termStages, hf, ht]
/-- The tests before any term (R28 to R30). -/
def Passes (i : Inputs) (c : Nat) : Prop :=
  c ≤ 8191 ∧ (∃ lo hi k, i.range = some (lo, hi, k) ∧ lo ≤ c ∧ c ≤ hi ∧ c % k = 0)
    ∧ ∀ x ∈ i.excl, x.scope.has i.group = true → ¬ (x.first ≤ c + i.spacing.guard ∧ c ≤ x.last + i.spacing.guard)
theorem check_eq_of_passes {i : Inputs} {c : Nat} (h : Passes i c) : check i c = scanStages (termStages i c) ⟨0, 15⟩ := by
  obtain ⟨hgrid, ⟨lo, hi, k, hrange, hlo, hhi, hk⟩, hexcl⟩ := h
  exact check_of_passes hgrid hrange hlo hhi hk hexcl
theorem passes_of_margin {i : Inputs} {c m : Nat} (h : (check i c).margin = some m) : Passes i c := by
  unfold check at h
  by_cases hgrid : offGrid c = true
  · rw [if_pos hgrid] at h; cases h
  rw [if_neg hgrid] at h
  cases hr : i.range with
  | none => rw [hr] at h; cases h
  | some r =>
    obtain ⟨lo, hi, k⟩ := r
    rw [hr] at h
    by_cases hin : inRange (some (lo, hi, k)) c = true
    · by_cases hal : aligned (some (lo, hi, k)) c = true
      · by_cases hexcl : (firstConflict i.excl i.spacing.guard i.group c).isSome = true
        · simp [hin, hal, hexcl, Result.early] at h
        · refine ⟨by simpa using hgrid, ⟨lo, hi, k, hr, ?_⟩, fun x hx hg hcov =>
            hexcl ((firstConflict_isSome_iff ..).mpr ⟨x, hx, hg, hcov⟩)⟩
          simpa [inRange, aligned, and_assoc] using And.intro hin hal
      · simp [hin, hal, Result.early] at h
    · simp [hin, Result.early] at h
/-- A check is CLEAR when its candidate passes its tests and no term conflicts; its margin is then the least slack. -/
theorem check_of_clear {i : Inputs} {c : Nat} (h : Passes i c) (hclear : ∀ t ∈ allTerms i c, t.need ≤ t.dist) :
    (check i c).verdict = .clear ∧ (check i c).margin = some ((allTerms i c).foldl Progress.pass ⟨0, 15⟩).least := by
  rw [check_eq_of_passes h, scanStages_of_clear _ _ fun st hst t ht =>
    hclear t (List.mem_flatMap.mpr ⟨st, hst, ht⟩)]
  exact ⟨rfl, rfl⟩
theorem clear_of_margin {i : Inputs} {c m : Nat} (h : (check i c).margin = some m) :
    (∀ t ∈ allTerms i c, t.need ≤ t.dist) ∧ m = ((allTerms i c).foldl Progress.pass ⟨0, 15⟩).least := by
  have hpass := passes_of_margin h
  have hclear : ∀ t ∈ allTerms i c, t.need ≤ t.dist := fun t ht => by
    rw [check_eq_of_passes hpass] at h
    obtain ⟨st, hst, hmem⟩ := List.mem_flatMap.mp ht
    exact clear_of_scanStages h st hst t hmem
  obtain ⟨-, hm⟩ := check_of_clear hpass hclear
  rw [h] at hm
  exact ⟨hclear, Option.some.inj hm⟩
theorem margin_le {i : Inputs} {c m : Nat} (h : (check i c).margin = some m) : m ≤ 15 := by
  obtain ⟨-, hm⟩ := clear_of_margin h
  obtain ⟨hle, -⟩ := foldl_pass_least (allTerms i c) ⟨0, 15⟩
  rw [hm]; exact hle

/-! ## Fewer members and looser rules -/

/-- A term of the same distance that needs no more. -/
def Term.Looser (t' t : Term) : Prop := t'.dist = t.dist ∧ t'.need ≤ t.need
/-- What O50 lets change of the inputs of a check. -/
structure Inputs.Fewer (j i : Inputs) : Prop where
  high : j.high = i.high
  members : j.members.Sublist i.members
  near : j.near.Sublist i.near
  fifth : j.fifth = true → i.fifth = true
  three : j.three = true → i.three = true
  scc : j.spacing.scc ≤ i.spacing.scc
  snear : j.spacing.snear ≤ i.spacing.snear
  s3 : j.spacing.s3 ≤ i.spacing.s3
  s5 : j.spacing.s5 ≤ i.spacing.s5
  s3t : j.spacing.s3t ≤ i.spacing.s3t
  xhi : j.spacing.xhi ≤ i.spacing.xhi

section
variable {i j : Inputs} (h : j.Fewer i)
include h

theorem looser_term {base base' : Nat} (hb : base' ≤ base) (p x : Int) (a b : Member) (parts : List Member) :
    (j.term base' p x a b parts).Looser (i.term base p x a b parts) := by
  have hx := h.xhi
  refine ⟨rfl, ?_⟩
  change j.need base' parts ≤ i.need base parts
  unfold Inputs.need
  rw [h.high]
  split
  · omega
  · exact hb
theorem looser_carrierTerms {c : Nat} {t : Term} (ht : t ∈ carrierTerms j c) : ∃ u ∈ carrierTerms i c, t.Looser u := by
  simp only [carrierTerms, List.mem_append, List.mem_map] at ht ⊢
  rcases ht with ⟨f, hf, rfl⟩ | ⟨f, hf, rfl⟩
  · exact ⟨_, .inl ⟨f, h.members.subset hf, rfl⟩, looser_term h h.scc _ _ _ _ _⟩
  · exact ⟨_, .inr ⟨f, h.near.subset hf, rfl⟩, looser_term h h.snear _ _ _ _ _⟩
theorem looser_pairTerms {base base' : Nat} (hb : base' ≤ base) {k : Int} {c : Nat} {t : Term}
    (ht : t ∈ pairTerms j base' k c) : ∃ u ∈ pairTerms i base k c, t.Looser u := by
  have hm := fun x => h.members.subset (a := x)
  simp only [pairTerms, List.mem_append, List.mem_flatMap, List.mem_map, List.mem_filter] at ht ⊢
  rcases ht with ⟨a, ha, b, ⟨hb1, hb2⟩, rfl⟩ | ⟨f, hf, ⟨g, hg, rfl⟩ | ⟨g, hg, rfl⟩⟩
  · exact ⟨_, .inl ⟨a, hm a ha, b, ⟨hm b hb1, hb2⟩, rfl⟩, looser_term h hb _ _ _ _ _⟩
  · exact ⟨_, .inr ⟨f, hm f hf, .inl ⟨g, hm g hg, rfl⟩⟩, looser_term h hb _ _ _ _ _⟩
  · exact ⟨_, .inr ⟨f, hm f hf, .inr ⟨g, hm g hg, rfl⟩⟩, looser_term h hb _ _ _ _ _⟩
omit h in
theorem pairsOf_sublist {α : Type} {xs ys : List α} (hs : xs.Sublist ys) : (pairsOf xs).Sublist (pairsOf ys) := by
  induction hs with
  | slnil => exact List.Sublist.refl _
  | cons a _ ih => exact ih.trans (List.sublist_append_right _ _)
  | cons_cons a hs ih => exact (hs.map _).append ih
theorem looser_tripleTerms {base base' : Nat} (hb : base' ≤ base) {c : Nat} {t : Term}
    (ht : t ∈ tripleTerms j base' c) : ∃ u ∈ tripleTerms i base c, t.Looser u := by
  have hm := fun x => h.members.subset (a := x)
  simp only [tripleTerms, List.mem_append, List.mem_flatMap, List.mem_map, List.mem_filter] at ht ⊢
  rcases ht with ⟨p, ⟨hp1, hp2⟩, d, ⟨hd1, hd2⟩, rfl⟩ | ⟨f, hf, b, ⟨hb1, hb2⟩, g, hg, rfl⟩
  · exact ⟨_, .inl ⟨p, ⟨(pairsOf_sublist h.members).subset hp1, hp2⟩, d, ⟨hm d hd1, hd2⟩, rfl⟩, looser_term h hb _ _ _ _ _⟩
  · exact ⟨_, .inr ⟨f, hm f hf, b, ⟨hm b hb1, hb2⟩, g, hm g hg, rfl⟩, looser_term h hb _ _ _ _ _⟩
theorem looser_allTerms {c : Nat} {t : Term} (ht : t ∈ allTerms j c) : ∃ u ∈ allTerms i c, t.Looser u := by
  rcases mem_allTerms.mp ht with ht | ht | ⟨hf, ht⟩ | ⟨hf, ht⟩
  · obtain ⟨u, hu, hl⟩ := looser_carrierTerms h ht
    exact ⟨u, mem_allTerms.mpr (.inl hu), hl⟩
  · obtain ⟨u, hu, hl⟩ := looser_pairTerms h h.s3 ht
    exact ⟨u, mem_allTerms.mpr (.inr (.inl hu)), hl⟩
  · obtain ⟨u, hu, hl⟩ := looser_pairTerms h h.s5 ht
    exact ⟨u, mem_allTerms.mpr (.inr (.inr (.inl ⟨h.fifth hf, hu⟩))), hl⟩
  · obtain ⟨u, hu, hl⟩ := looser_tripleTerms h h.s3t ht
    exact ⟨u, mem_allTerms.mpr (.inr (.inr (.inr ⟨h.three hf, hu⟩))), hl⟩
end

/-- Settles O50: every term that is left is as far from its value as one that was there, and needs no more. -/
theorem fewerMembersKeepClear : Obligations.FewerMembersKeepClear := by
  intro i j c hgroup hhigh hrange hmembers hnear hexcl hfifth hthree hraised m hm
  simp only [Spacing.raised, Bool.or_eq_false_iff, decide_eq_false_iff_not, Nat.not_lt] at hraised
  obtain ⟨⟨⟨⟨⟨⟨hscc, hsnear⟩, hs3⟩, hs5⟩, hs3t⟩, hxhi⟩, hguard⟩ := hraised
  have h : j.Fewer i := ⟨hhigh, hmembers, hnear, hfifth, hthree, hscc, hsnear, hs3, hs5, hs3t, hxhi⟩
  obtain ⟨hgrid, hin, hfree⟩ := passes_of_margin hm
  obtain ⟨hclear, hleast⟩ := clear_of_margin hm
  have hpass : Passes j c := by
    refine ⟨hgrid, by rw [hrange]; exact hin, fun x hx hg hcov => ?_⟩
    exact hfree x (hexcl.subset hx) (hgroup ▸ hg) ⟨by omega, by omega⟩
  have hclear' : ∀ t ∈ allTerms j c, t.need ≤ t.dist := fun t ht => by
    obtain ⟨u, hu, hdist, hneed⟩ := looser_allTerms h ht
    rw [hdist]; exact hneed.trans (hclear u hu)
  obtain ⟨hverdict, hmargin⟩ := check_of_clear hpass hclear'
  refine ⟨hverdict, _, hmargin, ?_⟩
  obtain ⟨hlimit, hslack, -⟩ := foldl_pass_least (allTerms i c) ⟨0, 15⟩
  obtain ⟨-, -, hsome⟩ := foldl_pass_least (allTerms j c) ⟨0, 15⟩
  rw [← hleast] at hlimit hslack
  rcases hsome with heq | ⟨t, ht, heq⟩
  · rw [heq]; exact hlimit
  · obtain ⟨u, hu, hdist, hneed⟩ := looser_allTerms h ht
    have hle := hslack u hu
    rw [heq, hdist]
    omega

/-! ## The open search (R39, R40) -/

/-- What an open search may return: a multiple of the step in the range that the channel does not occupy. -/
def Inputs.candidate (i : Inputs) (lo hi k f : Nat) : Prop := lo ≤ f ∧ f ≤ hi ∧ f % k = 0 ∧ f ∉ i.own
/-- The best of the candidates in `p`: the lowest of the largest margin. -/
def BestOf (i : Inputs) (p : Nat → Prop) : Option Found → Prop
  | none => ∀ f, p f → (check i f).margin = none
  | some x => p x.freq ∧ x.result = check i x.freq ∧ ∃ m, x.result.margin = some m
      ∧ ∀ f n, p f → (check i f).margin = some n → n ≤ m ∧ (n = m → x.freq ≤ f)
theorem BestOf.congr {i : Inputs} {p q : Nat → Prop} {x : Option Found} (h : BestOf i p x) (hpq : ∀ f, q f ↔ p f) :
    BestOf i q x := by
  have e : q = p := funext fun f => propext (hpq f)
  rw [e]; exact h
/-- One more candidate, above those judged so far. -/
theorem BestOf.step {i : Inputs} {p : Nat → Prop} {x : Option Found} {c : Nat} (h : BestOf i p x) (habove : ∀ f, p f → f < c) :
    BestOf i (fun f => p f ∨ f = c) (betterOf x c (check i c)) := by
  unfold betterOf
  cases hm : (check i c).margin with
  | none =>
    dsimp only
    cases x with
    | none =>
      rintro f (hf | rfl)
      · exact h f hf
      · exact hm
    | some b =>
      obtain ⟨h1, h2, m, h3, h4⟩ := h
      refine ⟨.inl h1, h2, m, h3, ?_⟩
      rintro f n (hf | rfl) hn
      · exact h4 f n hf hn
      · rw [hm] at hn; cases hn
  | some m =>
    dsimp only
    cases x with
    | none =>
      refine ⟨.inr rfl, rfl, m, hm, ?_⟩
      rintro f n (hf | rfl) hn
      · rw [h f hf] at hn; cases hn
      · rw [hm] at hn; cases hn; exact ⟨le_rfl, fun _ => le_rfl⟩
    | some b =>
      obtain ⟨h1, h2, k, h3, h4⟩ := h
      dsimp only
      rw [h3, Option.getD_some]
      split
      next hlt =>
        refine ⟨.inr rfl, rfl, m, hm, ?_⟩
        rintro f n (hf | rfl) hn
        · obtain ⟨hle, -⟩ := h4 f n hf hn
          exact ⟨by omega, fun e => by omega⟩
        · rw [hm] at hn; cases hn; exact ⟨le_rfl, fun _ => le_rfl⟩
      next hge =>
        refine ⟨.inl h1, h2, k, h3, ?_⟩
        rintro f n (hf | rfl) hn
        · exact h4 f n hf hn
        · rw [hm] at hn; cases hn
          exact ⟨by omega, fun _ => (habove _ h1).le⟩
/-- A candidate of margin 15 above those judged so far, none of which has it, is the best of all. -/
theorem bestOf_of_full {i : Inputs} {p : Nat → Prop} {c : Nat} (hp : p c) (hm : (check i c).margin = some 15)
    (hbelow : ∀ f, p f → (check i f).margin = some 15 → c ≤ f) : BestOf i p (some ⟨c, check i c⟩) :=
  ⟨hp, rfl, 15, hm, fun f _ hf hn => ⟨margin_le hn, fun e => hbelow f hf (e ▸ hn)⟩⟩

section
variable {i : Inputs} {lo hi k : Nat} (hk : 1 ≤ k)
include hk

/-- The multiples of the step below the next one are those below this one, and this one. -/
theorem lt_step_iff {c f : Nat} (hc : c % k = 0) (hf : f % k = 0) : f < c + k ↔ f < c ∨ f = c := by
  refine ⟨fun h => ?_, fun h => by omega⟩
  by_contra hne
  obtain ⟨a, rfl⟩ := Nat.dvd_of_mod_eq_zero hc
  obtain ⟨b, rfl⟩ := Nat.dvd_of_mod_eq_zero hf
  have hlt : k * a < k * b := by omega
  have hab : a + 1 ≤ b := Nat.lt_of_mul_lt_mul_left hlt
  have hmul := Nat.mul_le_mul_left k hab
  rw [Nat.mul_add, Nat.mul_one] at hmul
  omega
theorem openFrom_best (n : Nat) {c : Nat} {best : Option Found} (hc : c % k = 0) (hlo : lo ≤ c) (hfuel : hi < c + n * k)
    (hbest : BestOf i (fun f => i.candidate lo hi k f ∧ f < c) best)
    (hfull : ∀ f, i.candidate lo hi k f → f < c → (check i f).margin ≠ some 15) :
    BestOf i (i.candidate lo hi k) (openFrom i hi k n c best) := by
  induction n generalizing c best with
  | zero =>
    refine hbest.congr fun f => ⟨fun hf => ⟨hf, ?_⟩, And.left⟩
    obtain ⟨-, hfhi, -⟩ := hf
    omega
  | succ n ih =>
    have hfuel' : hi < c + k + n * k := by rw [Nat.succ_mul] at hfuel; omega
    have hnext : (c + k) % k = 0 := by rw [Nat.add_mod_right]; exact hc
    unfold openFrom
    split
    next hover =>
      refine hbest.congr fun f => ⟨fun hf => ⟨hf, ?_⟩, And.left⟩
      obtain ⟨-, hfhi, -⟩ := hf
      omega
    next hin =>
      have hbelow : ∀ f, i.candidate lo hi k f ∧ f < c + k ↔ i.candidate lo hi k f ∧ (f < c ∨ f = c) := fun f =>
        and_congr_right fun hf => lt_step_iff hk hc hf.2.2.1
      split
      next hown =>
        have hskip : ∀ f, i.candidate lo hi k f ∧ f < c + k ↔ i.candidate lo hi k f ∧ f < c := fun f => by
          rw [hbelow]
          refine and_congr_right fun hf => ⟨fun h => h.resolve_right fun e => ?_, .inl⟩
          exact hf.2.2.2 (e ▸ List.contains_iff_mem.mp hown)
        exact ih hnext (by omega) hfuel' (hbest.congr hskip) fun f hf hlt => hfull f hf ((hskip f).mp ⟨hf, hlt⟩).2
      next hfree =>
        have hcand : i.candidate lo hi k c := ⟨hlo, Nat.le_of_not_lt hin, hc, fun hm => hfree (List.contains_iff_mem.mpr hm)⟩
        dsimp only
        split
        next hm =>
          exact bestOf_of_full hcand hm fun f hf h15 => Nat.le_of_not_lt fun hlt => hfull f hf hlt h15
        next hm =>
          refine ih hnext (by omega) hfuel' ((hbest.step fun f hf => hf.2).congr fun f => ?_) fun f hf hlt => ?_
          · rw [hbelow]
            constructor
            · rintro ⟨hf, h | rfl⟩
              · exact .inl ⟨hf, h⟩
              · exact .inr rfl
            · rintro (⟨hf, h⟩ | rfl)
              · exact ⟨hf, .inl h⟩
              · exact ⟨hcand, .inr rfl⟩
          · rcases ((hbelow f).mp ⟨hf, hlt⟩).2 with h | rfl
            · exact hfull f hf h
            · exact hm
theorem firstMultiple_spec : firstMultiple lo k % k = 0 ∧ lo ≤ firstMultiple lo k
    ∧ ∀ f, lo ≤ f → f % k = 0 → firstMultiple lo k ≤ f := by
  have hdiv := Nat.div_add_mod (lo + k - 1) k
  have hmod := Nat.mod_lt (lo + k - 1) hk
  have hcomm : k * ((lo + k - 1) / k) = firstMultiple lo k := Nat.mul_comm _ _
  refine ⟨Nat.mul_mod_left _ _, by omega, fun f hf h0 => ?_⟩
  obtain ⟨a, rfl⟩ := Nat.dvd_of_mod_eq_zero h0
  have hle : (lo + k - 1) / k ≤ a := by
    rw [Nat.div_le_iff_le_mul_add_pred hk]
    omega
  rw [← hcomm]
  exact Nat.mul_le_mul_left k hle
end

/-- Settles O51: the search keeps the best of the candidates it has passed, and ends past the range or at a margin of
15. -/
theorem openSearchReturnsTheBest : Obligations.OpenSearchReturnsTheBest := by
  intro i lo hi k hrange hk hhi
  obtain ⟨h1, h2, h3⟩ := firstMultiple_spec (lo := lo) hk
  have hnone : ∀ f, i.candidate lo hi k f → ¬ f < firstMultiple lo k := fun f hf hlt =>
    absurd (h3 f hf.1 hf.2.2.1) (Nat.not_le.mpr hlt)
  have hfuel : hi < firstMultiple lo k + (gridMax + 1) * k := by
    have hmul := Nat.mul_le_mul_left (gridMax + 1) hk
    have hgrid : gridMax = 8191 := rfl
    omega
  have hbest := openFrom_best (i := i) (lo := lo) (hi := hi) hk (gridMax + 1) (best := none) h1 h2 hfuel
    (fun f hf => absurd hf.2 (hnone f hf.1)) fun f hf hlt => absurd hlt (hnone f hf)
  have hopen : openSearch i = openFrom i hi k (gridMax + 1) (firstMultiple lo k) none := by rw [openSearch, hrange]
  rw [← hopen] at hbest
  dsimp only
  split
  next h => rw [h] at hbest; exact hbest
  next x h => rw [h] at hbest; exact hbest

end Sys2Proof.Machine
end

section
/-! The replacement search (R131 to R133). -/

namespace Sys2Proof.Machine

/-- An entry the search may take now, as R131 lists it. -/
def State.fits (s : State) (c : Chan) (q : Search) (e : PoolEntry) : Prop :=
  e.state = .ready ∧ e.inSearch = false ∧ e.freq ∉ q.tried ∧ e.freq ∉ q.spoiled
    ∧ ∃ lo hi k, capRange (s.cap c) = some (lo, hi, k) ∧ lo ≤ e.freq ∧ e.freq ≤ hi ∧ e.freq % k = 0
theorem eligible_iff (s : State) (c : Chan) (q : Search) (e : PoolEntry) : s.eligible c q e = true ↔ s.fits c q e := by
  unfold State.eligible State.fits
  cases capRange (s.cap c) with
  | none => simp [inRange]
  | some r =>
    obtain ⟨lo, hi, k⟩ := r
    simp only [inRange, aligned, Bool.and_eq_true, decide_eq_true_eq, Bool.not_eq_true', Option.some.injEq, Prod.mk.injEq,
      List.contains_eq_mem, decide_eq_false_iff_not]
    constructor
    · rintro ⟨⟨⟨⟨⟨h1, h2⟩, h3, h4⟩, h5⟩, h6⟩, h7⟩
      exact ⟨h1, h2, h6, h7, lo, hi, k, ⟨rfl, rfl, rfl⟩, h3, h4, h5⟩
    · rintro ⟨h1, h2, h6, h7, _, _, _, ⟨rfl, rfl, rfl⟩, h3, h4, h5⟩
      exact ⟨⟨⟨⟨⟨h1, h2⟩, h3, h4⟩, h5⟩, h6⟩, h7⟩
theorem searchNext_downshift {c : Chan} {q : Search} {s : State} (h : (s.opt (s.groupOf c)).downshift ≤ q.attempts) :
    searchNext c q s = (s.turnOpen c q, s) := if_pos h
theorem searchNext_exhausted {c : Chan} {q : Search} {s : State} (h : s.nextCandidate c q = none) :
    searchNext c q s = (s.turnOpen c q, s) := by
  unfold searchNext
  dsimp only
  rw [h]
  exact ite_self _
theorem searchNext_takes {c : Chan} {q : Search} {s : State} {e : PoolEntry}
    (hd : q.attempts < (s.opt (s.groupOf c)).downshift) (h : s.nextCandidate c q = some e) : searchNext c q s =
      (.more (.pool (s.groupOf c) e.freq) { q with tried := q.tried ++ [e.freq] }, markEntry (s.groupOf c) e.freq true s) := by
  unfold searchNext
  dsimp only
  rw [if_neg (Nat.not_le.mpr hd), h]
theorem stillOffered_iff (s : State) (g : Group) (f : Nat) :
    s.stillOffered g f = true ↔ ∃ e ∈ s.pool g, e.freq = f ∧ e.state ≠ .dirty := by
  simp [State.stillOffered]
theorem pool_markEntry (g : Group) (f : Nat) (on : Bool) (s : State) : (markEntry g f on s).pool g =
    (s.pool g).map fun e => if e.freq = f then { e with inSearch := on } else e := pool_setPool_same _ _ _
theorem stillOffered_unmarked (g : Group) (f : Nat) (s : State) :
    (markEntry g f false s).stillOffered g f = s.stillOffered g f := by
  unfold State.stillOffered
  rw [pool_markEntry, List.any_map]
  refine congrArg (List.any (s.pool g)) (funext fun e => ?_)
  by_cases h : e.freq = f <;> simp [h]
theorem setPool_setPool (s : State) (g : Group) (p r : List PoolEntry) :
    (s.setPool g p).setPool g r = s.setPool g r := by
  simp only [State.setPool, Vector.set_set]
/-- A candidate's entry whose mark is cleared and which is blocked. -/
theorem blockEntry_markEntry (g : Group) (f : Nat) (s : State) : blockEntry g f (markEntry g f false s) =
    s.setPool g ((s.pool g).map fun y => if y.freq = f then { y with inSearch := false, state := .blocked, run := 0 } else y) := by
  unfold blockEntry
  rw [pool_markEntry, markEntry, setPool_setPool, List.map_map]
  refine congrArg (s.setPool g) (List.map_congr_left fun e _ => ?_)
  by_cases h : e.freq = f <;> simp [h]
theorem blocks_iff (v : Verdict) : v.blocks = true ↔ v = .carrier ∨ v = .imd3 ∨ v = .imd5 ∨ v = .imd3t := by
  cases v <;> simp [Verdict.blocks]

/-- Settles O52: the choice by its tests in order, the end of a candidate's check by its verdict. -/
theorem searchesTakePoolThenOpen : Obligations.SearchesTakePoolThenOpen := by
  intro c q s g fits turn
  have hfits : ∀ e, s.eligible c q e = true ↔ fits e := fun e => eligible_iff s c q e
  have hturn : s.turnOpen c q = turn := rfl
  refine ⟨searchNext_downshift, fun h => searchNext_exhausted (if_pos h), fun h => searchNext_exhausted ?_,
    fun xs e ys hd hq hp hxs he => ?_, fun f r => ?_⟩
  · unfold State.nextCandidate
    split
    · rfl
    · exact List.find?_eq_none.mpr fun e he hel => h e he ((hfits e).mp hel)
  · have hnext : s.nextCandidate c q = some e := by
      unfold State.nextCandidate
      rw [if_neg (Nat.not_le.mpr hq), List.find?_eq_some_iff_append]
      exact ⟨(hfits e).mpr he, xs, ys, hp, fun x hx => by
        rw [Bool.not_eq_true', Bool.eq_false_iff]; exact fun hel => hxs x hx ((hfits x).mp hel)⟩
    exact searchNext_takes hd hnext
  · intro t blocked
    have hmark : markEntry g f false s = t := rfl
    have hg : t.groupOf c = g := rfl
    have hoffer := stillOffered_unmarked g f s
    have hblock := blockEntry_markEntry g f s
    rw [hmark] at hoffer hblock
    unfold candidateDone
    dsimp only
    rw [hmark, hg, hoffer, hblock]
    refine ⟨fun hv hoff => ?_, fun hv hno => ?_, fun hv => ?_⟩
    · rw [if_pos hv, if_pos ((stillOffered_iff s g f).mpr hoff)]
    · rw [if_pos hv, if_neg]
      intro h
      obtain ⟨e, he, hef, hes⟩ := (stillOffered_iff s g f).mp h
      exact hes (hno e he hef)
    · rw [if_neg hv, if_congr (blocks_iff r.verdict) rfl rfl]
      rfl

end Sys2Proof.Machine
end

section
/-! The Spectrum Watch: its counting, its fire and its response (R99, R102 to R111). -/

namespace Sys2Proof.Machine

/-! ## Counting (R103, R104, R106) -/

/-- The run a level has after an evaluation that does not complete it (R103). -/
def nextRun (ev : Evidence) (k : Cond) (run : Nat) : Nat :=
  match ev k with
  | some (true, _) => run + 1
  | some (false, _) => 0
  | none => run
/-- The value that completes a level, where an evaluation does (R103). -/
def doneRun (ev : Evidence) (k : Cond) (run : Nat) : Option Nat :=
  match ev k with
  | some (true, v) => if k.persistence ≤ run + 1 then some v else none
  | _ => none
theorem countLevel_eq (k : Cond) (ev : Evidence) (run : Nat) : countLevel k ev run = (nextRun ev k run, doneRun ev k run) := by
  unfold countLevel nextRun doneRun
  cases ev k with
  | none => rfl
  | some x => obtain ⟨b, v⟩ := x; cases b <;> rfl
/-- A level that completes has counted its evaluation. -/
theorem nextRun_of_done {ev : Evidence} {k : Cond} {run v : Nat} (h : doneRun ev k run = some v) :
    nextRun ev k run = run + 1 := by
  unfold doneRun at h
  unfold nextRun
  cases he : ev k with
  | none => rw [he] at h; cases h
  | some x =>
    obtain ⟨b, v⟩ := x
    cases b with
    | false => rw [he] at h; cases h
    | true => rfl
theorem suspectStep_eq (p : Profile) (ev : Evidence) (w : Watch) : suspectStep p ev w =
    match doneRun ev p.level2 w.run2 with
    | some v => (w, some ⟨true, true, v⟩)
    | none => ({ w with run2 := nextRun ev p.level2 w.run2 }, none) := by
  unfold suspectStep
  rw [countLevel_eq]
  cases doneRun ev p.level2 w.run2 <;> rfl

section
variable (now : Nat) (p : Profile) (ev : Evidence) {w : Watch}

theorem watchStep_single (ha : w.st = .armed) (hp : p.level2.kind = .none) : watchStep now p ev w =
    match doneRun ev p.level1 w.run1 with
    | some v => (w, some ⟨true, false, v⟩)
    | none => ({ w with run1 := nextRun ev p.level1 w.run1 }, none) := by
  unfold watchStep armedStep
  rw [ha, countLevel_eq]
  dsimp only
  rw [if_pos hp] <;> cases doneRun ev p.level1 w.run1 <;> rfl
theorem watchStep_sequence (ha : w.st = .armed) (hp : p.level2.kind ≠ .none) (hc : p.combine = .sequence) :
    watchStep now p ev w = match doneRun ev p.level1 w.run1 with
      | none => ({ w with run1 := nextRun ev p.level1 w.run1 }, none)
      | some _ => watchStep now p ev ⟨.suspect, w.run1 + 1, 0, some (now + p.window)⟩ := by
  unfold watchStep armedStep
  rw [ha, countLevel_eq]
  dsimp only
  rw [if_neg hp, hc]
  cases h : doneRun ev p.level1 w.run1 with
  | none => rfl
  | some v => rw [nextRun_of_done h]
theorem watchStep_suspect (hs : w.st = .suspect) : watchStep now p ev w =
    match doneRun ev p.level2 w.run2 with
    | some v => (w, some ⟨true, true, v⟩)
    | none => ({ w with run2 := nextRun ev p.level2 w.run2 }, none) := by
  have h : watchStep now p ev w = suspectStep p ev w := by simp only [watchStep, hs]
  exact h.trans (suspectStep_eq p ev w)
theorem watchStep_either (ha : w.st = .armed) (hp : p.level2.kind ≠ .none) (hc : p.combine = .either) :
    watchStep now p ev w = match doneRun ev p.level1 w.run1, doneRun ev p.level2 w.run2 with
      | none, none => ({ w with run1 := nextRun ev p.level1 w.run1, run2 := nextRun ev p.level2 w.run2 }, none)
      | some v, none => (w, some ⟨true, false, v⟩)
      | none, some v => (w, some ⟨false, true, v⟩)
      | some _, some v => (w, some ⟨true, true, v⟩) := by
  unfold watchStep armedStep
  rw [ha, countLevel_eq]
  dsimp only
  rw [if_neg hp, hc, countLevel_eq] <;> cases doneRun ev p.level1 w.run1 <;> cases doneRun ev p.level2 w.run2 <;> rfl
end

/-! ## Evidence (R99) -/

theorem highest_spec (ls : List Nat) : (∀ l ∈ ls, l ≤ highest ls) ∧ ∀ n, (∀ l ∈ ls, l ≤ n) → highest ls ≤ n := by
  have key : ∀ (ls : List Nat) (a : Nat), (a ≤ ls.foldl max a ∧ ∀ l ∈ ls, l ≤ ls.foldl max a)
      ∧ ∀ n, a ≤ n → (∀ l ∈ ls, l ≤ n) → ls.foldl max a ≤ n := by
    intro ls
    induction ls with
    | nil => exact fun a => ⟨⟨le_rfl, fun _ h => nomatch h⟩, fun _ ha _ => ha⟩
    | cons x xs ih =>
      intro a
      obtain ⟨⟨h1, h2⟩, h3⟩ := ih (max a x)
      refine ⟨⟨(le_max_left a x).trans h1, List.forall_mem_cons.mpr ⟨(le_max_right a x).trans h1, h2⟩⟩, fun n ha hx => ?_⟩
      obtain ⟨hx, hxs⟩ := List.forall_mem_cons.mp hx
      exact h3 n (max_le ha hx) hxs
  obtain ⟨⟨-, h⟩, h'⟩ := key ls 0
  exact ⟨h, fun n hn => h' n (Nat.zero_le n) hn⟩
theorem mem_covered {xs : List (Nat × Nat)} {a w l : Nat} :
    l ∈ covered xs a w ↔ ∃ f, (f, l) ∈ xs ∧ f ≤ a + w ∧ a ≤ f + w := by
  simp only [covered, List.mem_map, List.mem_filter, Bool.and_eq_true, decide_eq_true_eq]
  constructor
  · rintro ⟨⟨f, l⟩, ⟨hm, h⟩, rfl⟩; exact ⟨f, hm, h⟩
  · rintro ⟨f, hm, h⟩; exact ⟨(f, l), ⟨hm, h⟩, rfl⟩
/-- The level taken of a covered frequency is the highest of those that reach it. -/
theorem highest_eq {ls : List Nat} {l : Nat} (hl : l ∈ ls) (hmax : ∀ m ∈ ls, m ≤ l) : highest ls = l := by
  obtain ⟨h1, h2⟩ := highest_spec ls
  exact le_antisymm (h2 l hmax) (h1 l hl)
theorem any_le_iff_of_max {ls : List Nat} {l : Nat} (hl : l ∈ ls) (hmax : ∀ m ∈ ls, m ≤ l) (n : Nat) :
    ls.any (fun x => decide (n ≤ x)) = decide (n ≤ l) := by
  rw [Bool.eq_iff_iff]
  simp only [List.any_eq_true, decide_eq_true_eq]
  exact ⟨fun ⟨x, hx, hn⟩ => hn.trans (hmax x hx), fun hn => ⟨l, hl, hn⟩⟩
theorem sweepEvidence_none {xs : List (Nat × Nat)} {a : Nat} (last : Option LastReport) {k : Cond}
    (h : k.kind ≠ .sweepHit ∨ covered xs a k.reach = []) : sweepEvidence xs a last k = none := by
  unfold sweepEvidence
  rcases h with h | h
  · cases hk : k.kind with
    | sweepHit => exact absurd hk h
    | foreign | dropout | none => rfl
  · cases hk : k.kind with
    | sweepHit => simp only [h]
    | foreign | dropout | none => rfl
theorem sweepEvidence_some {xs : List (Nat × Nat)} {a l : Nat} (last : Option LastReport) {k : Cond}
    (hk : k.kind = .sweepHit) (hl : l ∈ covered xs a k.reach) (hmax : ∀ m ∈ covered xs a k.reach, m ≤ l) :
    sweepEvidence xs a last k = some (decide (k.threshold ≤ l ∧ ∃ r, last = some r ∧ r.pilot = false), l) := by
  have hany := any_le_iff_of_max hl hmax k.threshold
  have hhigh := highest_eq hl hmax
  have hlast : last.any (fun r => !r.pilot) = decide (∃ r, last = some r ∧ r.pilot = false) := by
    rw [Bool.eq_iff_iff, decide_eq_true_eq]
    cases last <;> simp
  unfold sweepEvidence
  rw [hk]
  dsimp only
  cases hc : covered xs a k.reach with
  | nil => rw [hc] at hl; cases hl
  | cons x xs =>
    rw [hc] at hany hhigh
    dsimp only
    rw [hany, hhigh, hlast, ← Bool.decide_and]

/-! ## Evaluation and response (R102, R108 to R111) -/

theorem evaluate_dead {c : Chan} (ev : Evidence) {s : State}
    (h : ¬ (((s.chan c).state = .active ∨ (s.chan c).state = .held) ∧ s.liveProfile (s.chan c).profile = true)) :
    evaluate c ev s = s := by
  unfold evaluate
  dsimp only
  rw [if_neg h]
theorem evaluate_live {c : Chan} (ev : Evidence) {s : State} {n : Fin 8}
    (hs : (s.chan c).state = .active ∨ (s.chan c).state = .held) (hn : (s.chan c).profile = some n)
    (hlive : (s.profiles[n]).level1.kind ≠ .none) : evaluate c ev s =
      match watchStep s.now s.profiles[n] ev (s.chan c).watch with
      | (w, none) => s.setChan c { s.chan c with watch := w }
      | (_, some f) => fire c n f s := by
  have hl : s.liveProfile (s.chan c).profile = true := by rw [hn]; exact (liveProfile_some_iff s n).mpr hlive
  unfold evaluate
  dsimp only
  rw [if_pos ⟨hs, hl⟩]
  split
  next m hm =>
    obtain rfl := Option.some.inj (hm.symm.trans hn)
    rfl
  next hm => exact absurd (hm.symm.trans hn) (by simp)
/-- The state in which a fire is answered: the watch has fired, and the stage counts it. -/
def fired (c : Chan) (s : State) : State :=
  bumpStage c.stage .fires (s.modChan c fun r => { r with watch := ⟨.fired, 0, 0, none⟩ })
theorem chan_fired (c : Chan) (s : State) : (fired c s).chan c = { s.chan c with watch := ⟨.fired, 0, 0, none⟩ } :=
  chan_setChan_same s c _
/-- The notice of a fire, as it is laid out (R108). -/
def tellFire (c : Chan) (n : Fin 8) (f : Fire) (s : State) (x : FireOutcome × State) : State :=
  notifyChan .interference c (byteOf n.val :: o16 (s.chan c).assigned
    ++ [byteOf (if f.level1 then (s.profiles[n]).level1.kind.code else 255),
      byteOf (if f.level2 then (s.profiles[n]).level2.kind.code else 255), byteOf f.value, byteOf x.1.code]) x.2
theorem fire_eq (c : Chan) (n : Fin 8) (f : Fire) (s : State) : fire c n f s =
    tellFire c n f s (respond c (s.profiles[n]).response (fired c s)) := by
  have hkind : ∀ (on : Bool) (k : Cond), firedKind on k = [byteOf (if on then k.kind.code else 255)] := fun on k => by
    cases on <;> rfl
  unfold fire tellFire
  dsimp only
  rw [hkind, hkind]
  simp only [e8, List.append_assoc, List.cons_append, List.nil_append]
  rfl
theorem respond_freeze (c : Chan) (s : State) : respond c .freeze (fired c s) = (.frozen,
    if (s.chan c).state = .active then notifyHeld c .freeze ((fired c s).setChan c
      { (fired c s).chan c with state := .held, heldCause := some .freeze }) else fired c s) := by
  have hstate : ((fired c s).chan c).state = (s.chan c).state := by rw [chan_fired]
  unfold respond freezeResponse
  dsimp only
  rw [hstate]
  split <;> rfl
theorem respond_move (c : Chan) (s : State) : respond c .move (fired c s) =
    if (s.chan c).pinned = true then (.reportedPinned, fired c s)
    else if s.fitted c = false then (.reportedNoCapability, fired c s)
    else if (s.chan c).state = .held then (.noActionHeld, fired c s)
    else if (s.chan c).settle.isSome = true then (.secondFault, doubleFault c (fired c s))
    else if (s.entryOf c).isSome = true then (.alreadyPending, fired c s)
    else match s.itemOf c with
      | none => (.queued, { fired c s with backlog := s.backlog ++ [⟨c, .search, s.now, false⟩] })
      | some i => if i.want ≠ .ret then (.alreadyPending, fired c s)
        else (.queued, { fired c s with
          backlog := s.backlog.map fun j => if j.chan = c then { j with want := .search } else j }) := by
  have hchan := chan_fired c s
  have hfit : (fired c s).fitted c = s.fitted c := rfl
  have hentry : (fired c s).entryOf c = s.entryOf c := rfl
  have hitem : (fired c s).itemOf c = s.itemOf c := rfl
  unfold respond moveResponse
  dsimp only
  rw [hchan, hfit, hentry, hitem]
  simp only [Bool.not_eq_true']
  refine ite_congr rfl (fun _ => rfl) fun _ => ite_congr rfl (fun _ => rfl) fun _ => ite_congr rfl (fun _ => rfl) fun _ =>
    ite_congr rfl (fun _ => rfl) fun _ => ite_congr rfl (fun _ => rfl) fun _ => ?_
  cases s.itemOf c with
  | none => rfl
  | some i =>
    by_cases hw : i.want = .ret
    · simp only [hw, if_true, ne_eq, not_true, if_false]; rfl
    · simp only [hw, if_false, ne_eq, not_false_iff, if_true]

/-- Settles O53: the steps of the watch, what is evidence, what is evaluated, and the responses to a fire. -/
theorem watchesCountFireAndRespond : Obligations.WatchesCountFireAndRespond := by
  refine ⟨fun now p ev w => ?steps, fun level dropouts pilot k => ?report, fun xs a last k => ?sweep, fun c ev s => ?evaluate,
    fun c n f s => ?fire⟩
  case steps =>
    intro done next
    refine ⟨fun h => ?_, watchStep_single now p ev, watchStep_sequence now p ev, watchStep_suspect now p ev,
      watchStep_either now p ev⟩
    unfold watchStep
    rcases h with h | h <;> rw [h]
  case report =>
    unfold reportEvidence
    cases k.kind <;> simp
  case sweep =>
    intro hit
    refine ⟨fun h => sweepEvidence_none last (h.imp_right fun hno => ?_), fun l hk hl hmax =>
      sweepEvidence_some last hk (mem_covered.mpr hl) fun m hm => hmax m (mem_covered.mp hm)⟩
    exact List.eq_nil_iff_forall_not_mem.mpr fun l hl => hno l (mem_covered.mp hl)
  case evaluate =>
    refine ⟨fun n hs hn hlive => evaluate_live ev hs hn hlive, fun h => evaluate_dead ev ?_, fun xs => rfl⟩
    rintro ⟨hs, hlive⟩
    rcases h with ⟨h1, h2⟩ | h | ⟨n, hn, hk⟩
    · exact hs.elim h1 h2
    · rw [h] at hlive; cases hlive
    · rw [hn] at hlive; exact (liveProfile_some_iff s n).mp hlive hk
  case fire =>
    intro b p kind told
    have hb : fired c s = b := rfl
    refine ⟨fun hr => ?_, fun hr => ?_, fun hr => ?_⟩
    · rw [fire_eq, hr]; rfl
    · rw [fire_eq, hr, respond_freeze, hb]; rfl
    · rw [fire_eq, hr, respond_move, hb]
      cases s.itemOf c with
      | none => simp only [apply_ite (tellFire c n f s)]; rfl
      | some i => simp only [apply_ite (tellFire c n f s)]; rfl

end Sys2Proof.Machine
end

section
/-! The ends of moves (R46 to R48, R86, R112, R115, R129, R133, R134, R143 to R146, R151 to R156, R170). -/

namespace Sys2Proof.Machine

/-! ## Sending (R146) -/

theorem sendTune_eq (c : Chan) (f : Nat) (s : State) : sendTune c f s =
    let p := s.stagePorts[c.stage]
    { s with
      originSeq := (s.originSeq + 1) % 256
      stagePorts := if p.up = true then s.stagePorts.set c.stage { p with tx := p.tx ++ [⟨⟨byteOf c.stage.val,
        byteOf (c.slot.val / 8)⟩, ⟨6#8, 1#8⟩, 0x20#8, byteOf s.originSeq, byteOf (c.slot.val % 8) :: be16 f ++ [1#8]⟩] }
        else s.stagePorts } := by
  unfold sendTune originate route
  rw [unitAddr, portOfZone_rack]
  dsimp only
  by_cases hup : (s.stagePorts[c.stage]).up = true
  · rw [if_pos hup]
    exact handTo_of_up (p := .stage c.stage) (s := { s with originSeq := (s.originSeq + 1) % 256 }) hup _
  · rw [if_neg hup]
    exact if_neg hup
theorem sendEntry_eq {c : Chan} {e : Entry} {f : Nat} {s : State} (he : s.entryOf c = some e) (ht : e.target = some f) :
    sendEntry c s =
      let t : State := { s with table := s.table.map fun x => if x.chan = c then e.sent s.now else x }
      if e.origin = .passed then t else sendTune c f t := by
  have hput : s.putEntry (e.sent s.now) = { s with table := s.table.map fun x => if x.chan = c then e.sent s.now else x } := by
    rw [State.putEntry, show (e.sent s.now).chan = e.chan from rfl, entryOf_chan he]
  simp only [sendEntry, he, ht, hput]

/-! ## Searches that found a frequency (R143, R144, R156) -/

theorem searchFound_stuck {c : Chan} {s : State} {e : Entry} (f m : Nat) (b : Bool) (q : Search) (he : s.entryOf c = some e)
    (h : ¬ ((s.chan c).state = .active ∧ (s.chan c).pinned = false ∧ s.fitted c = true
      ∧ (s.port (.stage c.stage)).up = true)) : searchFound c f m b q s = s.dropEntry c := by
  have hm : (s.movable c && (s.port (.stage c.stage)).up) = false := by
    rw [Bool.eq_false_iff]
    simpa [State.movable, and_assoc] using h
  simp only [searchFound, he, hm, Bool.not_false, if_true]
section
variable {c : Chan} {s : State} {e : Entry} (f m : Nat) (b : Bool) (q : Search) (he : s.entryOf c = some e)
  (hstands : (s.chan c).state = .active ∧ (s.chan c).pinned = false ∧ s.fitted c = true
    ∧ (s.port (.stage c.stage)).up = true)
include he hstands

theorem searchFound_stands : searchFound c f m b q s =
    if s.paused = true then match e.want with
      | some (w, j) => joinBacklog ⟨c, w, j, false⟩ (s.dropEntry c)
      | none => s.dropEntry c
    else
      let t := (reserve c f s).putEntry { e with target := some f, search := q, fromPool := b }
      if t.inForce = true then propose c m t else sendEntry c t := by
  obtain ⟨h1, h2, h3, h4⟩ := hstands
  have hm : (s.movable c && (s.port (.stage c.stage)).up) = true := by simp [State.movable, h1, h2, h3, h4]
  simp only [searchFound, he, hm, Bool.not_true, if_false, Bool.false_eq_true] <;> rfl
end
theorem notes_reserve (c : Chan) (f : Nat) (s : State) : (reserve c f s).notes = s.notes.filter fun n => n.chan ≠ c := by
  obtain ⟨-, -, hnotes, -⟩ := taken_fields c f (((s.modChan c (ChanRec.reserve f)).dropItem c).dropNote c)
  exact hnotes
theorem assigned_reserve (c : Chan) (f : Nat) (s : State) : ((reserve c f s).chan c).assigned = (s.chan c).assigned := by
  obtain ⟨h, -⟩ := alone_reserve c f s
  rw [h]; rfl
/-- A reservation has removed the note that the new entry would remove. -/
theorem addEntry_reserve {e : Entry} {c : Chan} (he : e.chan = c) (f : Nat) (s : State) :
    addEntry e (reserve c f s) = { reserve c f s with table := s.table ++ [e] } := by
  have hdrop : (reserve c f s).dropNote c = reserve c f s := by
    have hnotes : ((reserve c f s).notes.filter fun n => n.chan ≠ c) = (reserve c f s).notes := by
      rw [notes_reserve, List.filter_filter]
      simp only [Bool.and_self]
    rw [State.dropNote, hnotes]
  rw [addEntry, he, hdrop, table_reserve]
theorem putEntry_putEntry (s : State) {e x : Entry} (h : x.chan = e.chan) : (s.putEntry e).putEntry x = s.putEntry x := by
  have hput : ∀ y : Entry, (if (if y.chan = e.chan then e else y).chan = x.chan then x else if y.chan = e.chan then e else y)
      = if y.chan = x.chan then x else y := fun y => by
    by_cases hy : y.chan = e.chan
    · rw [if_pos hy, if_pos h.symm, if_pos (hy.trans h.symm)]
    · rw [if_neg hy, h, if_neg hy]
  simp only [State.putEntry, List.map_map, Function.comp_def, hput]
theorem putEntry_reserve {e : Entry} {c : Chan} (he : e.chan = c) (f : Nat) (s : State) : (reserve c f s).putEntry e
    = { reserve c f s with table := s.table.map fun y => if y.chan = c then e else y } := by
  rw [State.putEntry, table_reserve, he]
theorem propose_put {s : State} {c : Chan} {e e' : Entry} (m : Nat) (he : s.entryOf c = some e) (hc : e'.chan = c) :
    propose c m (s.putEntry e') = notifyChan .proposal c (byteOf e'.origin.code :: o16 e'.src ++ o16 e'.target ++ [byteOf m])
      (s.putEntry { e' with state := .proposed, propDl := some (s.now + s.proposalTimeout) }) := by
  have hent : (s.putEntry e').entryOf c = some e' := by
    obtain rfl : e.chan = c := entryOf_chan he
    exact entryOf_putEntry_same he hc
  simp only [propose, hent, putEntry_putEntry s (x := { e' with
    state := .proposed, propDl := some ((s.putEntry e').now + (s.putEntry e').proposalTimeout) }) (e := e') rfl] <;> rfl
theorem operFound_eq (o : Oper) (f : Nat) (s : State) : operFound o f s =
    let c := o.chan
    if ((s.chan c).state = .parked ∨ (s.chan c).state = .active ∨ (s.chan c).state = .held)
        ∧ s.entryOf c = none ∧ (s.port (.stage c.stage)).up = true ∧ s.table.length < 12 then
      operReply o .ok 0 (be16 f) (sendEntry c { reserve c f s with
        table := s.table ++ [⟨c, .operator, o.revert, .searching, (s.chan c).assigned, some f, 0, ⟨[], 0, []⟩, false, false,
          none, o.roc, some o.hdr.src, none, none, none⟩] })
    else operReply o .busy 0 [] s := by
  unfold operFound
  dsimp only
  refine ite_congr (by simp [ChanRec.settled, State.tableFull, and_assoc, or_assoc]) (fun _ => ?_) fun _ => rfl
  rw [addEntry_reserve (c := o.chan) rfl]; rfl
theorem admitHeld_eq (h : HeldFrame) (s : State) : admitHeld h s =
    let c := h.chan
    handTo (.stage c.stage) h.frame { reserve c h.target s with
      heldFrames := s.heldFrames.filter fun x => x.chan ≠ c
      table := s.table ++ [⟨c, .passed, false, .sent, (s.chan c).assigned, some h.target, 1, ⟨[], 0, []⟩, false, false, none,
        false, some h.frame.src, some (s.now + 300), none, none⟩] } := by
  have hframes : (reserve h.chan h.target s).heldFrames = s.heldFrames := by rw [reserve_changes]
  unfold admitHeld dropHeld freshEntry
  dsimp only
  rw [addEntry_reserve rfl, assigned_reserve, hframes]; rfl

/-! ## What a commit is told (R170) -/

/-- The commits after a pushed move of channel `c` ended. -/
def toldCommits (c : Chan) (done : Bool) (s : State) : Vector CommitState 6 :=
  match s.commitRec c.stage with
  | some r => if c.slot ∈ r.outstanding then s.commits.set c.stage (.committing { r with
      outstanding := r.outstanding.filter fun n => n ≠ c.slot
      applied := if done = true then r.applied + 1 else r.applied
      failed := if done = true then r.failed else r.failed + 1
      failedList := if done = true then r.failedList else r.failedList ++ [(c.slot, 13)] }) else s.commits
  | none => s.commits
theorem toldCommits_congr {s t : State} (h : t.commits = s.commits) (c : Chan) (done : Bool) :
    toldCommits c done t = toldCommits c done s := by
  unfold toldCommits State.commitRec
  rw [h]
theorem pushEnded_eq (c : Chan) (done : Bool) (s : State) : pushEnded c done s = { s with commits := toldCommits c done s } := by
  unfold pushEnded toldCommits
  cases s.commitRec c.stage with
  | none => rfl
  | some r =>
    simp only [List.contains_iff_mem]
    by_cases hr : c.slot ∈ r.outstanding
    · rw [if_pos hr, if_pos hr]; cases done <;> rfl
    · rw [if_neg hr, if_neg hr]
theorem pushEnded_of_commits {s t : State} (h : t.commits = s.commits) (o : Origin) (c : Chan) (done : Bool) :
    (if o = .commit then pushEnded c done t else t)
      = { t with commits := if o = .commit then toldCommits c done s else s.commits } := by
  by_cases ho : o = .commit
  · rw [if_pos ho, if_pos ho, pushEnded_eq, toldCommits_congr h]
  · rw [if_neg ho, if_neg ho, ← h]

/-! ## Completions and failures (R110, R112, R115, R129, R152, R154) -/

/-- A hold with cause DOUBLE_FAULT, as it is laid out. -/
theorem doubleFault_eq (c : Chan) (s : State) : doubleFault c s =
    notifyChan .held c (byteOf 1 :: o16 (s.chan c).assigned)
      { s.setChan c { s.chan c with state := .held, heldCause := some .doubleFault } with
        latches := s.latches.set 15 true } := by
  have h : ((setDoubleFault (setHeld c .doubleFault s)).chan c).assigned = (s.chan c).assigned := by
    change ((setHeld c .doubleFault s).chan c).assigned = _
    rw [setHeld, chan_modChan, if_pos rfl]
  unfold doubleFault notifyHeld
  rw [h]; rfl
/-- The pools after a frequency is vacated (R129). -/
def recycledPools (c : Chan) (src : Option Nat) (o : Origin) (s : State) : Vector (List PoolEntry) 4 :=
  let g := s.groupOf c
  match src with
  | some v =>
    if (s.opts[g]).recycle = true ∧ (s.pool g).length < 16 ∧ (∀ x ∈ s.pool g, x.freq ≠ v) ∧ s.occupiedIn g v = false then
      s.pools.set g (s.pool g ++ [⟨v, if o = .auto then .dirty else .unchecked, 0, none, false⟩]) else s.pools
  | none => s.pools
theorem recycle_eq_pools (c : Chan) (src : Option Nat) (o : Origin) (s : State) :
    recycle c src o s = { s with pools := recycledPools c src o s } := by
  unfold recycle recycledPools
  cases src with
  | none => rfl
  | some v =>
    dsimp only
    by_cases hr : (s.opts[s.groupOf c]).recycle = true
    · rw [if_pos (show (s.opt (s.groupOf c)).recycle = true from hr)]
      unfold appendPool
      by_cases hroom : (s.pool (s.groupOf c)).length < 16 ∧ (∀ x ∈ s.pool (s.groupOf c), x.freq ≠ v)
          ∧ s.occupiedIn (s.groupOf c) v = false
      · rw [if_pos (by simpa [and_assoc] using hroom), if_pos (And.intro hr hroom)]; rfl
      · rw [if_neg (by simpa [and_assoc] using hroom), if_neg fun h => hroom h.2]
    · rw [if_neg (show ¬ (s.opt (s.groupOf c)).recycle = true from hr), if_neg fun h => hr h.1]
theorem newReturnWatch_eq (s : State) (e : Entry) (r : ChanRec) : newReturnWatch s e r = match e.src, r.prior with
    | some _, some v => match e.origin, r.profile with
      | .auto, some n => if (s.profiles[n]).returnOnClear = true then some ⟨v, 0, (s.profiles[n]).clearDwell⟩ else none
      | .operator, _ => if e.roc = true then some ⟨v, 0, 10⟩ else none
      | _, _ => none
    | _, _ => none := by
  unfold newReturnWatch
  cases e.src with
  | none => rfl
  | some a =>
    cases r.prior with
    | none => rfl
    | some v => cases e.origin <;> cases r.profile <;> rfl
theorem recycle_doneRecord (e : Entry) (u : State) (hw : u = { s with chans := u.chans }) :
    (recycle e.chan e.src e.origin u).modChan e.chan (doneRecord e (recycle e.chan e.src e.origin u))
      = { u.setChan e.chan { u.chan e.chan with
          returnWatch := newReturnWatch s e (u.chan e.chan)
          settle := if e.origin = .auto ∧ s.settlePeriod ≠ 0 then some (s.now + s.settlePeriod) else none
          watch := ⟨if s.liveProfile (u.chan e.chan).profile = true then .armed else .off, 0, 0, none⟩ } with
        pools := recycledPools e.chan e.src e.origin u } := by
  have hnow : u.now = s.now := by rw [hw]
  have hperiod : u.settlePeriod = s.settlePeriod := by rw [hw]
  have hprofiles : u.profiles = s.profiles := by rw [hw]
  rw [recycle_eq_pools]
  generalize recycledPools e.chan e.src e.origin u = ps
  have hrec : doneRecord e { u with pools := ps } (u.chan e.chan) = { u.chan e.chan with
      returnWatch := newReturnWatch s e (u.chan e.chan)
      settle := if e.origin = .auto ∧ s.settlePeriod ≠ 0 then some (s.now + s.settlePeriod) else none
      watch := ⟨if s.liveProfile (u.chan e.chan).profile = true then .armed else .off, 0, 0, none⟩ } := by
    have hret : newReturnWatch { u with pools := ps } e (u.chan e.chan) = newReturnWatch s e (u.chan e.chan) := by
      unfold newReturnWatch
      dsimp only
      rw [hprofiles]
    have hlive : ∀ p, State.liveProfile { u with pools := ps } p = s.liveProfile p := fun p => by
      unfold State.liveProfile
      dsimp only
      rw [hprofiles]
    rw [doneRecord, hret, freshWatch_eq, hlive, newSettle]
    dsimp only
    rw [hnow, hperiod]
  rw [← hrec]; rfl
theorem moveDone_laid {e : Entry} {f : Nat} (ht : e.target = some f) (s : State) : moveDone e s =
    let c := e.chan
    let u := complete c f e.revert s
    let r := u.chan c
    let w : State := { u.setChan c { r with
        returnWatch := newReturnWatch s e r
        settle := if e.origin = .auto ∧ s.settlePeriod ≠ 0 then some (s.now + s.settlePeriod) else none
        watch := ⟨if s.liveProfile r.profile = true then .armed else .off, 0, 0, none⟩ } with
      pools := recycledPools c e.src e.origin u }
    let n := notifyChan .moved c (byteOf e.origin.code :: o16 e.src ++ be16 f ++ [byteOf e.attempts] ++ eFlag e.revert
      ++ eFlag e.spoil ++ eAddr e.orig) w
    let d : State := { n with
      table := s.table.filter fun x => x.chan ≠ c
      commits := if e.origin = .commit then toldCommits c true s else s.commits }
    if e.spoil = true then doubleFault c d else d := by
  have hdone : doneMove e s = (notifyMoved e.chan (some e.origin) e.src e.target (some e.attempts) e.revert e.spoil e.orig
      ((recycle e.chan e.src e.origin (complete e.chan f e.revert s)).modChan e.chan
        (doneRecord e (recycle e.chan e.src e.origin (complete e.chan f e.revert s))))).dropEntry e.chan := by
    rw [doneMove, ht]; rfl
  rw [recycle_doneRecord (s := s) e _ rfl] at hdone
  rw [moveDone_eq]
  dsimp only
  generalize hv : { (complete e.chan f e.revert s).setChan e.chan _ with
    pools := recycledPools e.chan e.src e.origin (complete e.chan f e.revert s) } = v at hdone ⊢
  have htable : v.table = s.table := by rw [← hv]; rfl
  have hcommits : (doneMove e s).commits = s.commits := by
    rw [hdone, State.dropEntry, notifyMoved, notifyChan_commits, ← hv]; rfl
  rw [pushEnded_of_commits hcommits, hdone, State.dropEntry, notifyMoved, notifyChan_table, htable, ht]
  rfl
theorem moveFail_laid (e : Entry) (why : EndReason) (rack : Option Nat) (s : State) : moveFail e why rack s =
    let c := e.chan
    let u := release c s
    let b := if e.origin = .auto ∧ why = .rackRejected then doubleFault c u else u
    let r : State := if e.origin = .ret then b.setChan c { b.chan c with
      returnWatch := (b.chan c).returnWatch.map fun w => { w with run := 0 } } else b
    let n := notifyChan .moveFailed c (byteOf why.code :: byteOf e.origin.code :: o16 e.src ++ o16 e.target
        ++ [byteOf e.attempts] ++ o8 rack ++ eAddr e.orig)
      { r with counters := s.counters.set c.stage { s.counters[c.stage] with
        failures := min ((s.counters[c.stage]).failures + 1) 255 } }
    { n with
      table := s.table.filter fun x => x.chan ≠ c
      commits := if e.origin = .commit then toldCommits c false s else s.commits } := by
  have hdouble : ∀ t, (doubleFault e.chan t).table = t.table ∧ (doubleFault e.chan t).counters = t.counters
      ∧ (doubleFault e.chan t).commits = t.commits := fun t => by
    rw [doubleFault_eq, notifyChan_table, notifyChan_counters, notifyChan_commits]; exact ⟨rfl, rfl, rfl⟩
  extract_lets c u b _ r _ n
  have hb : b.table = s.table ∧ b.counters = s.counters ∧ b.commits = s.commits := by
    dsimp only [b]
    split
    · exact hdouble u
    · exact ⟨rfl, rfl, rfl⟩
  obtain ⟨htable, hcounters, hcommits⟩ : r.table = s.table ∧ r.counters = s.counters ∧ r.commits = s.commits := by
    dsimp only [r]
    split <;> exact hb
  have hfail : failMove e why rack s = (notifyFailed e why rack (bumpStage c.stage .failures r)).dropEntry c := rfl
  have hn : notifyFailed e why rack (bumpStage c.stage .failures r) = n := by
    rw [bumpStage, hcounters]; rfl
  have hntable : n.table = s.table := by dsimp only [n]; rw [notifyChan_table]; exact htable
  have hncommits : (failMove e why rack s).commits = s.commits := by
    rw [hfail, hn]
    change n.commits = _
    dsimp only [n]
    rw [notifyChan_commits]; exact hcommits
  rw [moveFail_eq, pushEnded_of_commits hncommits, hfail, hn, State.dropEntry, hntable]
theorem noCandidate_laid (c : Chan) (q : Search) (s : State) : noCandidate c q s = notifyChan .moveFailed c
    (byteOf 5 :: o16 (s.chan c).assigned ++ [byteOf q.attempts, byteOf (min q.tried.length 255)])
    { s.setChan c { s.chan c with state := .held, heldCause := some .noCandidate } with
      table := s.table.filter fun x => x.chan ≠ c
      counters := s.counters.set c.stage { s.counters[c.stage] with
        failures := min ((s.counters[c.stage]).failures + 1) 255 } } := by
  have h : ((bumpStage c.stage .failures ((setHeld c .noCandidate s).dropEntry c)).chan c).assigned = (s.chan c).assigned := by
    change ((setHeld c .noCandidate s).chan c).assigned = _
    rw [setHeld, chan_modChan, if_pos rfl]
  unfold noCandidate
  dsimp only
  rw [h]
  have hcount : eCount q.tried.length = [byteOf (min q.tried.length 255)] := rfl
  rw [hcount]
  simp only [e8, List.append_assoc, List.cons_append, List.nil_append]
  rfl
theorem returnSkip_laid (c : Chan) (spoiled : Bool) (s : State) : returnSkip c spoiled s =
    { s.setChan c { s.chan c with returnWatch :=
        if spoiled = true then (s.chan c).returnWatch.map fun w => { w with run := 0 } else none } with
      table := s.table.filter fun x => x.chan ≠ c
      counters := s.counters.set c.stage { s.counters[c.stage] with skips := min ((s.counters[c.stage]).skips + 1) 255 } } := by
  cases spoiled <;> rfl

/-- Settles O44: each end of a move, by its own equation. -/
theorem movesChangeWhatTheirRuleSays : Obligations.MovesChangeWhatTheirRuleSays := by
  unfold Obligations.MovesChangeWhatTheirRuleSays
  intro told heldAgain
  have htold : ∀ c done s, toldCommits c done s = told c done s := fun _ _ _ => rfl
  have hagain : ∀ c s, doubleFault c s = heldAgain c s := fun c s => doubleFault_eq c s
  clear_value told heldAgain
  refine ⟨fun c e f s he ht => ?send, fun c f m b q e s he => ?found, fun o f s => operFound_eq o f s,
    fun h s => admitHeld_eq h s, fun e f s ht => ?done, fun e why rack s => ?fail, fun c q s => ?none, fun c b s => ?skip⟩
  case send =>
    rw [sendEntry_eq he ht]
    dsimp only
    rw [sendTune_eq]; rfl
  case found =>
    intro gone stands confirm full e' put
    have hc : e.chan = c := entryOf_chan he
    have hput : ∀ x : Entry, x.chan = c → (reserve c f s).putEntry x = put x := fun x hx => putEntry_reserve hx f s
    have hpaused : s.paused = true ↔ full := by
      simp [State.paused, State.inForce, State.proposedCount, full, confirm, and_assoc]
      exact fun _ _ => decide_eq_true_iff
    have hforce : ((reserve c f s).putEntry e').inForce = true ↔ confirm := by
      rw [State.inForce, hput e' hc]
      change ((reserve c f s).confirm && (reserve c f s).trunk.up) = true ↔ _
      rw [reserve_changes]
      exact Bool.and_eq_true_iff
    have hnow : (reserve c f s).now = s.now := by rw [reserve_changes]
    have htimeout : (reserve c f s).proposalTimeout = s.proposalTimeout := by rw [reserve_changes]
    have hsend : (reserve c f s).entryOf c = some e := by rw [State.entryOf, table_reserve]; exact he
    refine ⟨searchFound_stuck f m b q he, fun hs hfull => ?_, fun hs hno => ?_, fun hs hyes hroom => ?_⟩
    · rw [searchFound_stands f m b q he hs, if_pos (hpaused.mpr hfull)]; rfl
    · rw [searchFound_stands f m b q he hs, if_neg fun h => hno (hpaused.mp h).1]
      dsimp only
      rw [if_neg fun h => hno (hforce.mp h), hput e' hc]
    · rw [searchFound_stands f m b q he hs, if_neg fun h => hroom (hpaused.mp h)]
      dsimp only
      rw [if_pos (hforce.mpr hyes), propose_put (e' := e') m hsend hc, hput _ (by exact hc), hnow, htimeout]
      rfl
  case done =>
    rw [moveDone_laid ht]
    dsimp only
    rw [hagain, htold, newReturnWatch_eq]
    rfl
  case fail =>
    simp only [← hagain, ← htold]
    exact moveFail_laid e why rack s
  case none => exact noCandidate_laid c q s
  case skip => exact returnSkip_laid c b s

end Sys2Proof.Machine
end

section
/-! The order of service (R46 to R48, R56, R138, R141, R142). -/

namespace Sys2Proof.Machine

/-! ## The Engine's next request (R48, R49) -/

/-- `r` is the oldest request of the highest class `k` that has one (R48). -/
def State.NextIs (s : State) (k : ReqClass) (r : Served) : Prop :=
  (∃ m xs, k = .move ∧ r = .move m ∧ s.engine.moveQ = m :: xs)
  ∨ (∃ x xs, k = .admission ∧ r = .adm x ∧ s.engine.moveQ = [] ∧ s.engine.admQ = x :: xs)
  ∨ (∃ x xs, k = .commit ∧ r = .com x ∧ s.engine.moveQ = [] ∧ s.engine.admQ = [] ∧ s.engine.comQ = x :: xs)
  ∨ ∃ g xs, k = .pool ∧ r = .pool g ∧ s.engine.moveQ = [] ∧ s.engine.admQ = [] ∧ s.engine.comQ = []
    ∧ s.engine.poolQ = g :: xs
theorem nextClass_of_next {s : State} {k : ReqClass} {r : Served} (h : s.NextIs k r) : s.nextClass = some k ∧ s.head k = some r := by
  unfold State.nextClass
  rcases h with ⟨m, xs, rfl, rfl, h1⟩ | ⟨x, xs, rfl, rfl, h1, h2⟩ | ⟨x, xs, rfl, rfl, h1, h2, h3⟩
    | ⟨g, xs, rfl, rfl, h1, h2, h3, h4⟩
  · simp [h1, State.head]
  · simp [h1, h2, State.head]
  · simp [h1, h2, h3, State.head]
  · simp [h1, h2, h3, h4, State.head]
theorem arbitrate_busy {s : State} (h : s.engine.service.isSome = true) (n : Nat) : arbitrate n s = s := by
  cases n with
  | zero => rfl
  | succ n => exact if_pos h
theorem arbitrate_idle {s : State} (h1 : s.engine.moveQ = []) (h2 : s.engine.admQ = []) (h3 : s.engine.comQ = [])
    (h4 : s.engine.poolQ = []) (n : Nat) : arbitrate n s = s := by
  have hnext : s.nextClass = none := by simp [State.nextClass, h1, h2, h3, h4]
  cases n with
  | zero => rfl
  | succ n =>
    unfold arbitrate
    rw [hnext]
    exact ite_self _
theorem arbitrate_next {s : State} {k : ReqClass} {r : Served} (hfree : s.engine.service = none) (h : s.NextIs k r) (n : Nat) :
    arbitrate (n + 1) s = match s.candOf r with
      | some f => beginService k r f s
      | none => arbitrate n (endUnserved r s) := by
  obtain ⟨hclass, hhead⟩ := nextClass_of_next h
  simp only [arbitrate, hfree, Option.isSome_none, Bool.false_eq_true, if_false, hclass, hhead] <;> cases s.candOf r <;> rfl

/-! ## The arbiter (R141) -/

theorem comesBefore_iff (s : State) (i j : Item) :
    s.before i j = true ↔ s.rank i < s.rank j ∨ s.rank i = s.rank j ∧ i.join < j.join := by
  simp [State.before]
theorem foremost_iff {s : State} {i : Item} : i ∈ s.foremost ↔ (i ∈ s.backlog ∧ s.servable i = true)
    ∧ ∀ j, j ∈ s.backlog ∧ s.servable j = true → s.rank i < s.rank j ∨ s.rank i = s.rank j ∧ i.join ≤ j.join := by
  have hbefore : ∀ j, (s.before j i = false ↔ s.rank i < s.rank j ∨ s.rank i = s.rank j ∧ i.join ≤ j.join) := fun j => by
    rw [Bool.eq_false_iff, ne_eq, comesBefore_iff]
    omega
  simp only [State.foremost, List.mem_filter, Bool.not_eq_true', List.any_eq_false, Bool.not_eq_true, hbefore]
/-- Of waiting items there is always one that none comes before. -/
theorem foremost_eq_nil {s : State} : s.foremost = [] ↔ ∀ i, ¬ (i ∈ s.backlog ∧ s.servable i = true) := by
  refine ⟨fun h j hj => ?_, fun h => List.eq_nil_iff_forall_not_mem.mpr fun i hi => h i (foremost_iff.mp hi).1⟩
  obtain ⟨i, hi, hmin⟩ := (InvImage.wf (fun i => toLex (s.rank i, i.join)) wellFounded_lt).has_min
    {i | i ∈ s.backlog ∧ s.servable i = true} ⟨j, hj⟩
  have hmem : i ∈ s.foremost := foremost_iff.mpr ⟨hi, fun k hk => by
    have hk' := hmin k hk
    rw [InvImage, Prod.Lex.toLex_lt_toLex] at hk'
    dsimp only at hk'
    omega⟩
  rw [h] at hmem
  cases hmem
theorem freePick_lt (s : State) {n : Nat} (h : n ≠ 0) : freePick s n < n := by
  unfold freePick
  split
  · omega
  · exact Nat.mod_lt _ (by omega)
theorem arbiter_serves {s : State} (hroom : s.table.length < 12) (h : s.foremost ≠ []) (n : Nat) :
    ∃ i ∈ s.foremost, ∃ k, arbiter (n + 1) s = arbiter n (serveItem i { s with freeCount := k }) := by
  have hlt := freePick_lt s (mt List.length_eq_zero_iff.mp h)
  obtain ⟨k, hk⟩ := usePick_eq s.foremost.length s
  refine ⟨s.foremost[freePick s s.foremost.length], List.getElem_mem hlt, k, ?_⟩
  have hfull : s.tableFull = false := decide_eq_false (by omega)
  simp only [arbiter, hfull, Bool.false_eq_true, if_false, List.getElem?_eq_getElem hlt, hk]
theorem arbiter_rests {s : State} (h : 12 ≤ s.table.length ∨ s.foremost = []) (n : Nat) : arbiter n s = s := by
  cases n with
  | zero => rfl
  | succ n =>
    unfold arbiter
    rcases h with h | h
    · exact if_pos (decide_eq_true h)
    · rw [h]; exact ite_self _

/-- The arbiter ends with the table full or nothing servable: each served item leaves the backlog. -/
theorem arbiter_ends (n : Nat) : ∀ s : State, s.backlog.length ≤ n →
    12 ≤ (arbiter n s).table.length ∨ (arbiter n s).foremost = [] := by
  induction n with
  | zero =>
    intro s hs
    have hnil : s.backlog = [] := List.length_eq_zero_iff.mp (Nat.le_zero.mp hs)
    refine .inr (foremost_eq_nil.mpr fun i hi => ?_)
    obtain ⟨hmem, -⟩ : i ∈ s.backlog ∧ _ := hi
    rw [hnil] at hmem; cases hmem
  | succ n ih =>
    intro s hs
    by_cases hrest : 12 ≤ s.table.length ∨ s.foremost = []
    · rw [arbiter_rests hrest]; exact hrest
    · obtain ⟨hroom, hne⟩ := not_or.mp hrest
      obtain ⟨i, hi, k, hk⟩ := arbiter_serves (by omega) hne n
      rw [hk]
      refine ih _ ?_
      rw [backlog_serveItem]
      have hlt : (s.backlog.filter fun j => j.chan ≠ i.chan).length < s.backlog.length :=
        List.length_filter_lt_length_iff_exists.mpr ⟨i, mem_foremost hi, by simp⟩
      exact Nat.le_of_lt_succ (lt_of_lt_of_le hlt hs)

/-! ## A served item's search (R142) -/

theorem putEntry_last {c : Chan} {xs : List Entry} {e x : Entry} {t : State} (hx : x.chan = c) (he : e.chan = c)
    (hnone : xs.find? (fun y => decide (y.chan = c)) = none) (ht : t.table = xs ++ [e]) :
    t.putEntry x = { t with table := xs ++ [x] } := by
  have hother : ∀ y ∈ xs, ¬ y.chan = x.chan := fun y hy => by
    rw [hx]; simpa using (List.find?_eq_none.mp hnone) y hy
  have hmap : xs.map (fun y => if y.chan = x.chan then x else y) = xs :=
    (List.map_congr_left fun y hy => if_neg (hother y hy)).trans (List.map_id xs)
  rw [State.putEntry, ht, List.map_append, hmap, List.map_singleton, if_pos (he.trans hx.symm)]
theorem askSearch_more {c : Chan} {t : State} {x : Entry} (he : t.entryOf c = some x) (w : Work) (q : Search) :
    askSearch c (.more w q) t = joinMove ⟨c, w⟩ (t.putEntry { x with search := q }) := by
  simp only [askSearch, he]
theorem askSearch_empty {c : Chan} {t : State} {x : Entry} (he : t.entryOf c = some x) (q : Search) :
    askSearch c (.empty q) t = noCandidate c q t := by
  simp only [askSearch, he]
theorem askSearch_found (c : Chan) (f m : Nat) (b : Bool) (q : Search) (t : State) :
    askSearch c (.found f m b q) t = t := by
  unfold askSearch
  split <;> simp_all

/-! ## The deferred requests (R56) -/

theorem applyOne_refused {h : ReqHdr} {r : Request} {s : State} {st : Status} (hr : refusalOf h r s.lock = some st) :
    applyOne ⟨h, r⟩ s = reply h r.code st 0 [] s := by
  simp only [applyOne, permit, hr]; rfl
theorem applyOne_permitted {d : Deferred} {s : State} {f : State → State} (hp : refusalOf d.hdr d.req s.lock = none)
    (hf : applyOne d s = permit d.hdr d.req f s) : applyOne d s = f s := by
  rw [hf, permit, hp]

/-- Settles O45: the Engine's next request, the arbiter, a served item, and the deferred requests. -/
theorem workIsServedInItsOrder : Obligations.WorkIsServedInItsOrder := by
  refine ⟨fun s n => ⟨fun h => arbitrate_busy h n, fun h1 h2 h3 h4 => arbitrate_idle h1 h2 h3 h4 n,
    fun k r hfree hnext => ?next⟩, fun s => ?arbiter, fun i s => ?serve, fun s => ⟨?busy, ?free⟩, fun h r s => ?deferred⟩
  case next =>
    intro i gs
    refine ⟨fun f hf => ?_, fun hnone => ?_⟩
    · rw [arbitrate_next hfree hnext, hf]; rfl
    · intro left
      rw [arbitrate_next hfree hnext, hnone]
      refine congrArg (arbitrate n) ?_
      rcases hnext with ⟨m, xs, rfl, rfl, -⟩ | ⟨x, xs, rfl, rfl, -⟩ | ⟨x, xs, rfl, rfl, -⟩ | ⟨g, xs, rfl, rfl, -⟩
      · rfl
      · cases x <;> rfl
      · rfl
      · rfl
  case arbiter =>
    intro rank waits
    have hwaits : ∀ i, (i ∈ s.backlog ∧ s.servable i = true) ↔ waits i := fun i => by
      have hpaused : s.paused = true ↔ s.confirm = true ∧ s.trunk.up = true
          ∧ 8 ≤ (s.table.filter fun x => x.state = .proposed).length := by
        rw [State.paused, State.inForce, Bool.and_eq_true, Bool.and_eq_true, decide_eq_true_iff, and_assoc]; rfl
      simp only [State.servable, Bool.or_eq_true, decide_eq_true_eq, Bool.not_eq_true', ← Bool.not_eq_true, hpaused, waits]
    refine ⟨fun i => ?_, ?_, fun n hroom hne => arbiter_serves hroom hne n, fun n h => arbiter_rests h n,
      arbiter_ends _ s le_rfl⟩
    · rw [foremost_iff]
      simp only [hwaits]; rfl
    · rw [foremost_eq_nil]
      simp only [hwaits]
  case serve =>
    intro c made e
    refine ⟨fun hw => serveItem_push hw s, fun hw => ?_, fun hw hnone => ?_⟩
    · intro t
      rw [serveItem_ret hw]
      have hstart : addEntry (searchEntry s i .ret) (s.dropItem i.chan) = t := by rw [searchEntry, hw]; rfl
      dsimp only
      rw [hstart]
      refine ite_congr (propext Option.isNone_iff_eq_none) (fun _ => rfl) fun _ => rfl
    · intro x
      rw [serveItem_search hw]
      have hstart : addEntry (searchEntry s i .auto) (s.dropItem i.chan) = made x := by rw [searchEntry, hw]; rfl
      dsimp only
      rw [hstart]
      have hkeep := searchNext_changes_pools i.chan Search.start (made x)
      change _ = match searchNext i.chan Search.start (made x) with
        | (.more w q, t) => _
        | (.empty q, t) => _
        | (.found .., t) => _
      generalize searchNext i.chan Search.start (made x) = z at hkeep ⊢
      obtain ⟨st, t⟩ := z
      dsimp only at hkeep
      have htable : t.table = s.table ++ [x] := by rw [hkeep]
      have hengine : t.engine = s.engine := by rw [hkeep]
      have hent : t.entryOf c = some x := by
        have hnone' : s.table.find? (fun y => decide (y.chan = c)) = none := hnone
        rw [State.entryOf, htable, List.find?_append, hnone']
        simp [x, e]
      cases st with
      | more w q =>
        rw [askSearch_more hent, putEntry_last (c := c) rfl rfl hnone htable, joinMove, hengine]
      | empty q => exact askSearch_empty hent q
      | found f m b q => exact askSearch_found ..
  case busy => exact fun h => if_pos h
  case free =>
    intro h
    rw [applyDeferred_eq, h]; rfl
  case deferred =>
    refine ⟨fun st hst => applyOne_refused hst, fun hp => ⟨?_, ?_, ?_, ?_⟩⟩
    · rintro xs rfl; exact applyOne_permitted hp rfl
    · rintro gs rs rfl; exact applyOne_permitted hp rfl
    · rintro a b k rfl; exact applyOne_permitted hp rfl
    · rintro st sl c p q n f rfl; exact applyOne_permitted hp rfl

end Sys2Proof.Machine
end

section
/-! The completions of services (R57, R86, R87, R91, R127, R132 to R134, R143, R156, R168, R169). -/

namespace Sys2Proof.Machine

theorem completion_of_act {s : State} {r : Served} {v : Service} (dt : Nat) {act : Served → Service → Option (State → State)}
    {f : State → State} (h : s.serving = some (r, v)) (ha : act r v = some f) :
    completion dt act s = finish (passTime dt s) (f (endService (passTime dt s))) := by
  have hserving : (passTime dt s).serving = some (r, v) := by
    have hhead : ∀ k, (passTime dt s).head k = s.head k := fun k => by cases k <;> simp [State.head]
    rw [← h]
    simp only [State.serving, passTime_engine, hhead]
  simp only [completion, hserving, ha, change]
theorem result_of_cand {v : Service} {f : Nat} (h : v.cand = some f) : v.outcome = .check f (check v.inputs f) := by
  simp only [Service.outcome, h]
theorem result_of_open {v : Service} (h : v.cand = none) : v.outcome = .search (openSearch v.inputs) := by
  simp only [Service.outcome, h]
theorem result_eq_check {v : Service} {f : Nat} (h : v.cand = some f) : v.result = some (check v.inputs f) := by
  simp only [Service.result, result_of_cand h]

/-! ## The requester's view of the state a service leaves -/

theorem port_leaveHead (k : ReqClass) (s : State) (p : Port) : (leaveHead k s).port p = s.port p := by cases k <;> rfl
theorem heldOf_leaveHead (k : ReqClass) (s : State) (c : Chan) : (leaveHead k s).heldOf c = s.heldOf c := by cases k <;> rfl
theorem table_leaveHead (k : ReqClass) (s : State) : (leaveHead k s).table = s.table := by cases k <;> rfl

/-! ## The Gate (R86, R87, R91) -/

theorem guardDone_eq {c : Chan} {hf : HeldFrame} {s : State} (x : Result) (h : s.heldOf c = some hf) : guardDone c x s =
    if x.verdict ≠ .clear then refuseTune hf.frame c hf.target .conflict x.verdict.code x.inv1 x.inv2 (dropHeld c s)
    else if (s.chan c).state = .unused then refuseTune hf.frame c hf.target .conflict 9 none none (dropHeld c s)
    else if (s.chan c).settled = true ∧ s.entryOf c = none ∧ (s.port (.stage c.stage)).up = true ∧ s.table.length < 12 then
      admitHeld hf s
    else refuseTune hf.frame c hf.target .busy 0 none none (dropHeld c s) := by
  simp only [guardDone, h]
  by_cases hv : x.verdict = .clear
  · rw [if_pos hv, if_neg (not_not.mpr hv)]
    refine ite_congr rfl (fun _ => rfl) fun _ => ite_congr ?_ (fun _ => rfl) fun _ => rfl
    simp [State.tableFull, and_assoc]
  · rw [if_neg hv, if_pos hv]

/-! ## Open searches (R133) -/

theorem openDone_some (q : Search) (x : Found) : openDone q (some x) =
    if x.freq ∈ q.spoiled then .empty q else .found x.freq (x.result.margin.getD 0) false q := by
  unfold openDone
  exact ite_congr (propext List.contains_iff_mem) (fun _ => rfl) fun _ => rfl
theorem openDone_none (q : Search) : openDone q none = .empty q := rfl

/-! ## Commit steps (R168, R169) -/

section
variable {q : ComReq}

theorem stepDone_given {g : Nat} (h : q.work = .given g) (f : Nat) (x : Result) (s : State) : stepDone q (.check f x) s =
    if x.verdict = .clear then stepFound q.stage q.slot f (leaveHead .commit s)
    else if q.fallback = true then stepSearched q (searchNext q.chan Search.start s)
    else nextStep q.stage q.slot (modCommit q.stage (CommitRec.fail q.slot x.verdict.code) (leaveHead .commit s)) := by
  simp only [stepDone, h]
theorem stepDone_pool {g : Group} {f : Nat} (h : q.work = .pool g f) (y : Nat) (x : Result) (s : State) :
    stepDone q (.check y x) s = stepSearched q (candidateDone q.chan q.search g f x s) := by
  simp only [stepDone, h, searchDone]
theorem stepDone_open (h : q.work = .openSearch) (x : Option Found) (s : State) :
    stepDone q (.search x) s = stepSearched q (openDone q.search x, s) := by
  simp only [stepDone, h, searchDone]
end

/-- Settles O43: each completion by its request in service. -/
theorem servicesEndByTheirOwnCommand : Obligations.ServicesEndByTheirOwnCommand := by
  intro dt s r v hs b e adm mov
  have hfrees : ∀ k c, (leaveHead k e).chan c = s.chan c ∧ (leaveHead k e).heldOf c = s.heldOf c
      ∧ (leaveHead k e).entryOf c = s.entryOf c ∧ (∀ p, (leaveHead k e).port p = b.port p)
      ∧ (leaveHead k e).table = s.table := fun k c => by
    refine ⟨(chan_leaveHead ..).trans (chan_passTime ..), (heldOf_leaveHead ..).trans ?_,
      (entryOf_leaveHead ..).trans (entryOf_passTime ..), fun p => port_leaveHead .., (table_leaveHead ..).trans ?_⟩
    · exact heldOf_passTime ..
    · exact passTime_table ..
  refine ⟨fun c y f hf hr hv hheld => ?guard, fun c y f k hr hv => ?post, fun o hr => ⟨?given, ?openS, ?pool⟩,
    fun c y g f hr hv he => ?candidate, fun c y hr hv he => ?openM, fun c f hr hv => ?ret, fun q hr => ?commit,
    fun g f hr hv => ?poolCheck⟩
  case guard =>
    intro x
    subst hr
    obtain ⟨h1, h2, h3, h4, h5⟩ := hfrees .admission c
    have hact : guardAct (.adm (.guard c y)) v = some fun s => guardDone c x (leaveHead .admission s) := by
      simp only [guardAct, result_eq_check hv]; rfl
    refine congrArg Host.Outcome.next ((completion_of_act dt hs hact).trans (congrArg (finish b) ?_))
    rw [guardDone_eq x (h2.trans hheld), h1, h3, h4, h5]
  case post =>
    intro x
    subst hr
    obtain ⟨h1, h2, h3, h4, h5⟩ := hfrees .admission c
    have hact : postAct (.adm (.post c y k)) v = some fun s => postDone c y k x (leaveHead .admission s) := by
      simp only [postAct, result_eq_check hv]; rfl
    refine congrArg Host.Outcome.next ((completion_of_act dt hs hact).trans (congrArg (finish b) ?_))
    rw [postDone, h1]
  case given =>
    intro f hv hwork x
    subst hr
    have hact : operAct (.adm (.oper o)) v = some (operDone o (.check f x)) := by
      simp only [operAct, result_of_cand hv]; rfl
    refine congrArg Host.Outcome.next ((completion_of_act dt hs hact).trans (congrArg (finish b) ?_))
    rcases hwork with ⟨g, hg⟩ | hg
    · simp only [operDone, hg]; rfl
    · simp only [operDone, hg]; rfl
  case openS =>
    intro hv hwork
    subst hr
    have hact : operAct (.adm (.oper o)) v = some (operDone o (.search (openSearch v.inputs))) := by
      simp only [operAct, result_of_open hv]
    refine congrArg Host.Outcome.next ((completion_of_act dt hs hact).trans (congrArg (finish b) ?_))
    have hdone : operDone o (.search (openSearch v.inputs)) e = operSearched o (openDone o.search (openSearch v.inputs), e) := by
      simp only [operDone, hwork, searchDone]
    refine hdone.trans ?_
    cases openSearch v.inputs with
    | none => rfl
    | some x =>
      rw [openDone_some]
      by_cases hx : x.freq ∈ o.search.spoiled
      · simp only [if_pos hx]; rfl
      · simp only [if_neg hx]; rfl
  case pool =>
    intro g f hv hwork
    subst hr
    have hact : operAct (.adm (.oper o)) v = some (operDone o (.check f (check v.inputs f))) := by
      simp only [operAct, result_of_cand hv]
    refine congrArg Host.Outcome.next ((completion_of_act dt hs hact).trans (congrArg (finish b) ?_))
    simp only [operDone, hwork, searchDone]; rfl
  case candidate =>
    subst hr
    have hact : candidateAct (.move ⟨c, .pool g f⟩) v = some (moveSearchDone ⟨c, .pool g f⟩ (.check f (check v.inputs f))) := by
      simp only [candidateAct, result_of_cand hv]; rfl
    refine congrArg Host.Outcome.next ((completion_of_act dt hs hact).trans (congrArg (finish b) ?_))
    have he' : e.entryOf c = some y := (entryOf_passTime dt s c).trans he
    have hdone : moveSearchDone ⟨c, .pool g f⟩ (.check f (check v.inputs f)) e
        = moveSearched c (searchDone c (.pool g f) y.search (.check f (check v.inputs f)) e) := by
      simp only [moveSearchDone, he']
    exact hdone
  case openM =>
    subst hr
    have hact : openAct (.move ⟨c, .openSearch⟩) v = some (moveSearchDone ⟨c, .openSearch⟩ (.search (openSearch v.inputs))) := by
      simp only [openAct, result_of_open hv]; rfl
    refine congrArg Host.Outcome.next ((completion_of_act dt hs hact).trans (congrArg (finish b) ?_))
    have he' : e.entryOf c = some y := (entryOf_passTime dt s c).trans he
    have hdone : moveSearchDone ⟨c, .openSearch⟩ (.search (openSearch v.inputs)) e
        = moveSearched c (openDone y.search (openSearch v.inputs), e) := by
      simp only [moveSearchDone, he', searchDone]
    refine hdone.trans ?_
    cases openSearch v.inputs with
    | none => rfl
    | some x =>
      rw [openDone_some]
      by_cases hx : x.freq ∈ y.search.spoiled
      · simp only [if_pos hx]; rfl
      · simp only [if_neg hx]; rfl
  case ret =>
    intro x
    subst hr
    have hact : returnAct (.move ⟨c, .prior⟩) v = some (returnDone c (.check f x)) := by
      simp only [returnAct, result_of_cand hv]; rfl
    refine congrArg Host.Outcome.next ((completion_of_act dt hs hact).trans (congrArg (finish b) ?_))
    clear_value x
    rfl
  case commit =>
    intro com fails goesOn
    subst hr
    have hend : ∀ o t, v.outcome = o → stepDone q o e = t → exec (.commitStepCompletion dt) s = .next (finish b t) :=
      fun o t ho ht => by
        have hact : commitAct (.com q) v = some (stepDone q o) := by simp only [commitAct, ho]
        rw [← ht]
        exact congrArg Host.Outcome.next (completion_of_act dt hs hact)
    have hgoes : ∀ z, stepSearched q z = goesOn z := fun z => by
      obtain ⟨st, t⟩ := z
      cases st <;> rfl
    clear_value b
    refine ⟨fun f hv hwork => ?_, fun g f hv hwork => ?_, fun hv hwork => ?_⟩
    · intro x
      obtain ⟨g, hg⟩ := hwork
      refine hend _ _ (result_of_cand hv) ?_
      rw [stepDone_given hg, hgoes]
      rfl
    · refine hend _ _ (result_of_cand hv) ?_
      rw [stepDone_pool hwork]; exact hgoes _
    · refine hend _ _ (result_of_open hv) ?_
      rw [stepDone_open hwork]
      cases openSearch v.inputs with
      | none => rfl
      | some x =>
        rw [openDone_some]
        by_cases hx : x.freq ∈ q.search.spoiled
        · simp only [if_pos hx]; rfl
        · simp only [if_neg hx]; rfl
  case poolCheck =>
    intro t
    subst hr
    have hact : poolAct (.pool g) v = some fun s => if (poolCheckDone g f (check v.inputs f) s).needsRecheck g
        then poolCheckDone g f (check v.inputs f) s else leaveHead .pool (poolCheckDone g f (check v.inputs f) s) := by
      simp only [poolAct, result_of_cand hv]
    refine congrArg Host.Outcome.next ((completion_of_act dt hs hact).trans (congrArg (finish b) ?_))
    have hpool : e.pool g = s.pool g := pool_passTime dt s g
    have ht : poolCheckDone g f (check v.inputs f) e = t := by
      rw [poolCheckDone, hpool]
    rw [ht]
    exact ite_congr (propext (by simp [State.needsRecheck])) (fun _ => rfl) fun _ => rfl

end Sys2Proof.Machine
end

section
/-! Sweep frames (R68, R114, R116, R117, R125, R135, R145, R180, R181). -/

namespace Sys2Proof.Machine

/-! ## The samples of a frame (R68) -/

theorem zipIdx_eq_range (xs : List Nat) : xs.zipIdx = (List.range xs.length).map fun i => (xs.getD i 0, i) := by
  refine List.ext_getElem (by simp) fun i h1 h2 => ?_
  have hi : i < xs.length := by simpa using h1
  simp [List.getD, hi]
theorem samplesOf_eq (d : SweepData) : samplesOf d = (List.range d.levels.length).filterMap fun i =>
    if d.start + i * d.step ≤ 8191 then some (d.start + i * d.step, min (d.levels.getD i 0) 100) else none := by
  unfold samplesOf
  rw [zipIdx_eq_range, List.map_map, ← List.filterMap_eq_filter, List.filterMap_map]
  refine congrArg (fun f => List.filterMap f (List.range d.levels.length)) (funext fun i => ?_)
  by_cases h : d.start + i * d.step ≤ 8191
  · simp [Option.guard, offGrid, gridMax, h, clampLevel, Nat.not_lt.mpr h]
  · simp [Option.guard, offGrid, gridMax, h, Nat.lt_of_not_le h]

/-! ## The frame's readers (R66, R180, R181) -/

theorem readPassing_sweep (z : Stage) (d : SweepData) (s : State) :
    readPassing z ⟨byteOf z.val, 4#8⟩ (.sweep d) s = finish s (readSweep z d s) := by
  have hrack : rackOf ⟨byteOf z.val, 4#8⟩ = none := dif_neg (show ¬ (4#8).toNat < 4 by decide)
  unfold readPassing
  rw [hrack]
  dsimp only
  rw [if_pos (show (4#8).toNat = 4 from rfl), change]
theorem surveyFrame_eq {z : Stage} {v : Survey} {s : State} (h : s.surveys[z] = some v) (last survey : Bool) :
    surveyFrame z last survey s = if survey = false then s
      else if last = false then { s with surveys := s.surveys.set z (some { v with frames := v.frames + 1 }) }
      else notify .surveyDone z.val 255 [0#8, byteOf v.passes, byteOf (min (v.frames + 1) 255)]
        (sendStanding z { s with surveys := s.surveys.set z none }) := by
  unfold surveyFrame
  rw [h]
  cases survey with
  | false => cases last <;> rfl
  | true =>
    cases last with
    | false => rfl
    | true =>
      have hv : ({ s with surveys := s.surveys.set z (some { v with frames := v.frames + 1 }) } : State).surveys[z]
          = some { v with frames := v.frames + 1 } := Vector.getElem_set_self ..
      simp only [endSurvey, hv, clearSurvey, Vector.set_set, Bool.and_self, if_true, Bool.true_eq_false, if_false]
      rfl

/-! ## Pools (R125) -/

section
variable {floor dwell : Nat} {xs : List (Nat × Nat)} {e : PoolEntry}

theorem any_floor_iff (ls : List Nat) (floor : Nat) : ls.any (fun l => decide (floor ≤ l)) = true ↔ ∃ l ∈ ls, floor ≤ l := by
  simp
theorem sweep_uncovered (h : covered xs e.freq 1 = []) : e.sweep floor dwell xs = e := if_pos h
theorem sweep_dirty (h : ∃ l ∈ covered xs e.freq 1, floor ≤ l) : e.sweep floor dwell xs =
    { e with state := .dirty, run := 0, level := some (highest (covered xs e.freq 1)) } := by
  have hne : covered xs e.freq 1 ≠ [] := fun h0 => by rw [h0] at h; obtain ⟨l, hl, _⟩ := h; cases hl
  unfold PoolEntry.sweep
  dsimp only
  rw [if_neg hne, if_pos ((any_floor_iff _ _).mpr h)]
theorem sweep_clean (hne : covered xs e.freq 1 ≠ []) (h : ∀ l ∈ covered xs e.freq 1, l < floor) : e.sweep floor dwell xs =
    { e with
      level := some (highest (covered xs e.freq 1))
      state := if e.state = .dirty ∧ dwell ≤ e.run + 1 then .unchecked else e.state
      run := if e.state = .dirty then (if dwell ≤ e.run + 1 then 0 else e.run + 1) else e.run } := by
  have hno : ¬ ((covered xs e.freq 1).any fun l => decide (floor ≤ l)) = true := fun hy => by
    obtain ⟨l, hl, hf⟩ := (any_floor_iff _ _).mp hy
    exact absurd (h l hl) (by omega)
  unfold PoolEntry.sweep
  dsimp only
  rw [if_neg hne, if_neg hno]
  by_cases hd : e.state = .dirty
  · by_cases hw : dwell ≤ e.run + 1
    · simp only [if_pos hd, if_pos hw, if_pos (And.intro hd hw)]
    · simp only [if_pos hd, if_neg hw, if_neg fun x : _ ∧ _ => hw x.2]
  · simp only [if_neg hd, if_neg fun x : e.state = .dirty ∧ _ => hd x.1]
theorem highest_mem {ls : List Nat} (h : ls ≠ []) : highest ls ∈ ls := by
  obtain ⟨hle, hleast⟩ := highest_spec ls
  obtain ⟨l, hl⟩ := List.exists_mem_of_ne_nil ls h
  by_contra hno
  have hlt : ∀ m ∈ ls, m < highest ls := fun m hm => lt_of_le_of_ne (hle m hm) fun he => hno (he ▸ hm)
  have hpred := hleast (highest ls - 1) fun m hm => Nat.le_pred_of_lt (hlt m hm)
  have hpos := hlt l hl
  omega
end

/-! ## Return watches (R116, R117) -/

section
variable {c : Chan} {xs : List (Nat × Nat)} {w : ReturnWatch} {s : State}

theorem sweepReturn_none (h : (s.chan c).returnWatch = none) : sweepReturn c xs s = s := by
  simp only [sweepReturn, h]
theorem sweepReturn_uncovered (h : (s.chan c).returnWatch = some w) (hno : covered xs w.freq 1 = []) :
    sweepReturn c xs s = s := by
  simp only [sweepReturn, h, if_pos hno]
theorem sweepReturn_dirty (h : (s.chan c).returnWatch = some w)
    (hy : ∃ l ∈ covered xs w.freq 1, (s.opts[s.groupOf c]).floor ≤ l) : sweepReturn c xs s =
      dropReturn c (s.setChan c { s.chan c with returnWatch := some { w with run := 0 } }) := by
  have hne : covered xs w.freq 1 ≠ [] := fun h0 => by rw [h0] at hy; obtain ⟨l, hl, _⟩ := hy; cases hl
  have hzero : s.modChan c ChanRec.zeroReturn = s.setChan c { s.chan c with returnWatch := some { w with run := 0 } } := by
    rw [State.modChan, ChanRec.zeroReturn, h]; rfl
  simp only [sweepReturn, h, if_neg hne, if_pos ((any_floor_iff _ (s.opt (s.groupOf c)).floor).mpr hy), hzero]
theorem sweepReturn_clean (h : (s.chan c).returnWatch = some w) (hne : covered xs w.freq 1 ≠ [])
    (hlt : ∀ l ∈ covered xs w.freq 1, l < (s.opts[s.groupOf c]).floor) : sweepReturn c xs s =
      let n := if w.run = w.dwell then w.dwell else w.run + 1
      let t := s.setChan c { s.chan c with returnWatch := some { w with run := n } }
      if n = w.dwell then joinReturn c t else t := by
  have hno : ¬ ((covered xs w.freq 1).any fun l => decide ((s.opt (s.groupOf c)).floor ≤ l)) = true := fun hy => by
    obtain ⟨l, hl, hf⟩ := (any_floor_iff _ _).mp hy
    exact absurd (hlt l hl) (Nat.not_lt.mpr hf)
  have hn : (if w.run = w.dwell then w.run else w.run + 1) = if w.run = w.dwell then w.dwell else w.run + 1 := by
    by_cases hw : w.run = w.dwell
    · rw [if_pos hw, if_pos hw, hw]
    · rw [if_neg hw, if_neg hw]
  simp only [sweepReturn, h, if_neg hne, if_neg hno, hn]
  rfl
theorem joinReturn_eq (t : State) : joinReturn c t =
    if t.movable c = true ∧ t.entryOf c = none ∧ t.itemOf c = none
      then { t with backlog := t.backlog ++ [⟨c, .ret, t.now, false⟩] } else t := by
  unfold joinReturn
  exact ite_congr (propext (by simp [and_assoc])) (fun _ => rfl) fun _ => rfl

/-! ## Pending targets (R114, R135, R145) -/

theorem sweepSpoil_of_low (h : ∀ f, (s.chan c).state = .moving → (s.chan c).pending = some f →
    ∀ l ∈ covered xs f 1, l < (s.opts[s.groupOf c]).floor) : sweepSpoil c xs s = s := by
  unfold sweepSpoil
  dsimp only
  split
  next f hs hp =>
    refine if_neg fun hy => ?_
    obtain ⟨l, hl, hf⟩ := (any_floor_iff _ _).mp hy
    exact absurd (h f hs hp l hl) (Nat.not_lt.mpr hf)
  · rfl
theorem sweepSpoil_of_high {f l : Nat} (hs : (s.chan c).state = .moving) (hp : (s.chan c).pending = some f)
    (hf : (s.opts[s.groupOf c]).floor ≤ l) (hl : l ∈ covered xs f 1)
    (hmax : ∀ m ∈ covered xs f 1, (s.opts[s.groupOf c]).floor ≤ m → m ≤ l) : sweepSpoil c xs s = spoil c f l s := by
  have hhigh : highest (covered xs f 1) = l := highest_eq hl fun m hm =>
    (le_total (s.opts[s.groupOf c]).floor m).elim (hmax m hm) fun h => h.trans hf
  have hany : ((covered xs f 1).any fun l => decide ((s.opt (s.groupOf c)).floor ≤ l)) = true :=
    (any_floor_iff _ _).mpr ⟨l, hl, hf⟩
  simp only [sweepSpoil, hs, hp, if_pos hany, hhigh]
end

section
variable {c : Chan} {f l : Nat} {e : Entry} {s : State}

theorem spoil_proposed (he : s.entryOf c = some e) (hs : e.state = .proposed) : spoil c f l s = spoilProposed e f l s := by
  simp only [spoil, he, hs]
/-- The entry of a spoiled proposal, searching again (R145). -/
def Entry.opened (e : Entry) : Entry := { e with state := .searching, target := none, propDl := none, fromPool := false }
/-- The state in which the search of a spoiled proposal goes on (R135, R145). -/
def spoiledState (e : Entry) (f l : Nat) (s : State) : State :=
  if e.fromPool then appendPool ((searchAgain e s).groupOf e.chan) f .dirty (some l) (searchAgain e s) else searchAgain e s
theorem spoilProposed_resumes (ho : e.origin = .auto) : spoilProposed e f l s =
    if 16 ≤ e.search.spoiled.length then noCandidate e.chan e.search (spoiledState e f l s)
    else
      let z := searchNext e.chan { e.search with spoiled := e.search.spoiled ++ [f] } (spoiledState e f l s)
      askSearch e.chan z.1 z.2 := spoilProposed_auto ho f l s
theorem appendPool_eq (g : Group) (f : Nat) (st : PoolState) (level : Option Nat) (s : State) : appendPool g f st level s =
    { s with pools := if (s.pool g).length < 16 ∧ (∀ x ∈ s.pool g, x.freq ≠ f) ∧ s.occupiedIn g f = false
        then s.pools.set g (s.pool g ++ [⟨f, st, 0, level, false⟩]) else s.pools } := by
  unfold appendPool
  by_cases h : (s.pool g).length < 16 ∧ (∀ x ∈ s.pool g, x.freq ≠ f) ∧ s.occupiedIn g f = false
  · rw [if_pos h, if_pos (by simpa [and_assoc] using h)]; rfl
  · rw [if_neg h, if_neg (by simpa [and_assoc] using h)]
/-- The spoiled target goes back to its pool as DIRTY, where it came from one that takes it. -/
theorem spoiledState_eq {told : State} (ht : notifyExpired e .spoiled (release e.chan s) = told) : spoiledState e f l s =
    { told with
      table := s.table.map fun x => if x.chan = e.chan then e.opened else x
      pools := if e.fromPool = true ∧ (s.pool (s.groupOf e.chan)).length < 16 ∧ (∀ x ∈ s.pool (s.groupOf e.chan), x.freq ≠ f)
          ∧ told.occupiedIn (s.groupOf e.chan) f = false
        then s.pools.set (s.groupOf e.chan) (s.pool (s.groupOf e.chan) ++ [⟨f, .dirty, 0, some l, false⟩]) else s.pools } := by
  have htable : told.table = s.table := by rw [← ht, notifyExpired, notifyChan_table]; rfl
  have hpools : told.pools = s.pools := by rw [← ht, notifyExpired, notifyChan_pools]; rfl
  have hgroup : told.groupOf e.chan = s.groupOf e.chan := by
    rw [State.groupOf, State.groupOf, ← ht, notifyExpired, notifyChan_couple]; rfl
  have hpool : told.pool (s.groupOf e.chan) = s.pool (s.groupOf e.chan) := by rw [State.pool, hpools]; rfl
  have hagain : searchAgain e s = { told with table := s.table.map fun x => if x.chan = e.chan then e.opened else x } := by
    rw [searchAgain, ht, State.putEntry, htable]; rfl
  obtain ⟨u, hu⟩ : ∃ u, u = ({ told with table := s.table.map fun x => if x.chan = e.chan then e.opened else x } : State) :=
    ⟨_, rfl⟩
  have hugroup : u.groupOf e.chan = s.groupOf e.chan := by rw [hu]; exact hgroup
  have hupool : u.pool (s.groupOf e.chan) = s.pool (s.groupOf e.chan) := by rw [hu]; exact hpool
  have hupools : u.pools = s.pools := by rw [hu]; exact hpools
  have huocc : u.occupiedIn (s.groupOf e.chan) f = told.occupiedIn (s.groupOf e.chan) f := by rw [hu]; rfl
  unfold spoiledState
  rw [hagain, ← hu]
  by_cases hfrom : e.fromPool = true
  · rw [if_pos hfrom, appendPool_eq, hugroup, hupool, hupools, huocc, hu]
    simp only [hfrom, true_and]
  · rw [if_neg hfrom, if_neg fun h => hfrom h.1, ← hupools, hu]
end

/-- Settles O39: the samples, the order of a frame's readers, and each reader's rule. -/
theorem sweepsJudgePoolsAndReturns : Obligations.SweepsJudgePoolsAndReturns := by
  refine ⟨samplesOf_eq, fun z d s hd hv => ?standing, fun z d v s hv => ?survey, fun z d s hd hv => ?idle,
    fun floor dwell xs e => ?pool, fun c xs w s hw => ?ret, fun c xs s => ?spoilt, fun c f l s => ?spoil⟩
  case standing =>
    rw [readPassing_sweep, readSweep, hv, hd]; rfl
  case survey =>
    rw [readPassing_sweep, readSweep, hv]
    exact congrArg (finish s) (surveyFrame_eq hv _ _)
  case idle => rw [readPassing_sweep, readSweep, hv, hd]; rfl
  case pool =>
    intro ls e'
    refine ⟨sweep_uncovered, fun h => ?_, fun hne h => ?_, fun hne => ⟨highest ls, highest_mem hne, ?_, (highest_spec ls).1⟩⟩
    · dsimp only [e']
      rw [sweep_dirty h]
    · dsimp only [e']
      rw [sweep_clean hne h]
    · dsimp only [e']
      by_cases h : ∃ l ∈ ls, floor ≤ l
      · exact congrArg PoolEntry.level (sweep_dirty h)
      · exact congrArg PoolEntry.level (sweep_clean hne fun l hl => Nat.lt_of_not_le fun hf => h ⟨l, hl, hf⟩)
  case ret =>
    intro ls floor runs
    refine ⟨sweepReturn_uncovered hw, fun h => sweepReturn_dirty hw h, fun hne h => ?_⟩
    intro n
    have hclean : sweepReturn c xs s = if n = w.dwell then joinReturn c (runs n) else runs n := sweepReturn_clean hw hne h
    have hmovable : (runs n).movable c = s.movable c := by
      have hc : (runs n).chan c = { s.chan c with returnWatch := some { w with run := n } } := chan_setChan_same ..
      rw [State.movable, hc]; rfl
    rw [hclean]
    clear_value n
    by_cases hd : n = w.dwell
    · rw [if_pos hd, joinReturn_eq, hmovable]
      exact ite_congr (propext ⟨fun h => ⟨hd, h⟩, And.right⟩) (fun _ => rfl) fun _ => rfl
    · rw [if_neg hd, if_neg fun h : n = w.dwell ∧ _ => hd h.1]
  case spoilt =>
    intro r floor high
    refine ⟨sweepReturn_none, fun h => sweepSpoil_of_low fun f hs hp l hl => ?_, fun f l hs hp hf hmax => ?_⟩
    · exact Nat.lt_of_not_le fun hle => h f hs hp l ⟨hle, mem_covered.mp hl⟩
    · exact sweepSpoil_of_high hs hp hf.1 (mem_covered.mpr hf.2) fun m hm hle => hmax m ⟨hle, mem_covered.mp hm⟩
  case spoil =>
    intro g
    refine ⟨fun h => by simp only [spoil, h], fun e he => ?_⟩
    obtain rfl : e.chan = c := entryOf_chan he
    intro put told opened n
    have htold : notifyExpired e .spoiled (release e.chan s) = told := rfl
    have hstate : spoiledState e f l s = n := by
      rw [spoiledState_eq htold]
      rfl
    have hengine : told.engine = s.engine := by dsimp only [told]; rw [notifyChan_engine]; rfl
    refine ⟨fun hs => by simp only [spoil, he, hs], fun hs => ?_, fun hs ho => ?_, fun hs ho h16 => ?_, fun hs ho h16 => ?_⟩
    · have hput : spoil e.chan f l s = s.putEntry { e with spoil := true } := by
        rcases hs with hs | hs
        · simp only [spoil, he, hs]
        · simp only [spoil, he, hs]
      exact hput
    · rw [spoil_proposed he hs, spoilProposed_other ho]; rfl
    · rw [spoil_proposed he hs, spoilProposed_resumes ho, if_pos h16, hstate]
    · rw [spoil_proposed he hs, spoilProposed_resumes ho, if_neg (Nat.not_le.mpr h16), hstate]
      dsimp only
      have hkeep := searchNext_changes_pools e.chan { e.search with spoiled := e.search.spoiled ++ [f] } n
      generalize searchNext e.chan { e.search with spoiled := e.search.spoiled ++ [f] } n = z at hkeep ⊢
      obtain ⟨st, t⟩ := z
      dsimp only at hkeep
      have htable : t.table = s.table.map fun x => if x.chan = e.chan then e.opened else x := by rw [hkeep]; rfl
      have hengine : t.engine = s.engine := by rw [hkeep]; exact hengine
      have hent : t.entryOf e.chan = some e.opened := by
        have hsame : (s.putEntry e.opened).entryOf e.chan = some e.opened := entryOf_putEntry_same he rfl
        rw [State.entryOf, htable]; exact hsame
      cases st with
      | more w q =>
        have hput : t.putEntry { e.opened with search := q } = put (fun e => { opened e with search := q }) t := by
          have h := congrArg State.table (putEntry_putEntry s (e := e.opened) (x := { e.opened with search := q }) rfl)
          rw [State.putEntry, htable]
          exact congrArg (fun tb => { t with table := tb }) h
        rw [askSearch_more hent, hput, joinMove, show (put (fun e => { opened e with search := q }) t).engine = s.engine
          from hengine]
      | empty q => exact askSearch_empty hent q
      | found f m b q => exact askSearch_found ..

end Sys2Proof.Machine
end

section
/-! Reports, tune reports and capability entries, read for their receiver (R66, R67, R70, R75, R89, R92, R93, R147 to R150). -/

namespace Sys2Proof.Machine

/-! ## What a rack's frame is read as (R66) -/

section
variable (z : Stage) (u : Fin 4)

theorem readPassing_telemetry (xs : List Report) (s : State) :
    readPassing z ⟨byteOf z.val, byteOf u.val⟩ (.telemetry xs) s = readTelemetry z u xs s := by
  unfold readPassing
  rw [rackOf_rack]
theorem readPassing_capability (es : List CapReport) (s : State) :
    readPassing z ⟨byteOf z.val, byteOf u.val⟩ (.capability es) s = finish s (readCapability z u es s) := by
  unfold readPassing
  rw [rackOf_rack]
  exact rfl
theorem readPassing_tuneReport (d : TuneReportData) (s : State) :
    readPassing z ⟨byteOf z.val, byteOf u.val⟩ (.tuneReport d) s = finish s (readTuneReport z u d s) := by
  unfold readPassing
  rw [rackOf_rack]
  exact rfl
theorem readTelemetry_skipped {x : Report} (h : 7 < x.receiver ∨ 8191 < x.tuned) (s : State) :
    readTelemetry z u [x] s = s := by
  simp only [readTelemetry, List.foldl_cons, List.foldl_nil]
  by_cases hr : x.receiver < 8
  · have ht : offGrid x.tuned = true := decide_eq_true (h.resolve_left (by omega))
    rw [dif_pos hr, if_pos ht]
  · rw [dif_neg hr]
theorem readTelemetry_one {x : Report} {n : Nat} (hn : n < 8) (hx : x.receiver = n) (ht : x.tuned ≤ 8191) (s : State) :
    readTelemetry z u [x] s = finish s (channelReport (rackChan z u n hn) x s) := by
  subst hx
  have hgrid : ¬ offGrid x.tuned = true := fun h => absurd (of_decide_eq_true h) (Nat.not_lt.mpr ht)
  simp only [readTelemetry, List.foldl_cons, List.foldl_nil]
  rw [dif_pos hn, if_neg hgrid, change]
end

/-! ## One report (R67, R149, R150) -/

/-- The state in which a report has become the last one of its channel. -/
def reported (c : Chan) (x : Report) (s : State) : State :=
  s.setChan c { s.chan c with lastReport := some ⟨x.tuned, min x.level 100, x.pilot, x.squelch, x.busy, s.now⟩ }
theorem chan_reported (c : Chan) (x : Report) (s : State) : (reported c x s).chan c =
    { s.chan c with lastReport := some ⟨x.tuned, min x.level 100, x.pilot, x.squelch, x.busy, s.now⟩ } :=
  chan_setChan_same s c _
theorem channelReport_eq (c : Chan) (x : Report) (s : State) :
    channelReport c x s = if x.busy = true then reported c x s else clearReport c x (reported c x s) := rfl

section
variable {c : Chan} {x : Report} {s : State}

theorem clearReport_dark (h : (s.chan c).state = .dark) : clearReport c x s = resolveDark c x.tuned s := if_pos h
theorem clearReport_locking {e : Entry} (h : (s.chan c).state ≠ .dark) (he : s.entryOf c = some e) (hl : e.state = .locking) :
    clearReport c x s = if e.target = some x.tuned then moveDone e s
      else if e.origin = .passed ∨ 3 ≤ e.attempts then moveFail e .wrongFrequency none s
      else if e.spoil = true then moveFail e .spoiled none s else sendEntry c s := by
  have hf : (s.entryOf c).filter (fun e => e.state = .locking) = some e := by rw [he]; simp [hl]
  unfold clearReport
  dsimp only
  rw [if_neg h, hf, ← entryOf_chan he]; rfl
theorem clearReport_settled (h : (s.chan c).state ≠ .dark) (hno : ∀ e, s.entryOf c = some e → e.state ≠ .locking) :
    clearReport c x s =
      if s.noteIs c x.tuned then evaluate c (reportEvidence (min x.level 100) x.dropouts x.pilot) (fulfil c x.tuned s)
      else if s.isOffPlan c x.tuned then adoptOffPlan c x.tuned s
      else evaluate c (reportEvidence (min x.level 100) x.dropouts x.pilot) s := by
  have hf : (s.entryOf c).filter (fun e => e.state = .locking) = none := by
    rw [Option.filter_eq_none_iff]
    intro e he
    simpa using hno e he
  unfold clearReport
  dsimp only
  rw [if_neg h, hf]; rfl
theorem noteIs_iff (f : Nat) : s.noteIs c f = true ↔ ∃ k, s.noteOf c = some k ∧ k.target = f := by
  unfold State.noteIs
  cases s.noteOf c <;> simp
theorem isOffPlan_iff (f : Nat) : s.isOffPlan c f = true ↔
    ((s.chan c).state = .active ∨ (s.chan c).state = .held) ∧ s.entryOf c = none ∧ (s.chan c).assigned ≠ some f := by
  simp [State.isOffPlan, and_assoc]
theorem dropNote_of_none (h : s.noteOf c = none) : s.dropNote c = s := by
  have hnotes : (s.notes.filter fun n => n.chan ≠ c) = s.notes :=
    List.filter_eq_self.mpr fun n hn => by simpa using (List.find?_eq_none.mp h) n hn
  rw [State.dropNote, hnotes]
end

/-! ## DARK resolution (R75) -/

section
variable {c : Chan} {f : Nat} {s : State}

theorem resolveSame_record (hd : (s.chan c).state = .dark) : (resolveSame c s).chan c = { s.chan c with
      pending := none, darkFrom := none
      state := if (s.chan c).darkFrom = some .held then .held else .active
      watch := ⟨if s.liveProfile (s.chan c).profile = true then .armed else .off, 0, 0, none⟩
      exclConflict := ((resolveSame c s).conflictOf c).isSome }
    ∧ (∀ d, d ≠ c → (resolveSame c s).chan d = s.chan d)
    ∧ resolveSame c s = { s with chans := (resolveSame c s).chans } := by
  obtain ⟨hsame, hother⟩ := alone_release c s
  have hc : (resolveSame c s).chan c = ((release c s).chan c).relit (s.freshWatch ((release c s).chan c).profile) := by
    rw [resolveSame_eq, chan_modChan, if_pos rfl]
  have hocc : ((resolveSame c s).chan c).occupied = ((release c s).chan c).occupied := by rw [hc]; rfl
  have hconf : (resolveSame c s).conflictOf c = (release c s).conflictOf c := conflictOf_congr hocc rfl rfl rfl
  refine ⟨?_, fun d hne => ?_, rfl⟩
  · rw [hc, hconf, hsame, release_dark hd, freshWatch_eq]; rfl
  · rw [resolveSame_eq, chan_modChan, if_neg hne, hother d hne]
theorem resolvePending_eq : resolvePending c f s =
    let t := complete c f false s
    notifyChan .moved c ([255#8] ++ o16 (s.chan c).assigned ++ be16 f ++ [255#8, 0#8, 0#8, 255#8, 255#8])
      { t.setChan c { t.chan c with
          settle := none, returnWatch := none
          watch := ⟨if s.liveProfile (s.chan c).profile = true then .armed else .off, 0, 0, none⟩ } with
        pools := recycledPools c (s.chan c).assigned .passed t } := by
  have hprofile : ((complete c f false s).chan c).profile = (s.chan c).profile := by
    obtain ⟨h, -⟩ := alone_complete c f false s
    rw [h]
    unfold ChanRec.complete ChanRec.forward
    cases (s.chan c).assigned <;> rfl
  have hlive : (complete c f false s).liveProfile = s.liveProfile := rfl
  unfold resolvePending
  dsimp only
  rw [recycle_eq_pools]
  generalize recycledPools c (s.chan c).assigned .passed (complete c f false s) = ps
  have hrec : State.modChan { complete c f false s with pools := ps } c (fun r => { r with
        settle := none, returnWatch := none
        watch := State.freshWatch { complete c f false s with pools := ps } r.profile })
      = { (complete c f false s).setChan c { (complete c f false s).chan c with
          settle := none, returnWatch := none
          watch := ⟨if s.liveProfile (s.chan c).profile = true then .armed else .off, 0, 0, none⟩ } with pools := ps } := by
    rw [← hprofile, ← hlive, ← freshWatch_eq]; rfl
  rw [hrec]; rfl
theorem resolveDark_same (h : (s.chan c).assigned = some f) : resolveDark c f s = tryStart c.stage (resolveSame c s) := if_pos h
theorem resolveDark_pending (h : (s.chan c).assigned ≠ some f) (hp : (s.chan c).pending = some f) :
    resolveDark c f s = tryStart c.stage (resolvePending c f s) := (if_neg h).trans (if_pos hp)
theorem resolveDark_third (h : (s.chan c).assigned ≠ some f) (hp : (s.chan c).pending ≠ some f) :
    resolveDark c f s = startAdopted c s (resolveThird c f s) := (if_neg h).trans (if_neg hp)
theorem startAdopted_eq (c : Chan) (s0 s : State) : startAdopted c s0 s =
    if (s0.chan c).exclConflict = false ∧ (s.chan c).exclConflict = true
        ∧ ((tryStart c.stage s).chan c).exclConflict = false
      then tryStart c.stage (notifyConflict c s) else tryStart c.stage s := by
  unfold startAdopted
  exact ite_congr (propext (by simp [and_assoc])) (fun _ => rfl) fun _ => rfl
end

end Sys2Proof.Machine
end

section
/-! Tune reports and capability entries (R66, R70, R89, R140, R147, R148). -/

namespace Sys2Proof.Machine

/-! ## Tune reports (R89, R147, R148) -/

theorem fulfil_eq (c : Chan) (f : Nat) (s : State) : fulfil c f s =
    if (s.chan c).settled = true ∧ s.entryOf c = none ∧ (s.chan c).assigned ≠ some f
      then queuePost c f .track (adopt c f .track (s.dropNote c)) else s.dropNote c := by
  unfold fulfil
  exact ite_congr (propext (by simp [and_assoc])) (fun _ => rfl) fun _ => rfl
theorem noteReport_of_other {c : Chan} {f : Nat} {s : State} (h : ∀ k, s.noteOf c = some k → k.target ≠ f) (v : Nat) :
    noteReport c f v s = s :=
  if_neg fun hy => by
    obtain ⟨k, hk, ht⟩ := (noteIs_iff f).mp hy
    exact h k hk ht
theorem noteReport_of_note {c : Chan} {f : Nat} {s : State} {k : TrackNote} (h : s.noteOf c = some k) (ht : k.target = f) (v : Nat) :
    noteReport c f v s = if v = 0 then fulfil c f s else s.dropNote c :=
  if_pos ((noteIs_iff f).mpr ⟨k, h, ht⟩)
theorem entryReport_of_sent {c : Chan} {f : Nat} {s : State} {e : Entry} (he : s.entryOf c = some e) (hs : e.state = .sent)
    (ht : e.target = some f) (v x : Nat) : entryReport c f v x s =
      if v = 0 then s.putEntry { e with state := .locking, replyDl := none, lockDl := some (s.now + 2000) }
      else sendEnded e (some x) s := by
  simp only [entryReport, he, if_pos (And.intro hs ht)]
theorem entryReport_of_other {c : Chan} {f : Nat} {s : State} (h : ∀ e, s.entryOf c = some e → e.state ≠ .sent ∨ e.target ≠ some f)
    (v x : Nat) : entryReport c f v x s = s := by
  unfold entryReport
  split
  next e he => exact if_neg fun hy => (h e he).elim (fun g => g hy.1) fun g => g hy.2
  · rfl
theorem notes_sendEntry (c : Chan) (s : State) : (sendEntry c s).notes = s.notes := by
  cases he : s.entryOf c with
  | none => rw [sendEntry_none he]
  | some e =>
    rcases sendEntry_some he with heq | ⟨t, heq⟩
    · rw [heq]; rfl
    · rw [heq, sendTune_eq]; rfl
theorem notes_moveFail (e : Entry) (why : EndReason) (rack : Option Nat) (s : State) : (moveFail e why rack s).notes = s.notes := by
  have hdouble : ∀ t, (doubleFault e.chan t).notes = t.notes := fun t => by rw [doubleFault_eq, notifyChan_notes]; rfl
  rw [moveFail_laid]
  dsimp only
  rw [notifyChan_notes]
  dsimp only
  split
  · split
    · exact hdouble _
    · rfl
  · split
    · exact hdouble _
    · rfl
theorem sendEnded_rejected (e : Entry) (x : Nat) (s : State) : sendEnded e (some x) s =
    if e.origin = .passed ∨ 3 ≤ e.attempts then moveFail e .rackRejected (some x) s
    else if e.spoil = true then moveFail e .spoiled none s else sendEntry e.chan s := rfl
theorem notes_sendEnded (e : Entry) (x : Nat) (s : State) : (sendEnded e (some x) s).notes = s.notes := by
  rw [sendEnded_rejected]
  split
  · exact notes_moveFail ..
  · split
    · exact notes_moveFail ..
    · exact notes_sendEntry ..
theorem readTuneReport_eq (z : Stage) (u : Fin 4) {n : Nat} (hn : n < 8) (f v x y : Nat) (s : State) :
    readTuneReport z u ⟨n, f, v, x, y⟩ s = noteReport (rackChan z u n hn) f v (entryReport (rackChan z u n hn) f v x s) :=
  dif_pos hn

/-! ## Capability entries (R70, R140) -/

/-- A notice leaves the stages' ports as they are: it goes to the trunk. -/
theorem notify_changes_trunk (k : NoticeKind) (a b : Nat) (x : List Byte) (s : State) : notify k a b x s =
    { s with
      trunk := (notify k a b x s).trunk, trunkDiscards := (notify k a b x s).trunkDiscards
      originSeq := (notify k a b x s).originSeq, latches := (notify k a b x s).latches } := by
  unfold notify
  dsimp only
  split
  · unfold originate route
    rw [show portOfZone stationAddr.zone = some .trunk from portOfZone_station]
    dsimp only
    unfold handTo
    split <;> rfl
  · rfl
theorem contains_eq (k : Cap) (f : Nat) :
    k.contains f = (k.fitted && decide (k.low ≤ f ∧ f ≤ k.high ∧ f % k.step = 0)) := by
  simp only [Cap.contains, Bool.decide_and, Bool.and_assoc]
/-- What an entry says of its receiver, where its fitted byte is 0 or 1. -/
def capCarried (e : CapReport) : Cap := ⟨decide (e.fitted = 1), e.low, e.high, e.step⟩
/-- The entry is skipped (R70). -/
def capSkipped (e : CapReport) : Bool := decide (7 < e.receiver ∨ (e.fitted = 1 ∧
  (¬ (e.step = 1 ∨ e.step = 2 ∨ e.step = 4) ∨ 8191 < e.low ∨ 8191 < e.high)))
theorem fittedOf_eq {n : Nat} (h : n ≤ 1) : fittedOf n = decide (n = 1) := by
  have h2 : decide (2 ≤ n) = false := decide_eq_false (by omega)
  rw [fittedOf, h2, Bool.false_and, Bool.or_false]
theorem recordable_eq {e : CapReport} (h : e.fitted ≤ 1) : recordable e = !capSkipped e := by
  rw [Bool.eq_iff_iff, recordable, fittedOf_eq h, capSkipped]
  by_cases hf : e.fitted = 1
  · simp [hf, and_assoc, or_assoc]
  · simp [hf]
/-- The channel an entry is about; for one that is not skipped, that of its receiver. -/
def capPosition (z : Stage) (u : Fin 4) (e : CapReport) : Chan := rackChan z u (e.receiver % 8) (Nat.mod_lt _ (by decide))
theorem rackChan_eq_position (z : Stage) (u : Fin 4) {e : CapReport} (h : e.receiver < 8) :
    rackChan z u e.receiver h = capPosition z u e := by
  have hmod : e.receiver % 8 = e.receiver := Nat.mod_eq_of_lt h
  simp only [capPosition, hmod]
/-- A state after an entry is stored, before its notice (R70, R140). -/
def capStored (c : Chan) (e : CapReport) (s : State) : State :=
  { s.setCap c (some (capCarried e)) with
    backlog := s.backlog.filter fun i => e.fitted = 1 || i.chan ≠ c || i.want = .push }
theorem recordCap_eq (c : Chan) {e : CapReport} (h : e.fitted ≤ 1) (s : State) : recordCap c e s =
    match (s.chan c).assigned with
    | some f => if (capCarried e).contains f = false ∧ (match s.cap c with
          | some k => k.contains f
          | none => true) = true
      then notifyChan .offPlan c ([2#8] ++ be16 f ++ be16 e.low ++ be16 e.high) (capStored c e s) else capStored c e s
    | none => capStored c e s := by
  have hcap : (⟨fittedOf e.fitted, e.low, e.high, e.step⟩ : Cap) = capCarried e := by rw [fittedOf_eq h]; rfl
  have hstore : dropUnfitted c (s.setCap c (some (capCarried e))) = capStored c e s := by
    have hfit : (s.setCap c (some (capCarried e))).fitted c = decide (e.fitted = 1) := by
      rw [State.fitted, cap_setCap, if_pos rfl]; rfl
    unfold dropUnfitted capStored
    by_cases hf : e.fitted = 1
    · have hall : (s.backlog.filter fun i => e.fitted = 1 || i.chan ≠ c || i.want = .push) = s.backlog :=
        List.filter_eq_self.mpr fun i _ => by simp [hf]
      rw [hfit, if_pos (decide_eq_true hf), hall]; rfl
    · rw [hfit, if_neg (by simpa using hf)]
      have hsome : (s.backlog.filter fun i => e.fitted = 1 || i.chan ≠ c || i.want = .push)
          = s.backlog.filter fun i => !(i.chan = c && i.want ≠ .push) :=
        List.filter_congr fun i _ => by simp [hf]
      rw [hsome]; rfl
  unfold recordCap
  dsimp only
  rw [hcap, hstore, show ((capStored c e s).chan c).assigned = (s.chan c).assigned from rfl]
  cases (s.chan c).assigned with
  | none => rfl
  | some f =>
    dsimp only
    refine ite_congr (propext ?_) (fun _ => rfl) fun _ => rfl
    rw [Bool.and_eq_true, Bool.not_eq_true'] <;> rfl
theorem readCapability_eq (z : Stage) (u : Fin 4) {es : List CapReport} (h : ∀ e ∈ es, e.fitted ≤ 1) (s : State) :
    readCapability z u es s =
      (es.filter fun e => !capSkipped e).foldl (fun t e => recordCap (capPosition z u e) e t) s := by
  unfold readCapability
  induction es generalizing s with
  | nil => rfl
  | cons e es ih =>
    obtain ⟨he, hes⟩ := List.forall_mem_cons.mp h
    rw [List.foldl_cons, ih hes]
    by_cases hs : capSkipped e = true
    · rw [List.filter_cons_of_neg (by simp [hs])]
      refine congrArg (List.foldl _ · _) ?_
      split
      · rw [if_neg (by rw [recordable_eq he, hs]; decide)]
      · rfl
    · have hr : e.receiver < 8 := by
        by_contra hno
        exact hs (decide_eq_true (.inl (by omega)))
      rw [List.filter_cons_of_pos (by simpa using hs), List.foldl_cons, dif_pos hr,
        if_pos (by rw [recordable_eq he]; simpa using hs), rackChan_eq_position]
/-- What recording an entry can change: its receiver's entry, the backlog, and what its notice writes. -/
theorem recordCap_changes (c : Chan) {e : CapReport} (h : e.fitted ≤ 1) (s : State) : recordCap c e s =
    { s with
      caps := (s.setCap c (some (capCarried e))).caps
      backlog := s.backlog.filter fun i => e.fitted = 1 || i.chan ≠ c || i.want = .push
      latches := (recordCap c e s).latches, originSeq := (recordCap c e s).originSeq, trunk := (recordCap c e s).trunk
      trunkDiscards := (recordCap c e s).trunkDiscards } := by
  rw [recordCap_eq c h]
  cases (s.chan c).assigned with
  | none => rfl
  | some f =>
    dsimp only
    split_ifs
    · unfold notifyChan
      rw [notify_changes_trunk]; rfl
    · rfl
/-- The entries of a frame, recorded in turn: the last one of a receiver stands, and one that is not fitted has ended its
receiver's item. -/
theorem recordCaps (z : Stage) (u : Fin 4) {es : List CapReport} (h : ∀ e ∈ es, e.fitted ≤ 1) (s : State) :
    let t := es.foldl (fun t e => recordCap (capPosition z u e) e t) s
    (∀ d, t.cap d = match (es.filter fun e => capPosition z u e = d).getLast? with
      | some e => some (capCarried e)
      | none => s.cap d)
    ∧ t.backlog = (s.backlog.filter fun i => i.want = .push || !es.any fun e =>
        decide (e.fitted = 0 ∧ capPosition z u e = i.chan))
    ∧ t = { s with
      caps := t.caps, backlog := t.backlog, latches := t.latches, originSeq := t.originSeq, trunk := t.trunk
      trunkDiscards := t.trunkDiscards } := by
  induction es using List.reverseRecOn with
  | nil => exact ⟨fun _ => rfl, (List.filter_eq_self.mpr fun i _ => by simp).symm, rfl⟩
  | append_singleton es e ih =>
    obtain ⟨hes, he⟩ : (∀ e ∈ es, e.fitted ≤ 1) ∧ e.fitted ≤ 1 := by simpa [or_imp, forall_and] using h
    obtain ⟨hcap, hback, hkeep⟩ := ih hes
    rw [List.foldl_append, List.foldl_cons, List.foldl_nil]
    generalize es.foldl (fun t e => recordCap (capPosition z u e) e t) s = v at hcap hback hkeep ⊢
    have hch := recordCap_changes (capPosition z u e) he v
    dsimp only
    generalize recordCap (capPosition z u e) e v = t at hch ⊢
    refine ⟨fun d => ?_, ?_, ?_⟩
    · have htcap : t.cap d = if d = capPosition z u e then some (capCarried e) else v.cap d := by
        rw [← cap_setCap, hch]; rfl
      rw [htcap, List.filter_append]
      by_cases hd : capPosition z u e = d
      · rw [if_pos hd.symm, List.filter_cons_of_pos (by simpa using hd)]; simp
      · rw [if_neg (Ne.symm hd), List.filter_cons_of_neg (by simpa using hd), hcap d]; simp
    · have htback : t.backlog = v.backlog.filter fun i => e.fitted = 1 || i.chan ≠ capPosition z u e || i.want = .push := by
        rw [hch]
      rw [htback, hback, List.filter_filter]
      refine List.filter_congr fun i _ => ?_
      rw [List.any_append]
      have hzero : e.fitted = 0 ↔ ¬ e.fitted = 1 := by omega
      by_cases hp : i.want = .push
      · simp [hp]
      · by_cases hf : e.fitted = 1
        · simp [hp, hf]
        · by_cases hc : capPosition z u e = i.chan
          · simp [hp, hzero, hf, hc]
          · simp [hp, hf, hc, Ne.symm hc]
    · rw [hch, hkeep]

end Sys2Proof.Machine
end

section
/-! What a rack's frames say of its receiver (R66, R67, R70, R75, R89, R92, R93, R147 to R150). -/

namespace Sys2Proof.Machine

/-! ## Frames for the device itself (R65, R66) -/

/-- The source is one that R66 reads for the payload. -/
def readable (p : Payload) (src : Addr) : Bool :=
  match p with
  | .telemetry _ | .capability _ | .tuneReport _ => decide (src.unit.toNat < 4)
  | .sweep _ => decide (src.unit.toNat = 4)
  | _ => false
theorem readableKind_chain {i : Instr} {h : FrameHdr} {p : Payload} (e : chainOf i = some (h, p)) (src : Addr) :
    readableKind (chainFrame h p).kind src = readable p src := by
  have hrack : (rackOf src).isSome = decide (src.unit.toNat < 4) := by
    unfold rackOf
    split
    next hu => rw [decide_eq_true hu]; rfl
    next hu => rw [decide_eq_false hu]; rfl
  cases i <;> simp only [chainOf, Option.some.injEq, Prod.mk.injEq, reduceCtorEq] at e <;> obtain ⟨rfl, rfl⟩ := e <;>
    simp [readableKind, readable, chainFrame, encodePayload, kTelemetry, kCapability, kTuneReport, kSweep, kTune, hrack]
theorem kind_ne_request {i : Instr} {h : FrameHdr} {p : Payload} (e : chainOf i = some (h, p)) :
    (chainFrame h p).kind ≠ kRequest := by
  cases i <;> simp only [chainOf, Option.some.injEq, Prod.mk.injEq, reduceCtorEq] at e <;> obtain ⟨rfl, rfl⟩ := e <;>
    simp [chainFrame, encodePayload, kTelemetry, kSweep, kCapability, kTuneReport, kTune, kRequest]
theorem deliverDevice_read {dt : Nat} {q : Port} {z : Stage} {f : Frame} (hq : q = .stage z) (hk : f.kind ≠ kRequest)
    (hr : readableKind f.kind f.src = true) (pay : Payload) (s : State) :
    deliverDevice dt q f pay s = readPassing z f.src pay s := by
  subst hq
  exact (if_neg hk).trans (if_pos hr)
theorem deliverDevice_discarded {dt : Nat} {q : Port} {f : Frame} (hk : f.kind ≠ kRequest)
    (h : q = .trunk ∨ readableKind f.kind f.src = false) (pay : Payload) (s : State) :
    deliverDevice dt q f pay s = countDiscard q .misaddressed s := by
  refine (if_neg hk).trans ?_
  cases q with
  | trunk => rfl
  | stage z => exact if_neg (by rw [h.resolve_left (by simp)]; decide)
theorem exec_chain_device {i : Instr} {h : FrameHdr} {p : Payload} {s : State} (e : chainOf i = some (h, p))
    (up : (s.port h.port).up = true) (src : sourceOk h.port h.src = true) (hdst : h.dst = deviceAddr) :
    exec i s = .next (deliverDevice h.dt h.port (chainFrame h p) p (arrived h.dt h.port s)) := by
  have hzone : portOfZone (chainFrame h p).dst.zone = some .trunk := by rw [chainFrame_dst, hdst]; exact portOfZone_station
  rw [exec_chain e, chainArrival, arrive_of_up up]
  refine congrArg Host.Outcome.next ?_
  unfold deliver
  rw [hzone, chainFrame_src, src]
  exact (if_neg (by decide)).trans (if_pos hdst)

/-- Settles O38: reports, tune reports and capability entries, each by the rule of what its receiver holds. -/
theorem framesAreReadForTheirReceiver : Obligations.FramesAreReadForTheirReceiver := by
  refine ⟨fun z u n hn s => ?rack, fun i h p s e up src hdst => ?device⟩
  case device =>
    intro a readableHere
    have hkind : ∀ b, readableHere = b → readableKind (chainFrame h p).kind (chainFrame h p).src = b := fun b hb => by
      rw [chainFrame_src, readableKind_chain e]; exact hb
    rw [exec_chain_device e up src hdst]
    refine ⟨fun z hp hr => ?_, fun hno => ?_⟩
    · rw [deliverDevice_read hp (kind_ne_request e) (hkind _ hr), chainFrame_src]
    · rw [deliverDevice_discarded (kind_ne_request e) (hno.imp_right (hkind _))]
  case rack =>
    intro c g r fulfilled src
    have hone : ∀ x : Report, x.receiver = n → x.tuned ≤ 8191 →
        readPassing z src (.telemetry [x]) s = finish s (channelReport c x s) := fun x hx ht => by
      rw [readPassing_telemetry, readTelemetry_one z u hn hx ht]
    refine ⟨fun x xs => ?_, fun x hx => ?_, fun x hx ht => ?report, fun e f x y he hs ht hk => ?sent,
      fun f v x y hno => ?other, fun es hes => ?caps⟩
    · rw [readPassing_telemetry, readPassing_telemetry, readPassing_telemetry]; rfl
    · rw [readPassing_telemetry, readTelemetry_skipped z u hx]
    case report =>
      intro b
      have hb : reported c x s = b := rfl
      have hchan : b.chan c = { s.chan c with
          lastReport := some ⟨x.tuned, min x.level 100, x.pilot, x.squelch, x.busy, s.now⟩ } := chan_reported c x s
      have hstate : (b.chan c).state = (s.chan c).state := by rw [hchan]
      have hassigned : (b.chan c).assigned = (s.chan c).assigned := by rw [hchan]
      have hpending : (b.chan c).pending = (s.chan c).pending := by rw [hchan]
      have hprofile : (b.chan c).profile = (s.chan c).profile := by rw [hchan]
      have hent : b.entryOf c = s.entryOf c := rfl
      have hnote : b.noteOf c = s.noteOf c := rfl
      have hnoted : b.noteIs c x.tuned = true ↔ ∃ k, s.noteOf c = some k ∧ k.target = x.tuned := noteIs_iff x.tuned
      have hoff : b.isOffPlan c x.tuned = true ↔ ((s.chan c).state = .active ∨ (s.chan c).state = .held)
          ∧ s.entryOf c = none ∧ (s.chan c).assigned ≠ some x.tuned := by
        rw [isOffPlan_iff, hstate, hassigned, hent]
      have hclear : x.busy = false → readPassing z src (.telemetry [x]) s = finish s (clearReport c x b) := fun hbusy => by
        rw [hone x hx ht, channelReport_eq, hb, hbusy]; rfl
      have hdark : x.busy = false → (s.chan c).state = .dark →
          readPassing z src (.telemetry [x]) s = finish s (resolveDark c x.tuned b) := fun hbusy hd => by
        rw [hclear hbusy, clearReport_dark (s := b) (hstate.trans hd)]
      have hsettled : x.busy = false → (s.chan c).state ≠ .dark → (∀ e, s.entryOf c = some e → e.state ≠ .locking) →
          readPassing z src (.telemetry [x]) s = finish s
            (if b.noteIs c x.tuned then evaluate c (reportEvidence (min x.level 100) x.dropouts x.pilot) (fulfil c x.tuned b)
              else if b.isOffPlan c x.tuned then adoptOffPlan c x.tuned b
              else evaluate c (reportEvidence (min x.level 100) x.dropouts x.pilot) b) := fun hbusy hd hl => by
        rw [hclear hbusy, clearReport_settled (s := b) (by rw [hstate]; exact hd) hl]
      refine ⟨fun hbusy => ?busy, fun hbusy hd e he hl => ?locking, fun hbusy hd ha => ?same, fun hbusy hs he hk ha => ?off,
        fun hbusy hd ha hp => ?pending, fun hbusy hd ha hp => ?third, fun hbusy hd hl => ?settled⟩
      case busy => rw [hone x hx ht, channelReport_eq, hb, if_pos hbusy]
      case locking =>
        rw [hclear hbusy, clearReport_locking (s := b) (by rw [hstate]; exact hd) (hent.trans he) hl]
      case same =>
        obtain ⟨h1, h2, h3⟩ := resolveSame_record (s := b) (hstate.trans hd)
        refine ⟨resolveSame c b, ?_, ?_, fun d hne => (h2 d hne).trans (chan_setChan_other s _ hne), h3⟩
        · rw [hdark hbusy hd, resolveDark_same (hassigned.trans ha)]; rfl
        · rw [h1, hprofile, hchan]; rfl
      case off =>
        have hno : ¬ b.noteIs c x.tuned = true := fun h => by
          obtain ⟨k, hk', -⟩ := hnoted.mp h
          exact absurd (hk'.symm.trans hk) (by simp)
        have hnd : (s.chan c).state ≠ .dark := fun h => by rw [h] at hs; exact hs.elim (fun h => nomatch h) fun h => nomatch h
        rw [hsettled hbusy hnd (fun e he' => absurd (he'.symm.trans he) (by simp)), if_neg hno, if_pos (hoff.mpr ⟨hs, he, ha⟩),
          adoptOffPlan, dropNote_of_none (s := b) hk, hassigned]
      case pending =>
        intro t
        rw [hdark hbusy hd, resolveDark_pending (by rw [hassigned]; exact ha) (hpending.trans hp), resolvePending_eq, hassigned,
          hprofile]
        rfl
      case third =>
        intro t
        have hthird : resolveThird c x.tuned b = t := by rw [resolveThird, hassigned]
        have hflag : (b.chan c).exclConflict = r.exclConflict := by rw [hchan]
        rw [hdark hbusy hd, resolveDark_third (by rw [hassigned]; exact ha) (by rw [hpending]; exact hp), hthird,
          startAdopted_eq, hflag]
        rfl
      case settled =>
        intro ev
        have hread := hsettled hbusy hd hl
        refine ⟨fun k hk hkt => ?_, fun hk hwhy => ?_, fun hk hs he ha => ?_⟩
        · have hsame : (b.chan c).settled = r.settled := by rw [hchan]; rfl
          rw [hread, if_pos (hnoted.mpr ⟨k, hk, hkt⟩), fulfil_eq, hsame, hassigned, hent]; rfl
        · have hno : ¬ b.isOffPlan c x.tuned = true := fun h => by
            obtain ⟨h1, h2, h3⟩ := hoff.mp h
            rcases hwhy with hw | hw | hw | hw | hw
            · exact hw h2
            · exact h3 hw
            all_goals exact h1.elim (fun h1 => nomatch hw.symm.trans h1) fun h1 => nomatch hw.symm.trans h1
          rw [hread, if_neg fun h => ?_, if_neg hno]
          obtain ⟨k, hk1, hk2⟩ := hnoted.mp h
          exact hk k hk1 hk2
        · rw [hread, if_neg fun h => ?_, if_pos (hoff.mpr ⟨hs, he, ha⟩), adoptOffPlan, hassigned]
          · rfl
          · obtain ⟨k, hk1, hk2⟩ := hnoted.mp h
            exact hk k hk1 hk2
    case sent =>
      have hread : ∀ v, readPassing z src (.tuneReport ⟨n, f, v, x, y⟩) s = finish s (noteReport c f v
          (if v = 0 then s.putEntry { e with state := .locking, replyDl := none, lockDl := some (s.now + 2000) }
            else sendEnded e x s)) := fun v => by
        rw [readPassing_tuneReport, readTuneReport_eq z u hn, entryReport_of_sent he hs ht]
      have hnone : ∀ t : State, t.notes = s.notes → ∀ k, t.noteOf c = some k → k.target ≠ f := fun t hnotes k hk' => by
        rw [State.noteOf, hnotes] at hk'
        exact absurd (hk'.symm.trans hk) (by simp)
      refine ⟨?_, fun v hv => ?_⟩
      · rw [hread, if_pos rfl, noteReport_of_other (hnone (s.putEntry _) rfl)]
      · rw [hread, if_neg hv, noteReport_of_other (hnone _ (notes_sendEnded e x s)), sendEnded_rejected, entryOf_chan he]
    case other =>
      have hread : readPassing z src (.tuneReport ⟨n, f, v, x, y⟩) s = finish s (noteReport c f v s) := by
        rw [readPassing_tuneReport, readTuneReport_eq z u hn, entryReport_of_other hno]
      refine ⟨fun hk => ?_, fun k hk hkt => ?_⟩
      · rw [hread, noteReport_of_other hk]
      · rw [hread, noteReport_of_note hk hkt, fulfil_eq]; rfl
    case caps =>
      intro has skipped position carried record
      have hfit : ∀ e ∈ es.filter fun e => !skipped e, e.fitted ≤ 1 := fun e he => hes e (List.mem_filter.mp he).1
      have hrecord : ∀ t, ∀ e ∈ es.filter fun e => !skipped e, recordCap (capPosition z u e) e t = record t e := fun t e he => by
        rw [recordCap_eq _ (hfit e he)]
        simp only [contains_eq]
        rfl
      obtain ⟨hcap, hback, hkeep⟩ := recordCaps z u hfit s
      have hread : readCapability z u es s
          = (es.filter fun e => !skipped e).foldl (fun t e => recordCap (capPosition z u e) e t) s := readCapability_eq z u hes s
      refine ⟨_, (readPassing_capability z u es s).trans (congrArg (finish s) hread), List.foldl_ext _ _ _ hrecord, fun d => ?_,
        ?_, hkeep⟩
      · have hlast : ((es.filter fun e => !skipped e).filter fun e => capPosition z u e = d)
            = es.filter fun e => !skipped e && position e = d := by
          rw [List.filter_filter]
          exact List.filter_congr fun e _ => Bool.and_comm _ _
        rw [hcap d, hlast] <;> rfl
      · rw [hback]
        simp only [List.any_filter]
        rfl

end Sys2Proof.Machine
end
